-- ==== Sys2Proof/Word.lean ====
section
/-! DEFINITION. The plainest words of the PL-220: bytes, web positions and fixed-size vectors. -/

namespace Sys2Proof

/-- One byte of a store, a request, a response or a payload. -/
abbrev Byte := BitVec 8

/-- A web position or a count of web in web counts, modulo 2^32 (00_scope, Position arithmetic). -/
abbrev Pos := BitVec 32

/-- A station id, 0 to 15 in line order (00_scope, The line and where a bay sits in it). -/
abbrev StationId := Fin 16

/-- The vector whose entry at `i` is `f i`. -/
def tabulate {α : Type} {n : Nat} (f : Fin n → α) : Vector α n :=
  ⟨⟨List.ofFn f⟩, by simp⟩

/-- The position that a plain number of web counts names. -/
def toPos (n : Nat) : Pos := BitVec.ofNat 32 n

end Sys2Proof
end

