-- ==== Sys2Proof/Syntax.lean ====
section
/-! DEFINITION. The commands and events of the PL-220, one constructor for each row of spec/opcode_table.json, with the data each
carries across the pins: the argument bytes of a port request (11.3), the payload fields of a link frame (11.1), the value
a sensor shows. -/

namespace Sys2Proof

/-- What brings about a power-on (R201): power applied, or RESET_N held low for a number of microseconds. -/
inductive ResetCause where
  | power
  | resetLow (micros : Nat)
deriving DecidableEq, Repr

/-- The two spindles of a turret (R135). -/
inductive SpindleId where
  | a
  | b
deriving DecidableEq, Repr

/-- The ADVANCE payload as carried, field by field (11.1). -/
structure AdvancePayload where
  /-- station state code -/
  state : Byte
  /-- own limit -/
  limit : BitVec 16
  /-- effective rate -/
  rate : BitVec 16
  /-- outlet count O -/
  outlet : Pos
  /-- inlet panel length -/
  inLen : BitVec 32
  /-- outlet panel length -/
  outLen : BitVec 32
  /-- marks-sent count -/
  sent : Byte
  /-- bit 7 knife, 6 set, 5 stand, 4 dancer, 3 keep-warm, 2 fault, 1 joining, 0 stop latch -/
  flags : Byte
deriving DecidableEq, Repr

/-- The MARK payload as carried, field by field (11.1). -/
structure MarkPayload where
  /-- marks-sent count of the announcement -/
  count : Byte
  /-- bits 7 to 5 of byte 1 -/
  kind : BitVec 3
  /-- bit 4 of byte 1 -/
  spare : Bool
  /-- bits 3 to 0 of byte 1 -/
  origin : BitVec 4
  /-- outlet position -/
  position : Pos
  /-- extent or panel number -/
  value : BitVec 16
  /-- roll number -/
  roll : Byte
deriving DecidableEq, Repr

/-- The commands and events, in the order of spec/opcode_table.json. -/
inductive Instr where
  /-- POWER_ON (R201) -/
  | powerOn (cause : ResetCause)
  /-- FETCH (R179): a transaction of `bytes` bytes whose first is FFh -/
  | fetch (bytes : Nat)
  /-- TRANSACTION_DISCARDED (R179): a transaction with `edges` rising clock edges -/
  | transactionDiscarded (edges : Nat)
  /-- UNKNOWN_COMMAND (R179): a request whose command byte names no command -/
  | unknownCommand (command : Byte) (args : List Byte)
  /-- WRITE_SET (R182) -/
  | writeSet (args : List Byte)
  /-- LOAD_PATTERN (R27) -/
  | loadPattern (args : List Byte)
  /-- CHECK_PATTERN (R31) -/
  | checkPattern (args : List Byte)
  /-- CHECK_PATTERN_END (R35) -/
  | checkPatternEnd
  /-- START (R186) -/
  | start (args : List Byte)
  /-- RESTART (R192) -/
  | restart (args : List Byte)
  /-- CLEAR_FAULT (R190) -/
  | clearFault (args : List Byte)
  /-- STOP (R6) -/
  | stop (args : List Byte)
  /-- RESUME (R7) -/
  | resume (args : List Byte)
  /-- WAKE (R117) -/
  | wake (args : List Byte)
  /-- LOAD_ROLL (R136) -/
  | loadRoll (args : List Byte)
  /-- UNLOAD (R137) -/
  | unload (args : List Byte)
  /-- CLEAR_ZONE (R107) -/
  | clearZone (args : List Byte)
  /-- READ_STATUS (R181) -/
  | readStatus (args : List Byte)
  /-- READ_PEER_VIEW (R181) -/
  | readPeerView (args : List Byte)
  /-- READ_QUEUES (R181) -/
  | readQueues (args : List Byte)
  /-- READ_PANEL_LOG (R154) -/
  | readPanelLog (args : List Byte)
  /-- EVENT_ENABLE (R197) -/
  | eventEnable (args : List Byte)
  /-- EVENT_ACKNOWLEDGE (R196) -/
  | eventAcknowledge (args : List Byte)
  /-- EVENT_END (R197) -/
  | eventEnd (args : List Byte)
  /-- EVENT_CLEAR (R197) -/
  | eventClear (args : List Byte)
  /-- RAMP_TIMER_EXPIRY (R11) -/
  | rampTimerExpiry
  /-- DANCER_SAMPLE (R3): the raw 10-bit level -/
  | dancerSample (level : BitVec 10)
  /-- RUN_BEGIN (R13) -/
  | runBegin
  /-- PANEL_DECISION (R50) -/
  | panelDecision
  /-- STEP_START (R14) -/
  | stepStart
  /-- DECODE_END (R37) -/
  | decodeEnd
  /-- STEP_TIMER_EXPIRY (R18) -/
  | stepTimerExpiry
  /-- FLAT_STEP_PULSE (R19) -/
  | flatStepPulse
  /-- CONTINUOUS_PULSE (R21) -/
  | continuousPulse
  /-- FEED_PULSE (R43) -/
  | feedPulse
  /-- TUCK_END (R44) -/
  | tuckEnd
  /-- PRESS_END (R44) -/
  | pressEnd
  /-- RELEASE_END (R44) -/
  | releaseEnd
  /-- ABORTING_END (R47) -/
  | abortingEnd
  /-- DESKEW_TIMER_EXPIRY (R66): of one fold sensor channel -/
  | deskewTimerExpiry (channel : Fin 8)
  /-- FOLD_SENSOR_CHANGE (R66): a raw channel level as it now stands -/
  | foldSensorChange (channel : Fin 8) (level : Bool)
  /-- REST_TIMER_EXPIRY (R78) -/
  | restTimerExpiry
  /-- CONVERTER_TIMER_EXPIRY (R99): the four 12-bit converter readings -/
  | converterTimerExpiry (r0 r1 r2 r3 : BitVec 12)
  /-- SETTLE_TIMER_EXPIRY (R103): of one zone -/
  | settleTimerExpiry (zone : Fin 4)
  /-- SECONDS_TIMER_EXPIRY (R108) -/
  | secondsTimerExpiry
  /-- PURGE_TIMER_EXPIRY (R112) -/
  | purgeTimerExpiry
  /-- IDLE_TIMER_EXPIRY (R114) -/
  | idleTimerExpiry
  /-- DWELL_TIMER_EXPIRY (R128) -/
  | dwellTimerExpiry
  /-- STAND_TIMER_EXPIRY (R138) -/
  | standTimerExpiry
  /-- AT_SPEED_CHANGE (R142): an at-speed input as it now stands -/
  | atSpeedChange (spindle : SpindleId) (level : Bool)
  /-- ARMING_TIMER_EXPIRY (R142) -/
  | armingTimerExpiry
  /-- PASTE (R143) -/
  | paste
  /-- PASTE_TIMER_EXPIRY (R144) -/
  | pasteTimerExpiry
  /-- CUT_PULSE_END (R144) -/
  | cutPulseEnd
  /-- PUBLICATION_TIMER_EXPIRY (R167) -/
  | publicationTimerExpiry
  /-- LINK_JOIN_IDLE (R157) -/
  | linkJoinIdle
  /-- TRANSMISSION_START (R160) -/
  | transmissionStart
  /-- ARBITRATION_LOST (R160) -/
  | arbitrationLost
  /-- TRANSMIT_FAILURE (R161) -/
  | transmitFailure
  /-- TRANSMISSION_SUCCESS (R161) -/
  | transmissionSuccess
  /-- ADVANCE_FRAME (R173): a good ADVANCE frame with the sender id its header bears -/
  | advanceFrame (sender : StationId) (payload : AdvancePayload)
  /-- MARK_FRAME (R83): a good MARK frame -/
  | markFrame (sender : StationId) (payload : MarkPayload)
  /-- STOP_FRAME (R6): a good STOP frame with its reason byte -/
  | stopFrame (sender : StationId) (reason : Byte)
  /-- RESUME_FRAME (R7): a good RESUME frame -/
  | resumeFrame (sender : StationId)
  /-- BAD_FRAME (R170) -/
  | badFrame
  /-- FOREIGN_FRAME (R171): a good frame from an id of N or above -/
  | foreignFrame (sender : StationId)
  /-- UNKNOWN_KIND_FRAME (R171): a good frame of a kind of no part -/
  | unknownKindFrame (sender : StationId) (kind : BitVec 4)
  /-- STALENESS_TIMER_EXPIRY (R176): of one peer's record -/
  | stalenessTimerExpiry (peer : StationId)
  /-- DUPLICATE_ID_FRAME (R172): a good frame of a kind that bears the own id -/
  | duplicateIdFrame (kind : BitVec 4)
deriving DecidableEq, Repr

end Sys2Proof
end

