-- ==== Sys2Proof/Config.lean ====
section
/-! DEFINITION. What an implementation of the PL-220 fixes and the spec leaves open: free values with no body, so that nothing can be
proved of them but what holds for every value. -/

namespace Sys2Proof

/-- The outcome of the `n`-th choice between two orders, or two values, that the spec leaves open (DESIGN CHOICE, log 6). -/
opaque Config.choice : Nat → Bool

/-- Whether a SPLICE DONE or TRANSFER DONE change record names the new roll's spindle or the old one's (R155, DESIGN CHOICE, log 15); the argument
says whether the cause is TRANSFER DONE. -/
opaque Config.changeNamesNew : Bool → Bool

/-- The status word's code of the latch state of K, of the LATCHED state and of the other (11.4 gives none; DESIGN CHOICE, log 17). -/
opaque Config.latchStateCode : Bool → Byte

/-- The status word's code of the keep-warm state, of IN FORCE and of LEFT (11.4 gives none; DESIGN CHOICE, log 17). -/
opaque Config.keepWarmCode : Bool → Byte

/-- Whether a remaining time that is no whole number of milliseconds reads rounded up (11.4 does not say; DESIGN CHOICE, log 17). -/
opaque Config.msRoundsUp : Bool

/-- Whether a peer's age that is no whole number of milliseconds reads rounded up (R174 does not say; DESIGN CHOICE, log 17). -/
opaque Config.ageRoundsUp : Bool

/-- The cell count that the status word shows while no SET set gives a cell length: R123 divides by it (DESIGN CHOICE, log 36). -/
opaque Config.cellCountUnset : Nat

/-- The table span that the status word shows at an outlet distance while no SET set gives a cell length (R123; DESIGN CHOICE, log 36). -/
opaque Config.tableSpanUnset : Nat → Nat

end Sys2Proof
end

