-- ==== Sys2Proof/Machine/State.lean ====
section
/-! DEFINITION. The state of the PL-220, block by block, as plain data, and its values after power-on. -/

namespace Sys2Proof.Machine

/-! ## Configuration sets (10.3) -/

/-- Stand kind (R183); codes NONE 0, UNWIND 1, REWIND 2. -/
inductive StandKind where
  | none
  | unwind
  | rewind
deriving DecidableEq, Repr

/-- Pattern role (R183); codes NONE 0, LEADER 1, FOLLOWER 2. -/
inductive Role where
  | none
  | leader
  | follower
deriving DecidableEq, Repr

/-- Match mode (R67); codes ALL 0, ANY 1, AT_LEAST_k 2. -/
inductive MatchMode where
  | all
  | any
  | atLeast
deriving DecidableEq, Repr

/-- The LINE set (R183). -/
structure LineSet where
  id : StationId := 0
  n : Nat := 0
  standKind : StandKind := .none
  role : Role := .none
  stationMax : Nat := 0
  up : Nat := 0
  down : Nat := 0
deriving DecidableEq, Repr

/-- The FEED set (R184): `a` knife line distance, `aS` sensor offset, `b` outlet distance, `s0` fixed path length. -/
structure FeedSet where
  a : Nat := 0
  aS : Nat := 0
  b : Nat := 0
  vFeed : Nat := 0
  s0 : Nat := 0
  scale : Nat := 0
  tripLo : Nat := 0
  holdLo : Nat := 0
  setpoint : Nat := 0
  holdHi : Nat := 0
  tripHi : Nat := 0
  gain : Nat := 0
deriving DecidableEq, Repr

/-- The KNIFE set (R185): phase times in ms, guard `g`, and the registration settings of section 4.2. -/
structure KnifeSet where
  tTuck : Nat := 0
  tPress : Nat := 0
  tRelease : Nat := 0
  g : Nat := 0
  registration : Bool := false
  deskew : Nat := 0
  mode : MatchMode := .all
  count : Nat := 0
  window : Nat := 0
  maxTrim : Nat := 0
deriving DecidableEq, Repr

/-- The settings of one zone (6.1). -/
structure ZoneSet where
  length : Nat := 0
  setpoint : Nat := 0
deriving DecidableEq, Repr

/-- The SET set (6.1, R185). `mask` holds one keep-warm flag per zone. -/
structure BoxSet where
  zoneCount : Nat := 0
  zones : Vector ZoneSet 4 := tabulate fun _ => {}
  base : Nat := 0
  span : Nat := 0
  band : Nat := 0
  hyst : Nat := 0
  margin : Nat := 0
  settle : Nat := 0
  dwell : Nat := 0
  purgeInterval : Nat := 0
  purgeTime : Nat := 0
  cell : Nat := 0
  entry : Nat := 0
  mask : BitVec 4 := 0
  drop : Nat := 0
deriving DecidableEq, Repr

/-- The STAND set (8.1, R185). -/
structure StandSet where
  cap : Nat := 0
  tArm : Nat := 0
  tPaste : Nat := 0
  dP : Nat := 0
  margin : Nat := 0
  target : Nat := 0
  maxWound : Nat := 0
deriving DecidableEq, Repr

/-- The five sets and their written marks (10.3). An unwritten set reads as its power-on values. -/
structure Sets where
  line : LineSet := {}
  feed : FeedSet := {}
  knife : KnifeSet := {}
  box : BoxSet := {}
  stand : StandSet := {}
  lineW : Bool := false
  feedW : Bool := false
  knifeW : Bool := false
  boxW : Bool := false
  standW : Bool := false
deriving DecidableEq, Repr

/-! ## Rate Resolver (chapter 1) -/

/-- The origin of a stop cause (R6). -/
inductive StopOrigin where
  | peer (id : StationId)
  | port
  | fault
deriving DecidableEq, Repr

/-- The stop cause (R6): its origin and its reason as carried. -/
structure StopCause where
  origin : StopOrigin
  reason : Byte
deriving DecidableEq, Repr

/-- The five limit components, the own limit, the resolved and the effective rate, the stop latch (R1 to R12). -/
structure RateState where
  stationMax : Nat := 60000
  knifeLimit : Nat := 60000
  setLimit : Nat := 60000
  standLimit : Nat := 60000
  dancerLimit : Nat := 60000
  own : Nat := 0
  resolved : Nat := 0
  effective : Nat := 0
  latch : Bool := false
  cause : Option StopCause := none
  rampDue : Nat := 10000
deriving DecidableEq, Repr

/-! ## Pattern Store and Decoder (chapter 2) -/

/-- The kinds of a step (R29); the codes are FLAT 01, FOLD_LEFT 10, FOLD_RIGHT 11. -/
inductive StepKind where
  | flat
  | foldLeft
  | foldRight
deriving DecidableEq, Repr

/-- A decoded step (R37). `width`, `depth` and `flag` are those of a FOLD step and 0, 0, false at a FLAT step. -/
structure Step where
  kind : StepKind
  pitch : Nat
  width : Nat
  depth : Nat
  flag : Bool
  number : Nat
  offset : Nat
  last : Bool
deriving DecidableEq, Repr

/-- Pattern status (R28). -/
inductive PatternStatus where
  | invalid
  | checking
  | valid
deriving DecidableEq, Repr

/-- The kinds of a check failure (R35). -/
inductive PatternErrorKind where
  | badField
  | tooLong
  | noEnd
  | empty
  | unrunnable
deriving DecidableEq, Repr

/-- The error record of a failed check (R35). -/
structure PatternError where
  kind : PatternErrorKind
  offset : Nat
  step : Nat
deriving DecidableEq, Repr

/-- The pattern store, its loaded length, the status and the check results (R26 to R36). -/
structure Pattern where
  store : List Host.Cell := []
  loaded : Nat := 0
  status : PatternStatus := .invalid
  p : Nat := 0
  q : Nat := 0
  steps : Nat := 0
  knifeLimit : Nat := 0
  endOff : Nat := 0
  err : Option PatternError := none
deriving DecidableEq, Repr

/-- The running decoder (2.5). -/
structure Decoder where
  cursor : Nat := 0
  prevW : Nat := 0
  prevD : Nat := 0
  stepNo : Nat := 0
  next : Option Step := none
deriving DecidableEq, Repr

/-! ## Cadence Generator (chapter 1) -/

/-- The modes of the Cadence Generator (1.5). -/
inductive CadenceMode where
  | idle
  | stepping
  | continuous
deriving DecidableEq, Repr

/-- The step in progress: the last step taken whose closing boundary has not been reached (R14, R18, R41, R55). -/
structure StepInfo where
  number : Nat
  kind : StepKind
  pitch : Nat
  start : Pos
  outletStart : Pos
  yield : Nat
  last : Bool
  complete : Bool
  due : Nat
deriving DecidableEq, Repr

/-- The Cadence Generator (R3, R13 to R24). `sample` is none until the first dancer sample, and reads as the setpoint then (R3). -/
structure Cadence where
  mode : CadenceMode := .idle
  begun : Bool := false
  pn : Nat := 0
  panelPeriod : Nat := 0
  stepPeriod : Nat := 0
  carry : Nat := 0
  trim : Int := 0
  trimmed : Nat := 0
  sample : Option Nat := none
  sampleDue : Nat := 0
  overruns : Nat := 0
  base : Nat := 0
  idx : Nat := 0
  lastPulse : Option Nat := none
  remaining : Nat := 0
  cur : Option StepInfo := none
deriving DecidableEq, Repr

/-! ## Knife Sequencer and Panel Planner (chapter 3) -/

/-- The knife phases (3.1). -/
inductive KnifePhase where
  | idle
  | feed
  | tuck
  | press
  | release
  | aborting
deriving DecidableEq, Repr

/-- The direction of a fold (R42). -/
inductive Direction where
  | left
  | right
deriving DecidableEq, Repr

/-- The cycle record of the step in flight (R42). -/
structure Cycle where
  step : Nat
  dir : Direction
  w : Nat
  f : Nat
  start : Pos
  outletStart : Pos
  remaining : Nat
deriving DecidableEq, Repr

/-- The Knife Sequencer (R42 to R48). -/
structure Knife where
  phase : KnifePhase := .idle
  cycle : Option Cycle := none
  halted : Bool := false
  base : Nat := 0
  idx : Nat := 0
  due : Nat := 0
  missed : Nat := 0
deriving DecidableEq, Repr

/-- The states of the leader's Panel Planner (3.2). -/
inductive LeaderState where
  | off
  | pending
  | panel
  | closing
  | bridge
deriving DecidableEq, Repr

/-- The leader's Panel Planner (R49 to R59). -/
structure Leader where
  state : LeaderState := .off
  number : Nat := 0
  start : Pos := 0
  outlet : Pos := 0
  target : Pos := 0
  targetSet : Bool := false
  held : Option Pos := none
  aborts : Nat := 0
deriving DecidableEq, Repr

/-- The states of the follower's Panel Planner (3.3). -/
inductive FollowerState where
  | off
  | waiting
  | panel
deriving DecidableEq, Repr

/-- The follower's Panel Planner (R60 to R65). -/
structure Follower where
  state : FollowerState := .off
  number : Nat := 0
  start : Pos := 0
  overruns : Nat := 0
  matched : Bool := false
deriving DecidableEq, Repr

/-! ## Fold Registration Unit (chapter 4) -/

/-- A detection record (R68). -/
structure Detection where
  x : Pos
  used : Bool
deriving DecidableEq, Repr

/-- An open expectation (R70). -/
structure Expectation where
  step : Nat
  x : Pos
  deadline : Pos
deriving DecidableEq, Repr

/-- The Fold Registration Unit (R66 to R75). `raw` holds the FOLD0 to FOLD7 inputs, `timers` the stability timers' expiries. -/
structure Registration where
  raw : BitVec 8 := 0
  filtered : BitVec 8 := 0
  timers : Vector (Option Nat) 8 := tabulate fun _ => none
  history : List Detection := []
  nominal : Pos := 0
  expect : Option Expectation := none
  c : Int := 0
  u : Int := 0
  misses : Nat := 0
  lastErr : Int := 0
  lastU : Int := 0
  detections : Nat := 0
  accepted : Nat := 0
deriving DecidableEq, Repr

/-! ## Web Tracker (chapter 5) -/

/-- What a mark records, with the field its kind carries (5.3). -/
inductive MarkBody where
  | splice (roll : Byte)
  | panel (number : BitVec 16)
  | abort (number : BitVec 16)
  | underset (extent : BitVec 16)
  | missfold
deriving DecidableEq, Repr

/-- A mark (5.3): its position is in the coordinate of the collection that holds it. -/
structure Mark where
  body : MarkBody
  origin : StationId
  pos : Pos
deriving DecidableEq, Repr

/-- A bay queue entry: WAITING, or AWAITING CREDIT when `awaiting` is set (R81, R87). -/
structure BayEntry where
  mark : Mark
  awaiting : Bool
deriving DecidableEq, Repr

/-- The kind of a segment (R77). -/
inductive SegmentKind where
  | flow
  | fold (w : Nat) (credited : Bool)
deriving DecidableEq, Repr

/-- The current segment record (R77). -/
structure Segment where
  kind : SegmentKind := .flow
  start : Pos := 0
  outletStart : Pos := 0
deriving DecidableEq, Repr

/-- The Web Tracker (R76 to R97). `restDue` is none while the rest timer has expired. `pn` is 0 while none is adopted. -/
structure Web where
  i : Pos := 0
  o : Pos := 0
  k : Pos := 0
  latched : Bool := false
  latches : Nat := 0
  restDue : Option Nat := none
  seg : Segment := {}
  span : List Mark := []
  bay : List BayEntry := []
  outlet : List Mark := []
  sent : Byte := 0
  received : Byte := 0
  baseline : Bool := false
  pn : Nat := 0
  discarded : Nat := 0
deriving DecidableEq, Repr

/-! ## Zone Controller and Drain Arbiter (chapter 6) -/

/-- The zone states (6.3). -/
inductive ZoneState where
  | off
  | warming
  | ready
  | open
  | purge
  | keepwarm
  | fault
deriving DecidableEq, Repr

/-- The cause of a zone fault (R106). -/
inductive ZoneCause where
  | overtemperature
  | sensor
deriving DecidableEq, Repr

/-- The events of a zone's or the box's change record (R121). -/
inductive ZoneEvent where
  | faulted
  | settled
  | forcedClose
  | keepWarmEntered
  | keepWarmLeft
deriving DecidableEq, Repr

/-- One zone's record. `settle` is the settle timer's expiry; `change` holds the event and the zone state after it (R121). -/
structure Zone where
  state : ZoneState := .off
  raw : BitVec 12 := 0
  temp : Nat := 0
  sensorFault : Bool := false
  heater : Bool := false
  settle : Option Nat := none
  counter : Nat := 0
  debt : Nat := 0
  cause : Option ZoneCause := none
  faultTemp : Nat := 0
  change : Option (ZoneEvent × ZoneState) := none
deriving DecidableEq, Repr

/-- The idle timer (R114). -/
inductive IdleTimer where
  | running (due : Nat)
  | stopped
  | expired
deriving DecidableEq, Repr

/-- The Zone Controller and the Drain Arbiter (R98 to R122). -/
structure Box where
  zones : Vector Zone 4 := tabulate fun _ => {}
  owner : Option (Fin 4) := none
  purgeDue : Nat := 0
  idle : IdleTimer := .stopped
  inForce : Bool := false
  keepwarms : Nat := 0
  forced : Nat := 0
  change : Option ZoneEvent := none
  converterDue : Nat := 100000
  secondsDue : Nat := 1000000
deriving DecidableEq, Repr

/-! ## Dwell Table (chapter 7) -/

/-- A cell record (R124). -/
structure DwellCell where
  start : Pos
  dwell : Nat
  panel : Option (BitVec 16)
deriving DecidableEq, Repr

/-- The open underset range (R130). -/
structure UndersetRange where
  start : Pos
  extent : Nat
deriving DecidableEq, Repr

/-- The Dwell Table (R123 to R134). -/
structure Dwell where
  cells : List DwellCell := []
  nextStart : Pos := 0
  tag : Option (BitVec 16) := none
  range : Option UndersetRange := none
  exited : Nat := 0
  underset : Nat := 0
  announced : Nat := 0
  dwellDue : Nat := 100000
deriving DecidableEq, Repr

/-! ## Roll Stand Sequencer (chapter 8) -/

/-- The spindle states of both stands (R135). -/
inductive SpindleState where
  | empty
  | loaded
  | running
  | winding
  | arming
  | synced
  | spent
  | full
deriving DecidableEq, Repr

/-- A spindle record (R135). -/
structure Spindle where
  state : SpindleState := .empty
  roll : Byte := 0
  armFailed : Bool := false
  length : Nat := 0
  consumed : Nat := 0
  wound : Nat := 0
  closed : Nat := 0
  good : Nat := 0
  reject : Nat := 0
deriving DecidableEq, Repr

/-- The reason flags of a panel (R151). -/
structure Reasons where
  aborted : Bool := false
  split : Bool := false
  underset : Bool := false
  missfold : Bool := false
  splice : Bool := false
deriving DecidableEq, Repr

/-- The open panel record (R151). `roll` is 0 where no spindle was WINDING at the opening (DESIGN CHOICE, log 48). -/
structure OpenPanel where
  number : BitVec 16
  start : Pos
  lengthEnd : Pos
  roll : Byte
  reasons : Reasons
deriving DecidableEq, Repr

/-- A closed panel in the verdict list (R153): `spindle` and `roll` are where it was counted; with no
spindle WINDING it is counted on none and keeps the roll of its opening (DESIGN CHOICE, log 48). -/
structure ClosedPanel where
  number : BitVec 16
  start : Pos
  stop : Pos
  spindle : Option SpindleId
  roll : Byte
  reasons : Reasons
deriving DecidableEq, Repr

/-- A panel log entry (R154). -/
structure LogEntry where
  number : BitVec 16
  roll : Byte
  reject : Bool
  reasons : Reasons
  length : Nat
deriving DecidableEq, Repr

/-- The causes of the ROLL event source (R155). -/
inductive RollCause where
  | spliceDone
  | transferDone
  | rollLow
  | armFailed
deriving DecidableEq, Repr

/-- The stand's change record (R155). -/
structure RollChange where
  cause : RollCause
  spindle : SpindleId
  roll : Byte
deriving DecidableEq, Repr

/-- The Roll Stand Sequencer (R135 to R156). `splicesLeft` holds the positions of the SPLICE marks that have
left and is the model's own (DESIGN CHOICE, log 14). -/
structure Stand where
  a : Spindle := {}
  b : Spindle := {}
  speedA : Bool := false
  speedB : Bool := false
  armDue : Option Nat := none
  pasteDue : Option Nat := none
  cutDue : Option Nat := none
  joint : Pos := 0
  dStop : Nat := 0
  dTrig : Nat := 0
  runOut : Bool := false
  overfill : Bool := false
  pastes : Nat := 0
  splices : Nat := 0
  transfers : Nat := 0
  panel : Option OpenPanel := none
  verdicts : List ClosedPanel := []
  reach : Option Pos := none
  splicesLeft : List Pos := []
  log : List LogEntry := []
  overflow : Bool := false
  change : Option RollChange := none
  standDue : Nat := 10000
deriving DecidableEq, Repr

/-! ## Link Controller and Peer View (chapter 9) -/

/-- The Link Controller's readiness (R157): off, waiting for the first idle, or on. -/
inductive LinkMode where
  | off
  | waiting
  | on
deriving DecidableEq, Repr

/-- The content of the STOP/RESUME slot (R163). -/
inductive StopResume where
  | stop (reason : Byte)
  | resume
deriving DecidableEq, Repr

/-- The body of a frame of this part (R158). -/
inductive FrameBody where
  | stop (reason : Byte)
  | resume
  | mark (payload : MarkPayload)
  | advance (payload : AdvancePayload)
deriving DecidableEq, Repr

/-- The slot a frame on the link was chosen from (R163, R164). -/
inductive Slot where
  | stopResume
  | mark
  | advance
deriving DecidableEq, Repr

/-- The own frame on the link (R164): `replaced` when its slot has been handed a newer frame since its start bit. -/
structure OnLink where
  slot : Slot
  body : FrameBody
  began : Nat
  replaced : Bool
deriving DecidableEq, Repr

/-- The causes of the LINK event source (R178). -/
inductive LinkCause where
  | stale
  | recovered
  | silent
deriving DecidableEq, Repr

/-- The link's change record (R178); `peer` is none at the SILENT cause. -/
structure LinkChange where
  cause : LinkCause
  peer : Option StationId
  rxErrors : Nat
deriving DecidableEq, Repr

/-- The Link Controller (R157 to R172). -/
structure Link where
  mode : LinkMode := .off
  advance : Bool := false
  stopResume : Option StopResume := none
  marks : List MarkPayload := []
  onLink : Option OnLink := none
  failures : Nat := 0
  lost : Nat := 0
  pubOverruns : Nat := 0
  rxErrors : Nat := 0
  foreign : Nat := 0
  unknown : Nat := 0
  pubDue : Option Nat := none
  change : Option LinkChange := none
deriving DecidableEq, Repr

/-- A peer's presence (R174). -/
inductive Presence where
  | unheard
  | live
  | stale
deriving DecidableEq, Repr

/-- A history entry of a neighbour's ADVANCE (R174). -/
structure Heard where
  outlet : Pos
  rate : BitVec 16
deriving DecidableEq, Repr

/-- A peer record (R174). `heardAt` is the instant of the last valid frame, from which the age is read; `hist0` is the newer entry. -/
structure Peer where
  presence : Presence := .unheard
  heardAt : Nat := 0
  staleDue : Option Nat := none
  lastLimit : Nat := 0
  lastRate : Nat := 0
  lastState : Byte := 0
  flags : Byte := 0
  frames : Nat := 0
  hist0 : Option Heard := none
  hist1 : Option Heard := none
  inLen : Nat := 0
  outLen : Nat := 0
  sent : Byte := 0
deriving DecidableEq, Repr

/-! ## Station Port and Event Unit (chapter 10) -/

/-- The station states (10.4). -/
inductive StationState where
  | config
  | joining
  | active
  | fault
  | silent
deriving DecidableEq, Repr

/-- A mark collection (R82). -/
inductive Collection where
  | span
  | bay
  | outlet
deriving DecidableEq, Repr

/-- The station faults with their parameters (the table of section 10.4). Mark kinds are given by their codes of 11.1. -/
inductive StationFault where
  | markGap (expected frame : Byte) (sender : StationId)
  | markOverflow (kind : BitVec 3) (count : Byte)
  | queueOverflow (collection : Collection) (kind : BitVec 3) (origin : StationId)
  | patternMismatch (own published : Nat) (neighbour : StationId)
  | registrationLost (step : Nat) (expected : Pos)
  | dancerTrip (level limit : Nat)
  | runOut (spindle : SpindleId) (roll : Byte)
  | duplicateId (kind : BitVec 4)
deriving DecidableEq, Repr

/-- The fault record (R188). -/
structure FaultRecord where
  first : StationFault
  further : Bool
deriving DecidableEq, Repr

/-- The seven event sources in priority order (10.6). -/
inductive Source where
  | fault
  | stop
  | roll
  | zone
  | registration
  | panelLog
  | link
deriving DecidableEq, Repr

/-- The Station Port and the Event Unit (R179 to R197). `sdo` holds the bits shifted out in the last transaction (DESIGN CHOICE, log 22). The bits of
`ip`, `ius` and `ie` stand as in the source flags of 11.3: bit 6 FAULT to bit 0 LINK. -/
structure Port where
  response : List Byte := []
  sdo : List Bool := []
  state : StationState := .config
  fault : Option FaultRecord := none
  ip : BitVec 7 := 0
  ius : BitVec 7 := 0
  ie : BitVec 7 := 0
deriving DecidableEq, Repr

/-! ## The whole state -/

/-- The state of the PL-220: the queue of waiting commands, the model's time and choice counter, and the blocks. -/
structure State where
  pending : List Instr := []
  now : Nat := 0
  choices : Nat := 0
  sets : Sets := {}
  rate : RateState := {}
  cad : Cadence := {}
  pat : Pattern := {}
  dec : Decoder := {}
  knife : Knife := {}
  leader : Leader := {}
  follower : Follower := {}
  reg : Registration := {}
  web : Web := {}
  box : Box := {}
  dwell : Dwell := {}
  stand : Stand := {}
  link : Link := {}
  peers : Vector Peer 16 := tabulate fun _ => {}
  port : Port := {}
deriving DecidableEq, Repr

/-- The reasons the machine stops with a fault. There is none: the spec gives every command an effect, and its own station faults and
zone faults are state (R106, R188). Safe (DEDUCED, log 27). -/
inductive Fault
deriving DecidableEq, Repr

/-- The reasons a command has no meaning. -/
inductive Refusal where
  /-- The command's arm has no meaning yet; raised by the dispatcher alone. Safe. No arm is left so (DEDUCED, log 27). -/
  | notModelled (mnemonic : String)
deriving DecidableEq, Repr

/-- The machine after power-on (R193), every block at the values its chapter gives. -/
def State.reset : State := {}

end Sys2Proof.Machine
end

