-- ==== Sys2Proof/Machine/Ops.lean ====
section
/-! DEFINITION. The named operations every block shares: position arithmetic, saturating counts, the pattern store's bytes and bits, the
model's time, the free choices, and the quantities the chapters derive from the sets. -/

namespace Sys2Proof.Machine

/-! ## Positions (00_scope, Position arithmetic) -/

/-- Position `a` is at or beyond position `b` under the half-range rule. -/
def atOrBeyond (a b : Pos) : Bool := decide ((a - b).toNat < 2147483648)

/-- Position `a` is beyond `b`. -/
def beyond (a b : Pos) : Bool := atOrBeyond a b && a != b

/-- Position `a` is before `b`. -/
def before (a b : Pos) : Bool := beyond b a

/-- Insertion in position order (R82): after the last entry whose position the new one is at or beyond, at the head if none. -/
def insertMark {α : Type} (key : α → Pos) (x : α) : List α → List α
  | [] => [x]
  | y :: ys =>
    if (y :: ys).any (fun z => atOrBeyond (key x) (key z)) then y :: insertMark key x ys else x :: y :: ys

/-! ## Counts -/

/-- One more on a 16-bit saturating count. -/
def satInc (n : Nat) : Nat := min (n + 1) 65535

/-- A sum that saturates at the largest 32-bit value (R139, R147). -/
def satAdd32 (n k : Nat) : Nat := min (n + k) 4294967295

/-- The least whole number not below the quotient of two naturals. -/
def ceilDiv (n d : Nat) : Nat := (n + d - 1) / d

/-! ## The pattern store (R26) -/

/-- What an unlisted byte of the pattern store reads as: its power-on value (R26). -/
def storeDefault : Byte := 0

/-- A byte of the store. -/
def readStore : List Host.Cell → Nat → Byte
  | [], _ => storeDefault
  | (b, v) :: rest, at' => if b = at' then v else readStore rest at'

/-- A byte written to the store, which keeps the canonical form: addresses strictly rising, no listed byte at its default. -/
def writeStore : List Host.Cell → Nat → Byte → List Host.Cell
  | [], at', v => if v = storeDefault then [] else [(at', v)]
  | (b, w) :: rest, at', v =>
    if at' < b then (if v = storeDefault then (b, w) :: rest else (at', v) :: (b, w) :: rest)
    else if at' = b then (if v = storeDefault then rest else (at', v) :: rest)
    else (b, w) :: writeStore rest at' v

/-- A chunk written from an offset on (R27). -/
def writeChunk (m : List Host.Cell) (off : Nat) : List Byte → List Host.Cell
  | [] => m
  | v :: vs => writeChunk (writeStore m off v) (off + 1) vs

/-- Addresses from `lo` on strictly rising and below 4096, no entry at the default. -/
def storeWfFrom (lo : Nat) : List Host.Cell → Bool
  | [] => true
  | (b, v) :: rest => decide (lo ≤ b) && decide (b < 4096) && v != storeDefault && storeWfFrom (b + 1) rest

/-- The canonical form of the pattern store. -/
def Memory.wf (m : List Host.Cell) : Bool := storeWfFrom 0 m

/-- Bit `n` of the stream: bit 0 is the most significant bit of byte 0 (R26). -/
def storeBit (m : List Host.Cell) (n : Nat) : Bool := (readStore m (n / 8)).getLsbD (7 - n % 8)

/-- The unsigned value of `len` bits of the stream from bit `off` on, most significant bit first (R29, R30). -/
def storeField (m : List Host.Cell) (off : Nat) : Nat → Nat
  | 0 => 0
  | len + 1 => 2 * storeField m off len + (if storeBit m (off + len) then 1 else 0)

/-! ## Time and free choices -/

/-- Time moves on to an instant that lies ahead (DESIGN CHOICE, log 3). -/
def State.reachTime (s : State) (due : Nat) : State := { s with now := max s.now due }

/-- The empty-queue step lets one microsecond pass (DESIGN CHOICE, log 2). -/
def State.tick (s : State) : State := { s with now := s.now + 1 }

/-- The next free choice (DESIGN CHOICE, log 6). -/
def State.choice (s : State) : Bool := Config.choice s.choices

/-- The choice counter after a free choice. -/
def State.chosen (s : State) : State := { s with choices := s.choices + 1 }

/-- Two effects of one step in the order a free choice gives (DESIGN CHOICE, log 6). -/
def eitherOrder (f g : State → State) (s : State) : State :=
  if s.choice then g (f s.chosen) else f (g s.chosen)

/-! ## Derived quantities -/

/-- Own id. -/
def State.ownId (s : State) : StationId := s.sets.line.id

/-- The knife point I − a (R41). -/
def State.knifePoint (s : State) : Pos := s.web.i - toPos s.sets.feed.a

/-- The latest dancer sample; the setpoint until the first is taken (R3). -/
def State.level (s : State) : Nat := s.cad.sample.getD s.sets.feed.setpoint

/-- The station's inlet panel length (R94, R140). -/
def State.inletLength (s : State) : Nat :=
  match s.sets.line.role with
  | .none => s.web.pn
  | .leader | .follower => s.pat.p

/-- The station's outlet panel length (R94, R119, R147). -/
def State.outletLength (s : State) : Nat :=
  match s.sets.line.role with
  | .none => s.web.pn
  | .leader | .follower => s.pat.q

/-- The id of the upstream neighbour. -/
def State.upstream (s : State) : Option StationId :=
  if s.ownId.val = 0 then none else some (Fin.ofNat 16 (s.ownId.val - 1))

/-- The id of the downstream neighbour. -/
def State.downstream (s : State) : Option StationId :=
  if s.ownId.val + 1 < s.sets.line.n then some (Fin.ofNat 16 (s.ownId.val + 1)) else none

/-- The id of an expected peer: below N and not the own (R9). -/
def State.isPeer (s : State) (id : StationId) : Bool := decide (id.val < s.sets.line.n) && id != s.ownId

/-- The states in which the blocks run: every one but CONFIG. -/
def State.running (s : State) : Bool := s.port.state != .config

/-- A zone of the station: below the zone count (R98). -/
def State.isZone (s : State) (z : Fin 4) : Bool := decide (z.val < s.sets.box.zoneCount)

/-- The lengths of the zones below a count, from zone 0 on (R98, R127). -/
def BoxSet.lengthBelow (b : BoxSet) (count : Nat) : Nat :=
  (List.finRange 4).foldl (fun n z => if z.val < count then n + b.zones[z].length else n) 0

/-- The box length (R98). -/
def BoxSet.boxLength (b : BoxSet) : Nat := b.lengthBelow b.zoneCount

/-- The cell count (R123). -/
def BoxSet.cellCount (b : BoxSet) : Nat := ceilDiv b.boxLength b.cell

/-- The table span of a cell length and an outlet distance (R123). -/
def tableSpan (b cell : Nat) : Nat := 1 + ceilDiv b cell

/-- The cells kept beyond the end of a panel before its verdict (R153). -/
def State.verdictWait (s : State) : Nat := if 0 < s.sets.box.zoneCount then s.sets.box.cell else 0

/-- The mark kind codes of 11.1. -/
def MarkBody.code : MarkBody → BitVec 3
  | .splice _ => 1
  | .panel _ => 2
  | .abort _ => 3
  | .underset _ => 4
  | .missfold => 5

/-- The fault kind codes of 11.1. -/
def StationFault.code : StationFault → Byte
  | .markGap _ _ _ => 1
  | .markOverflow _ _ => 2
  | .queueOverflow _ _ _ => 3
  | .patternMismatch _ _ _ => 4
  | .registrationLost _ _ => 5
  | .dancerTrip _ _ => 6
  | .runOut _ _ => 7
  | .duplicateId _ => 8

end Sys2Proof.Machine
end

