-- ==== Sys2Proof/WellFormed.lean ====
section
/-! DEFINITION. Which commands are well formed: the row they stand for is the row the spec would name. -/

namespace Sys2Proof

/-- The command bytes that name a command (11.3). -/
def commandBytes : List Byte :=
  [0x10, 0x11, 0x12, 0x20, 0x21, 0x22, 0x23, 0x24, 0x25, 0x30, 0x31, 0x32, 0x40, 0x41, 0x42, 0x43, 0x50, 0x51, 0x52, 0x53]

/-- The command byte of the fetch (R179). -/
def fetchByte : Byte := 0xFF

/-- The frame kinds of the part: STOP 1h, RESUME 2h, MARK 5h, ADVANCE 8h (11.1). -/
def knownKinds : List (BitVec 4) := [1, 2, 5, 8]

/-- A power-on that is certain: power applied, or RESET_N low for 10 microseconds or more (R201). -/
def ResetCause.certain : ResetCause → Bool
  | .power => true
  | .resetLow micros => decide (10 ≤ micros)

/-- The well-formedness of a command. A fetch holds at least its command byte, a discarded transaction has no whole number of bytes or
no edge at all, an unknown command is unknown (R179), an unknown kind is unknown (R171), and a power-on is long enough (R201). -/
def Instr.wf : Instr → Bool
  | .powerOn cause => cause.certain
  | .fetch bytes => decide (1 ≤ bytes)
  | .transactionDiscarded edges => decide (edges = 0 ∨ edges % 8 ≠ 0)
  | .unknownCommand command _ => !(commandBytes.contains command) && command != fetchByte
  | .unknownKindFrame _ kind => !(knownKinds.contains kind)
  | .writeSet _ | .loadPattern _ | .checkPattern _ | .checkPatternEnd | .start _ | .restart _ | .clearFault _ | .stop _
  | .resume _ | .wake _ | .loadRoll _ | .unload _ | .clearZone _ | .readStatus _ | .readPeerView _ | .readQueues _
  | .readPanelLog _ | .eventEnable _ | .eventAcknowledge _ | .eventEnd _ | .eventClear _ | .rampTimerExpiry
  | .dancerSample _ | .runBegin | .panelDecision | .stepStart | .decodeEnd | .stepTimerExpiry | .flatStepPulse
  | .continuousPulse | .feedPulse | .tuckEnd | .pressEnd | .releaseEnd | .abortingEnd | .deskewTimerExpiry _
  | .foldSensorChange _ _ | .restTimerExpiry | .converterTimerExpiry _ _ _ _ | .settleTimerExpiry _ | .secondsTimerExpiry
  | .purgeTimerExpiry | .idleTimerExpiry | .dwellTimerExpiry | .standTimerExpiry | .atSpeedChange _ _ | .armingTimerExpiry
  | .paste | .pasteTimerExpiry | .cutPulseEnd | .publicationTimerExpiry | .linkJoinIdle | .transmissionStart
  | .arbitrationLost | .transmitFailure | .transmissionSuccess | .advanceFrame _ _ | .markFrame _ _ | .stopFrame _ _
  | .resumeFrame _ | .badFrame | .foreignFrame _ | .stalenessTimerExpiry _ | .duplicateIdFrame _ => true

end Sys2Proof
end

