-- ==== Sys2Proof/Decode.lean ====
section
/-! DEFINITION. Words and commands. The opcode table gives no row any bits, so decodeTableWord spells no command. What crosses the
pins in a coded form is decoded here: a station port transaction (R179, 11.3) and a frame on the line link (R158, R159, R170 to R173,
11.1), with their encoders beside them. -/

namespace Sys2Proof

/-- The command a table word spells. No row of spec/opcode_table.json gives bits, so there is none. -/
def decodeTableWord (_nbits _w : Nat) : Option Instr := none

/-! ## Station port requests (R179, 11.3) -/

/-- The command a whole request of bytes names (R179): a fetch, a command with its argument bytes, or an unknown command. -/
def decodeRequest (command : Byte) (args : List Byte) : Instr :=
  if command = fetchByte then .fetch (1 + args.length)
  else if command = 0x10 then .writeSet args
  else if command = 0x11 then .loadPattern args
  else if command = 0x12 then .checkPattern args
  else if command = 0x20 then .start args
  else if command = 0x21 then .restart args
  else if command = 0x22 then .clearFault args
  else if command = 0x23 then .stop args
  else if command = 0x24 then .resume args
  else if command = 0x25 then .wake args
  else if command = 0x30 then .loadRoll args
  else if command = 0x31 then .unload args
  else if command = 0x32 then .clearZone args
  else if command = 0x40 then .readStatus args
  else if command = 0x41 then .readPeerView args
  else if command = 0x42 then .readQueues args
  else if command = 0x43 then .readPanelLog args
  else if command = 0x50 then .eventEnable args
  else if command = 0x51 then .eventAcknowledge args
  else if command = 0x52 then .eventEnd args
  else if command = 0x53 then .eventClear args
  else .unknownCommand command args

/-- The request bytes of a port command; none for a row that is no command of the port. -/
def encodeRequest : Instr → Option (Byte × List Byte)
  | .writeSet args => some (0x10, args)
  | .loadPattern args => some (0x11, args)
  | .checkPattern args => some (0x12, args)
  | .start args => some (0x20, args)
  | .restart args => some (0x21, args)
  | .clearFault args => some (0x22, args)
  | .stop args => some (0x23, args)
  | .resume args => some (0x24, args)
  | .wake args => some (0x25, args)
  | .loadRoll args => some (0x30, args)
  | .unload args => some (0x31, args)
  | .clearZone args => some (0x32, args)
  | .readStatus args => some (0x40, args)
  | .readPeerView args => some (0x41, args)
  | .readQueues args => some (0x42, args)
  | .readPanelLog args => some (0x43, args)
  | .eventEnable args => some (0x50, args)
  | .eventAcknowledge args => some (0x51, args)
  | .eventEnd args => some (0x52, args)
  | .eventClear args => some (0x53, args)
  | .unknownCommand command args => some (command, args)
  | .fetch bytes => some (fetchByte, List.replicate (bytes - 1) fetchByte)
  | .powerOn _ | .transactionDiscarded _ | .checkPatternEnd | .rampTimerExpiry | .dancerSample _ | .runBegin | .panelDecision
  | .stepStart | .decodeEnd | .stepTimerExpiry | .flatStepPulse | .continuousPulse | .feedPulse | .tuckEnd | .pressEnd
  | .releaseEnd | .abortingEnd | .deskewTimerExpiry _ | .foldSensorChange _ _ | .restTimerExpiry | .converterTimerExpiry _ _ _ _
  | .settleTimerExpiry _ | .secondsTimerExpiry | .purgeTimerExpiry | .idleTimerExpiry | .dwellTimerExpiry | .standTimerExpiry
  | .atSpeedChange _ _ | .armingTimerExpiry | .paste | .pasteTimerExpiry | .cutPulseEnd | .publicationTimerExpiry | .linkJoinIdle
  | .transmissionStart | .arbitrationLost | .transmitFailure | .transmissionSuccess | .advanceFrame _ _ | .markFrame _ _
  | .stopFrame _ _ | .resumeFrame _ | .badFrame | .foreignFrame _ | .unknownKindFrame _ _ | .stalenessTimerExpiry _
  | .duplicateIdFrame _ => none

/-! ## Bits in sending order -/

/-- The bits of a word, most significant first. -/
def bitsOf {n : Nat} (v : BitVec n) : List Bool := List.ofFn fun i : Fin n => v.getLsbD (n - 1 - i.val)

/-- The number that bits spell, most significant first. -/
def natOfBits (bits : List Bool) : Nat := bits.foldl (fun n b => 2 * n + (if b then 1 else 0)) 0

/-- The `len`-bit field at offset `off` of a bit string. -/
def fieldAt (bits : List Bool) (off len : Nat) : BitVec len := BitVec.ofNat len (natOfBits ((bits.drop off).take len))

/-- The whole bytes of a bit string. -/
def bytesOfBits (bits : List Bool) : List Byte := (List.range (bits.length / 8)).map fun k => fieldAt bits (8 * k) 8

/-- The row a transaction's data bits stand for (R179). -/
def decodeTransaction (bits : List Bool) : Instr :=
  if bits.length = 0 ∨ bits.length % 8 ≠ 0 then .transactionDiscarded bits.length
  else
    match bytesOfBits bits with
    | [] => .transactionDiscarded bits.length
    | command :: args => decodeRequest command args

/-! ## Link frames (R158, R159, 11.1) -/

/-- One bit into the CRC register: x^16 + x^12 + x^5 + 1 (R159). -/
def crcStep (reg : BitVec 16) (b : Bool) : BitVec 16 :=
  if reg.msb != b then (reg <<< 1) ^^^ 0x1021 else reg <<< 1

/-- The CRC of the header and payload bits, from all ones (R159). -/
def crc16 (bits : List Bool) : BitVec 16 := bits.foldl crcStep 0xFFFF

/-- The class of a kind of this part (R158). -/
def classOf (kind : BitVec 4) : Option (BitVec 3) :=
  if kind = 1 then some 0 else if kind = 2 then some 1 else if kind = 5 then some 2 else if kind = 8 then some 4 else none

/-- The payload length of a kind of this part in bytes (R158). -/
def payloadLength (kind : BitVec 4) : Nat :=
  if kind = 1 then 1 else if kind = 5 then 9 else if kind = 8 then 19 else 0

/-- The kind code of a frame body (11.1). -/
def bodyKind : Machine.FrameBody → BitVec 4
  | .stop _ => 1
  | .resume => 2
  | .mark _ => 5
  | .advance _ => 8

/-- The payload bits of a frame body (11.1). -/
def payloadBits : Machine.FrameBody → List Bool
  | .stop reason => bitsOf reason
  | .resume => []
  | .mark p =>
    bitsOf p.count ++ (bitsOf p.kind ++ ([p.spare] ++ (bitsOf p.origin ++ (bitsOf p.position ++ (bitsOf p.value ++ bitsOf p.roll)))))
  | .advance p =>
    bitsOf p.state ++ (bitsOf p.limit ++ (bitsOf p.rate ++ (bitsOf p.outlet ++ (bitsOf p.inLen ++ (bitsOf p.outLen
      ++ (bitsOf p.sent ++ bitsOf p.flags))))))

/-- The 16 header bits (11.1). -/
def headerBits (cls : BitVec 3) (sender : StationId) (kind : BitVec 4) (len : Nat) : List Bool :=
  bitsOf cls ++ (bitsOf (BitVec.ofNat 4 sender.val) ++ (bitsOf kind ++ bitsOf (BitVec.ofNat 5 len)))

/-- The header and payload bits of a frame. -/
def coveredBits (sender : StationId) (body : Machine.FrameBody) : List Bool :=
  headerBits ((classOf (bodyKind body)).getD 0) sender (bodyKind body) (payloadLength (bodyKind body)) ++ payloadBits body

/-- A frame after its start bit: header, payload, CRC, end field (R158). -/
def frameBits (sender : StationId) (body : Machine.FrameBody) : List Bool :=
  coveredBits sender body ++ (bitsOf (crc16 (coveredBits sender body)) ++ [true, true])

/-- The length of a frame in bit times, the start bit included (R158). -/
def frameLength (body : Machine.FrameBody) : Nat := 35 + 8 * payloadLength (bodyKind body)

/-- The row that a good frame of a known kind stands for, its payload at bit 16. -/
def frameRow (sender : StationId) (kind : BitVec 4) (bits : List Bool) : Instr :=
  if kind = 1 then .stopFrame sender (fieldAt bits 16 8)
  else if kind = 2 then .resumeFrame sender
  else if kind = 5 then
    .markFrame sender
      { count := fieldAt bits 16 8, kind := fieldAt bits 24 3, spare := (bits.drop 27).headD false, origin := fieldAt bits 28 4,
        position := fieldAt bits 32 32, value := fieldAt bits 64 16, roll := fieldAt bits 80 8 }
  else
    .advanceFrame sender
      { state := fieldAt bits 16 8, limit := fieldAt bits 24 16, rate := fieldAt bits 40 16, outlet := fieldAt bits 56 32,
        inLen := fieldAt bits 88 32, outLen := fieldAt bits 120 32, sent := fieldAt bits 152 8, flags := fieldAt bits 160 8 }

/-- A sampled frame is bad (R170): it ended early, its payload length is above 24, its CRC is not good, its end field is not recessive,
or a kind of this part bears another kind's class or length. The bits are those after the start bit. A frame ended early where the bits
sampled are fewer than its length alone: 11 recessive bits inside the length, which the format may hold for want of stuffing and after which
R157 calls the link idle, do not end it (DESIGN CHOICE, log 49). -/
def frameBad (bits : List Bool) : Bool :=
  let len := (fieldAt bits 11 5).toNat
  let kind := fieldAt bits 7 4
  decide (bits.length < 16) || decide (24 < len) || decide (bits.length < 34 + 8 * len)
    || fieldAt bits (16 + 8 * len) 16 != crc16 (bits.take (16 + 8 * len))
    || fieldAt bits (32 + 8 * len) 2 != 3
    || (match classOf kind with
        | some cls => fieldAt bits 0 3 != cls || len != payloadLength kind
        | none => false)

/-- The row a frame sampled on the link stands for at the station with id `own` of a line of `n` stations (R170 to R173). -/
def judgeFrame (own : StationId) (n : Nat) (bits : List Bool) : Instr :=
  if frameBad bits then .badFrame
  else
    let sender : StationId := Fin.ofNat 16 (fieldAt bits 3 4).toNat
    let kind := fieldAt bits 7 4
    if n ≤ sender.val then .foreignFrame sender
    else if sender = own then .duplicateIdFrame kind
    else if (classOf kind).isNone then .unknownKindFrame sender kind
    else frameRow sender kind bits

/-- The sender and body of a received frame row of this part. -/
def rowFrame : Instr → Option (StationId × Machine.FrameBody)
  | .stopFrame sender reason => some (sender, .stop reason)
  | .resumeFrame sender => some (sender, .resume)
  | .markFrame sender payload => some (sender, .mark payload)
  | .advanceFrame sender payload => some (sender, .advance payload)
  | _ => none

end Sys2Proof
end

