-- ==== Sys2Proof/Machine/Flags.lean ====
section
/-! DEFINITION. The flags: the Event Unit's bits and the attention line, the component flags and hold flags of an ADVANCE, the
occupancy and match flags. -/

namespace Sys2Proof.Machine

/-! ## Event sources (10.6) -/

/-- The bit of a source in a flag byte (11.3). -/
def Source.bit : Source → Nat
  | .fault => 6
  | .stop => 5
  | .roll => 4
  | .zone => 3
  | .registration => 2
  | .panelLog => 1
  | .link => 0

/-- The seven sources from the highest priority to the lowest (10.6). -/
def sources : List Source := [.fault, .stop, .roll, .zone, .registration, .panelLog, .link]

/-- A source's flag alone. -/
def Source.flag (x : Source) : BitVec 7 := BitVec.twoPow 7 x.bit

/-- The highest-priority source whose flag is set. -/
def highest (bits : BitVec 7) : Option Source := sources.find? fun x => bits.getLsbD x.bit

/-- The highest-priority eligible source (R195): IP and IE set, and a priority above every source under service. -/
def eligible (ip ius ie : BitVec 7) : Option Source :=
  match highest (ip &&& ie), highest ius with
  | none, _ => none
  | some x, none => some x
  | some x, some y => if y.bit < x.bit then some x else none

/-- The attention output (R195). -/
def State.attention (s : State) : Bool := (eligible s.port.ip s.port.ius s.port.ie).isSome

/-- A cause sets its source's IP (R194). -/
def State.signal (s : State) (x : Source) : State := { s with port.ip := s.port.ip ||| x.flag }

/-! ## Component and hold flags (R1, R116, R168) -/

/-- The component minimum (R1). -/
def RateState.minimum (r : RateState) : Nat :=
  min r.stationMax (min r.knifeLimit (min r.setLimit (min r.standLimit r.dancerLimit)))

/-- The component flag of a component (R1). -/
def RateState.holds (r : RateState) (component : Nat) : Bool :=
  component == r.minimum && decide (r.minimum < r.stationMax)

/-- A bit of a flag byte. -/
def flagAt (n : Nat) (b : Bool) : Byte := if b then BitVec.twoPow 8 n else 0

/-- The flag byte of an ADVANCE (11.1). -/
def State.advanceFlags (s : State) : Byte :=
  flagAt 7 (s.rate.holds s.rate.knifeLimit) ||| flagAt 6 (s.rate.holds s.rate.setLimit)
    ||| flagAt 5 (s.rate.holds s.rate.standLimit) ||| flagAt 4 (s.rate.holds s.rate.dancerLimit)
    ||| flagAt 3 s.box.inForce ||| flagAt 2 (s.port.state == .fault) ||| flagAt 1 (s.port.state == .joining)
    ||| flagAt 0 s.rate.latch

/-- The keep-warm hold flag of a flag byte (11.1). -/
def keepWarmFlag (flags : Byte) : Bool := flags.getLsbD 3

/-! ## The match of the fold sensor (R67) -/

/-- How many of the filtered levels are high. -/
def highChannels (levels : BitVec 8) : Nat := ((List.range 8).filter fun n => levels.getLsbD n).length

/-- The match formed from the filtered levels by the match mode (R67). -/
def matchOf (k : KnifeSet) (levels : BitVec 8) : Bool :=
  match k.mode with
  | .all => decide (highChannels levels = 8)
  | .any => decide (1 ≤ highChannels levels)
  | .atLeast => decide (k.count ≤ highChannels levels)

/-! ## Zones (R101) -/

/-- In band: from setpoint − band to setpoint + band, with no sensor fault reading (R101). -/
def inBand (b : BoxSet) (z : Fin 4) (r : Zone) : Bool :=
  decide (b.zones[z].setpoint ≤ r.temp + b.band) && decide (r.temp ≤ b.zones[z].setpoint + b.band) && !r.sensorFault

/-- Over temperature: above setpoint + margin (R101). -/
def overTemperature (b : BoxSet) (z : Fin 4) (r : Zone) : Bool := decide (b.zones[z].setpoint + b.margin < r.temp)

/-- A zone requests the drain while READY with a debt (R110). -/
def requestsDrain (r : Zone) : Bool := r.state == .ready && decide (1 ≤ r.debt)

/-- Quiet: the rest timer has expired since the last pulse (R78). -/
def State.quiet (s : State) : Bool := s.web.restDue.isNone

end Sys2Proof.Machine
end

