-- ==== Sys2Proof/Machine/Rate.lean ====
section
/-! DEFINITION. The shared operations of the Rate Resolver, the Cadence Generator's runs, the transmit buffer's slots and the taking of a
station fault: the effective rate and whom it reaches (R11, R12), the stop latch (R6 to R8), the run requests (R13), handing frames (R163,
R165) and faults (R188, R189). -/

namespace Sys2Proof.Machine

/-- The panel period at an effective rate, in microseconds (R15, R21). -/
def panelPeriodAt (rate : Nat) : Nat := 60000000000 / rate

/-- What a change of the effective rate does to the Cadence Generator (R20, R22, R23): a halted FLAT step and a halted continuous run
take a new base at the restart, and a running continuous run takes its last pulse as the new base. -/
def Cadence.rateChanged (c : Cadence) (old new now : Nat) : Cadence :=
  if !c.begun || new = 0 then c
  else
    match c.mode with
    | .idle => c
    | .stepping => if old = 0 ∧ 0 < c.remaining then { c with base := now, idx := 0 } else c
    | .continuous =>
      if c.pn = 0 then c
      else if old = 0 then { c with base := now, idx := 0, lastPulse := none, panelPeriod := panelPeriodAt new }
      else { c with base := c.lastPulse.getD c.base, idx := 0, lastPulse := none, panelPeriod := panelPeriodAt new }

/-- What a change of the effective rate does to the knife: a halted feed resumes with a new FEED base when the rate becomes above 0
(R46). -/
def Knife.rateChanged (k : Knife) (old new now : Nat) : Knife :=
  if old = 0 ∧ 0 < new ∧ k.halted = true then { k with halted := false, base := now, idx := 0 } else k

/-- The idle timer as it is started (R114): it stays stopped at an entry time of 0 and at zone count 0. -/
def State.startedIdle (s : State) : IdleTimer :=
  if s.sets.box.zoneCount = 0 ∨ s.sets.box.entry = 0 then .stopped else .running (s.now + 1000000 * s.sets.box.entry)

/-- The idle timer after a change of the effective rate (R114). -/
def State.idleAfterRate (s : State) (old new : Nat) : IdleTimer :=
  if 0 < old ∧ new = 0 then s.startedIdle else if old = 0 ∧ 0 < new then .stopped else s.box.idle

/-- A new effective rate, delivered at once to the Cadence Generator, the Knife Sequencer and the Zone Controller's idle timer (R12).
The zones' valves follow in the settling of the step (R104). -/
def State.setEffective (s : State) (e : Nat) : State :=
  if e = s.rate.effective then s
  else
    { s with
      rate.effective := e
      cad := s.cad.rateChanged s.rate.effective e s.now
      knife := s.knife.rateChanged s.rate.effective e s.now
      box.idle := s.idleAfterRate s.rate.effective e }

/-- The feed halts when the stop latch is set in FEED (R46). -/
def Knife.latched (k : Knife) : Knife := if k.phase = .feed then { k with halted := true } else k

/-- The stop latch is set with its cause, and the effective rate is 0 at once (R6). A change of the latch signals STOP (R8). The knife
in TUCK aborts in the settling of the step (R47). -/
def State.setLatch (s : State) (cause : StopCause) : State :=
  let t := { s with rate.latch := true, rate.cause := some cause, knife := s.knife.latched }.setEffective 0
  if s.rate.latch then t else t.signal .stop

/-- The stop latch is cleared (R7). A change signals STOP (R8), and the stop cause stays as it was (DEDUCED, log 10). -/
def State.clearLatch (s : State) : State :=
  if s.rate.latch then { s with rate.latch := false }.signal .stop else s

/-! ## Runs (R13) -/

/-- A new run is requested: it replaces the run in progress, whose step ends and whose pulses not yet issued are discarded (R13). -/
def State.requestRun (s : State) (mode : CadenceMode) (pn : Nat) : State :=
  { s with
    cad.mode := mode, cad.begun := false, cad.pn := pn, cad.cur := none, cad.remaining := 0, cad.idx := 0, cad.lastPulse := none }

/-- A requested run can begin: the knife is IDLE and the effective rate is above 0 (R13). -/
def State.runCanBegin (s : State) : Bool := s.knife.phase == .idle && decide (0 < s.rate.effective)

/-- The decoder is rewound (R39). -/
def State.rewind (s : State) : State := { s with dec := {} }

/-- A new segment begins at the knife point and at O (R77). -/
def State.beginSegment (s : State) (kind : SegmentKind) : State :=
  { s with web.seg := { kind := kind, start := s.knifePoint, outletStart := s.web.o } }

/-! ## The transmit buffer (R163 to R165) -/

/-- A slot's frame on the link is noted as replaced when the slot is handed a newer frame (R164). -/
def Link.replacedIn (l : Link) (slot : Slot) : Option OnLink :=
  l.onLink.map fun f => if f.slot = slot then { f with replaced := true } else f

/-- A STOP or RESUME frame is handed to its slot, replacing an unsent one (R163). In SILENT it is discarded (R162). -/
def State.handStopResume (s : State) (f : StopResume) : State :=
  if s.port.state = .silent then s
  else { s with link.stopResume := some f, link.onLink := s.link.replacedIn .stopResume }

/-- An ADVANCE request is handed to its slot; replacing an unsent one counts a publication overrun (R163). -/
def State.handAdvance (s : State) : State :=
  if s.port.state = .silent then s
  else
    { s with
      link.advance := true
      link.onLink := s.link.replacedIn .advance
      link.pubOverruns := if s.link.advance then satInc s.link.pubOverruns else s.link.pubOverruns }

/-! ## Taking a station fault (R188, R189) -/

/-- The entry to FAULT (R189): the record takes the fault, the stop latch is set with cause FAULT, and a STOP frame with the fault
kind as its reason is handed. -/
def State.enterFault (s : State) (f : StationFault) : State :=
  ({ s with port.state := .fault, port.fault := some { first := f, further := false } }.setLatch
      { origin := .fault, reason := f.code }).handStopResume (.stop f.code)

/-- A fault is noted beside the record in force (R188). -/
def noteFault (r : Option FaultRecord) (f : StationFault) : Option FaultRecord :=
  match r with
  | none => some { first := f, further := false }
  | some r => some { r with further := true }

/-- A raised fault is taken by the station state of the instant (R188): JOINING and ACTIVE enter FAULT, FAULT notes a further fault,
SILENT records it. Faults do not arise in CONFIG. -/
def State.raiseFault (s : State) (f : StationFault) : State :=
  match s.port.state with
  | .config => s
  | .joining | .active => (s.signal .fault).enterFault f
  | .fault | .silent => { s with port.fault := noteFault s.port.fault f }.signal .fault

/-- A MARK frame is handed (R163): to the next free slot, or lost with MARK_OVERFLOW when all six are occupied (R165). In SILENT it
is discarded (R162). -/
def State.handMark (s : State) (m : MarkPayload) : State :=
  if s.port.state = .silent then s
  else if 6 ≤ s.link.marks.length then s.raiseFault (.markOverflow m.kind m.count)
  else { s with link.marks := s.link.marks ++ [m] }

end Sys2Proof.Machine
end

