-- ==== Sys2Proof/Machine/Accounting.lean ====
section
/-! DEFINITION. The shared operations of the Roll Stand Sequencer: the spindle records (R135), the stand limit's causes (R138), the cut
(R144, R148, R150), and the rewind's panel accounting with its verdicts and log (R151 to R154). -/

namespace Sys2Proof.Machine

/-! ## Spindles (R135) -/

/-- The other spindle of the turret. -/
def otherSpindle : SpindleId → SpindleId
  | .a => .b
  | .b => .a

/-- A spindle record. -/
def Stand.spindle (t : Stand) : SpindleId → Spindle
  | .a => t.a
  | .b => t.b

/-- A spindle record replaced. -/
def Stand.setSpindle (t : Stand) (id : SpindleId) (x : Spindle) : Stand :=
  match id with
  | .a => { t with a := x }
  | .b => { t with b := x }

/-- The first spindle in a state. -/
def Stand.inState (t : Stand) (st : SpindleState) : Option SpindleId :=
  if t.a.state = st then some .a else if t.b.state = st then some .b else none

/-- The stand as a spindle record is replaced. -/
def State.setSpindle (s : State) (id : SpindleId) (x : Spindle) : State := { s with stand := s.stand.setSpindle id x }

/-- The remaining length of a running roll (R139). Natural subtraction gives 0 when the consumed length is not below the roll length. -/
def Spindle.remaining (x : Spindle) : Nat := x.length - x.consumed

/-- LOADED and not arm-failed: usable for a splice or transfer (R141, R148). -/
def Spindle.usable (x : Spindle) : Bool := x.state == .loaded && !x.armFailed

/-- A splice or transfer spindle is on its way: ARMING or SYNCED (R138). -/
def Stand.arming (t : Stand) : Bool := (t.inState .arming).isSome || (t.inState .synced).isSome

/-- The ROLL source is set with a cause, and the change record written (R155). -/
def State.rollEvent (s : State) (cause : RollCause) (id : SpindleId) : State :=
  { s with stand.change := some { cause := cause, spindle := id, roll := (s.stand.spindle id).roll } }.signal .roll

/-- The stand limit (R138). -/
def State.standLimitNow (s : State) : Nat :=
  match s.sets.line.standKind with
  | .none => 60000
  | .unwind =>
    if s.stand.runOut || s.stand.overfill then 0
    else if s.stand.arming || s.stand.pasteDue.isSome then s.sets.stand.cap
    else 60000
  | .rewind => if s.stand.runOut || s.stand.overfill then 0 else 60000

/-- The spindle a change record names after a roll change: the new roll's or the old one's (DESIGN CHOICE, log 15). -/
def changeSpindle (transfer : Bool) (dst : SpindleId) : SpindleId :=
  if Config.changeNamesNew transfer then dst else otherSpindle dst

/-- A transfer is pending (R147): the WINDING spindle's panels closed are at or above the target. -/
def State.transferPending (s : State) : Bool :=
  s.sets.line.standKind == .rewind
    && (match s.stand.inState .winding with
        | some id => decide (s.sets.stand.target ≤ (s.stand.spindle id).closed)
        | none => false)

/-! ## The panel log and the verdicts (R153, R154) -/

/-- Some reason flag is set. -/
def Reasons.any (r : Reasons) : Bool := r.aborted || r.split || r.underset || r.missfold || r.splice

/-- An entry written to the panel log, the oldest removed from a full one (R154). -/
def State.logPanel (s : State) (e : LogEntry) : State :=
  (if 32 ≤ s.stand.log.length then { s with stand.log := s.stand.log.drop 1 ++ [e], stand.overflow := true }
   else { s with stand.log := s.stand.log ++ [e] }).signal .panelLog

/-- The range [p, p + extent) overlaps the web [s, e) (R152, R153). -/
def overlaps (p : Pos) (extent : Nat) (s e : Pos) : Bool := before p e && beyond (p + toPos extent) s

/-- The open underset range, in terms of the outlet point, overlaps a panel (R153). -/
def State.rangeOverlaps (s : State) (c : ClosedPanel) : Bool :=
  match s.dwell.range with
  | none => false
  | some r => overlaps (r.start + toPos s.sets.feed.b) r.extent c.start c.stop

/-- The verdict counted on the roll the panel was counted on, if that record still holds the roll number (R153). An EMPTY record holds no roll,
not even one numbered 0 (DESIGN CHOICE, log 46), and a panel that closed while no spindle was WINDING is counted on none (DESIGN CHOICE,
log 48). The two counts have no bound (DESIGN CHOICE, log 41). -/
def Stand.countVerdict (t : Stand) (c : ClosedPanel) (rejected : Bool) : Stand :=
  match c.spindle with
  | none => t
  | some id =>
    let x := t.spindle id
    if x.state ≠ .empty ∧ x.roll = c.roll then
      t.setSpindle id (if rejected then { x with reject := x.reject + 1 } else { x with good := x.good + 1 })
    else t

/-- The verdict of a closed panel (R153): REJECT if any flag is set, GOOD otherwise, counted and logged. -/
def State.judge (s : State) (c : ClosedPanel) : State :=
  let reasons := { c.reasons with underset := c.reasons.underset || s.rangeOverlaps c }
  { s with stand := s.stand.countVerdict c reasons.any }.logPanel
    { number := c.number, roll := c.roll, reject := reasons.any, reasons := reasons, length := (c.stop - c.start).toNat }

/-- O is at or beyond a closed panel's end + h (R153). -/
def State.verdictDue (s : State) (c : ClosedPanel) : Bool := atOrBeyond s.web.o (c.stop + toPos s.verdictWait)

/-- Closed panels get their verdicts one after another, and `rest` is the verdict list that stays. -/
def State.judgeEach (s : State) (cs rest : List ClosedPanel) : State := { cs.foldl State.judge s with stand.verdicts := rest }

/-- Every panel of the verdict list that is due gets its verdict (R153), each at its own end + h wherever it stands in the list. Those due at
one step get theirs in the order of closing (DESIGN CHOICE, log 47). -/
def State.judgeDue (s : State) : State :=
  s.judgeEach (s.stand.verdicts.filter s.verdictDue) (s.stand.verdicts.filter fun c => !s.verdictDue c)

/-- A full verdict list first gives its oldest panel its verdict (R153). -/
def State.makeVerdictRoom (s : State) : State :=
  match s.stand.verdicts with
  | [] => s
  | c :: cs => if 8 ≤ (c :: cs).length then { s.judge c with stand.verdicts := cs } else s

/-- One more panel closed on a spindle's roll (R151); where no spindle is WINDING it is counted on no record (DESIGN CHOICE, log 48). The
count has no bound (DESIGN CHOICE, log 41). -/
def Stand.countClosed (t : Stand) : Option SpindleId → Stand
  | none => t
  | some id => t.setSpindle id { t.spindle id with closed := (t.spindle id).closed + 1 }

/-- The open panel closes at an end position with its flags changed (R151): it is counted on the WINDING roll and enters the verdict
list. R151 does not say on which roll a panel that closes while no spindle is WINDING is counted: the model counts it on no record, and its
roll stays that of its opening (DESIGN CHOICE, log 48). With h of 0 its verdict follows at once. -/
def State.closePanel (s : State) (stop : Pos) (flag : Reasons → Reasons) : State :=
  match s.stand.panel with
  | none => s
  | some p =>
    let id := s.stand.inState .winding
    let roll := match id with
      | none => p.roll
      | some x => (s.stand.spindle x).roll
    let t := { s with stand := { s.stand.countClosed id with panel := none } }.makeVerdictRoom
    let u := { t with
      stand.verdicts := t.stand.verdicts
        ++ [{ number := p.number, start := p.start, stop := stop, spindle := id, roll := roll, reasons := flag p.reasons }] }
    if s.verdictWait = 0 then u.judgeDue else u

/-- The open panel has reached its length end by O, at or before a limit (R151). When L_r is 0 the length end is not applied; the L_r
tested is that of now, the length end that of the opening (DESIGN CHOICE, log 42). -/
def State.fullBy (s : State) (limit : Pos) : Option Pos :=
  match s.stand.panel with
  | none => none
  | some p =>
    if s.outletLength ≠ 0 ∧ atOrBeyond s.web.o p.lengthEnd = true ∧ atOrBeyond limit p.lengthEnd = true then some p.lengthEnd
    else none

/-- The panel closes at its length end when O has reached it at or before a limit (R151). -/
def State.closeIfFull (s : State) (limit : Pos) : State :=
  match s.fullBy limit with
  | none => s
  | some e => s.closePanel e id

/-! ## The cut (R144, R148, R150) -/

/-- The cut actuator's pulse of 100 ms begins (R144). -/
def State.pulseCut (s : State) : State := { s with stand.cutDue := some (s.now + 100000) }

/-- A rewind's cut over to a spindle (R148, R150): the WINDING spindle becomes FULL, the other WINDING with every count 0, the overfill
hold ends, and TRANSFER DONE is set. The transfer count rises at each of the three cuts: R148 says so of the transfer cut, and that the two
of R150 count alike is the model's choice (DESIGN CHOICE, log 31). -/
def State.transferTo (s : State) (dst : SpindleId) : State :=
  let old := s.stand.spindle (otherSpindle dst)
  let new := s.stand.spindle dst
  let t := s.stand.setSpindle (otherSpindle dst) (if old.state = .winding then { old with state := .full } else old)
  let t := t.setSpindle dst { new with state := .winding, wound := 0, closed := 0, good := 0, reject := 0 }
  ({ s with
      stand := { t with armDue := none, overfill := false, transfers := satInc t.transfers } }.pulseCut).rollEvent .transferDone
    (changeSpindle true dst)

/-- The transfer cut of a PANEL mark that leaves (R148): taken while a spindle is SYNCED and the stop latch is clear. -/
def State.transferCut (s : State) : State :=
  if s.rate.latch then s
  else
    match s.stand.inState .synced with
    | none => s
    | some id => s.transferTo id

/-- A cut that splits the open panel (R150, R151): a panel whose length end lies before O has closed there, an open one closes at O with
SPLIT, then the cut is made. -/
def State.splitCut (s : State) (dst : SpindleId) : State :=
  ((s.closeIfFull (s.web.o - 1)).closePanel s.web.o fun r => { r with split := true }).transferTo dst

/-- The cut at maximum is due (R150): the wound length is at the maximum or beyond while a spindle is SYNCED. It is tested at every advance of
O, also where the wound length was there before the spindle became SYNCED (DESIGN CHOICE, log 45). -/
def State.maximumCut (s : State) : Option SpindleId :=
  if s.sets.line.standKind ≠ .rewind then none
  else
    match s.stand.inState .winding, s.stand.inState .synced with
    | some w, some id => if s.sets.stand.maxWound ≤ (s.stand.spindle w).wound then some id else none
    | _, _ => none

/-- The cut at maximum, if it is due. -/
def State.cutAtMaximum (s : State) : State :=
  match s.maximumCut with
  | none => s
  | some id => s.splitCut id

/-! ## Marks that leave (R151, R152) -/

/-- The positions of the SPLICE marks that have left, those that O is at or beyond under the half-range rule (DESIGN CHOICE, log 14). -/
def State.recentSplices (s : State) : List Pos := s.stand.splicesLeft.filter fun q => atOrBeyond s.web.o q

/-- A SPLICE mark has left at a position, which is held for a PANEL mark that leaves later at the same one (R152; DESIGN CHOICE, log 14). -/
def State.noteSplice (s : State) (p : Pos) : State :=
  { s with stand.splicesLeft := (s.recentSplices.filter fun q => q != p) ++ [p] }

/-- A panel opens at a PANEL mark (R151, R152): UNDERSET if its start is before the underset reach, SPLICE if a SPLICE mark that left
before it stood at the same position, whatever has left in between (DESIGN CHOICE, log 14). Its length end takes the L_r of now, also
where that is 0 (DESIGN CHOICE, log 42). R151 names no roll for a panel that opens while no spindle is WINDING, as at a mark that leaves
in JOINING before a roll is loaded: the model opens it on roll number 0 (DESIGN CHOICE, log 48). -/
def State.openPanelAt (s : State) (p : Pos) (number : BitVec 16) : State :=
  let roll := match s.stand.inState .winding with
    | none => 0
    | some x => (s.stand.spindle x).roll
  let underset := match s.stand.reach with
    | none => false
    | some r => before p r
  { s with
    stand.panel := some
      { number := number, start := p, lengthEnd := p + toPos s.outletLength, roll := roll,
        reasons := { underset := underset, splice := s.stand.splicesLeft.contains p } }
    stand.splicesLeft := s.recentSplices }

/-- A reason flag set on the open panel when a position lies before its length end (R152); with L_r of 0 there is no length end. -/
def State.flagPanel (s : State) (p : Pos) (flag : Reasons → Reasons) : State :=
  match s.stand.panel with
  | none => s
  | some x =>
    if s.outletLength = 0 ∨ before p x.lengthEnd = true then { s with stand.panel := some { x with reasons := flag x.reasons } } else s

/-- UNDERSET set on the open panel a range overlaps (R152). -/
def OpenPanel.undersetBy (x : OpenPanel) (outletLength : Nat) (p : Pos) (extent : Nat) : OpenPanel :=
  if (outletLength = 0 ∨ before p x.lengthEnd = true) ∧ beyond (p + toPos extent) x.start = true then
    { x with reasons := { x.reasons with underset := true } }
  else x

/-- UNDERSET set on a panel of the verdict list a range overlaps (R152). -/
def ClosedPanel.undersetBy (c : ClosedPanel) (p : Pos) (extent : Nat) : ClosedPanel :=
  if overlaps p extent c.start c.stop then { c with reasons := { c.reasons with underset := true } } else c

/-- The underset reach raised to a position beyond it (R152). -/
def raiseReach (reach : Option Pos) (p : Pos) : Option Pos :=
  match reach with
  | none => some p
  | some r => if beyond p r then some p else some r

/-- The flags an UNDERSET mark sets, and the reach it raises (R152). -/
def State.undersetMark (s : State) (p : Pos) (extent : Nat) : State :=
  { s with
    stand.panel := s.stand.panel.map fun x => x.undersetBy s.outletLength p extent
    stand.verdicts := s.stand.verdicts.map fun c => c.undersetBy p extent
    stand.reach := raiseReach s.stand.reach (p + toPos extent) }

/-- The length end and an ABORT mark at the same position: which closes the panel first is a free choice (DESIGN CHOICE, log 6). -/
def State.closeBeforeAbort (s : State) (p : Pos) : State :=
  if s.fullBy p = some p then (if s.choice then s.chosen else s.chosen.closeIfFull p) else s.closeIfFull p

/-- A mark that leaves the outlet list of a REWIND station is handed to the panel accounting (R90, R151, R152). -/
def State.handOff (s : State) (m : Mark) : State :=
  match m.body with
  | .panel number =>
    ((((s.closeIfFull m.pos).closePanel m.pos id)).transferCut).openPanelAt m.pos number
  | .abort _ => (s.closeBeforeAbort m.pos).closePanel m.pos fun r => { r with aborted := true }
  | .splice _ =>
    ((s.closeIfFull m.pos).flagPanel m.pos fun r => { r with splice := true }).noteSplice m.pos
  | .missfold => (s.closeIfFull m.pos).flagPanel m.pos fun r => { r with missfold := true }
  | .underset extent => (s.closeIfFull m.pos).undersetMark m.pos extent.toNat

/-- A mark leaves the outlet list (R90): handed to the accounting at a REWIND station, discarded at others. -/
def State.markLeaves (s : State) (m : Mark) : State :=
  if s.sets.line.standKind = .rewind then s.handOff m else s

/-- The marks at the head of the outlet list that stand at or before a position leave in order (R90); the rest is the outlet list. -/
def State.leaveFrom (s : State) (limit : Pos) : List Mark → State
  | [] => { s with web.outlet := [] }
  | m :: ms =>
    if atOrBeyond limit m.pos then (s.markLeaves m).leaveFrom limit ms else { s with web.outlet := m :: ms }

/-- At a REWIND station the open panel closes at a length end at or before a position (R151). -/
def State.endPanel (s : State) (limit : Pos) : State :=
  if s.sets.line.standKind = .rewind then s.closeIfFull limit else s

/-- The outlet list tested from its head up to a position (R90), with the panel's length end (R151). Marks and a length end that one credit
reaches are taken by their positions (DEDUCED, log 43). -/
def State.sweepTo (s : State) (limit : Pos) : State := (s.leaveFrom limit s.web.outlet).endPanel limit

/-- The outlet list tested at O, after an advance of O or an insertion (R90, R151). -/
def State.outletSweep (s : State) : State := s.sweepTo s.web.o

/-- What an advance of O does to the outlet list and the panel accounting (R90, R147, R150, R151). A cut at maximum that is due is made at
O: marks and a length end before O come before it, and those at O itself come before or after it, by a free choice (DESIGN CHOICE,
log 6). With zones an announcement of the same advance that comes before this has swept those at O already, and then they come before the
cut without a choice (DESIGN CHOICE, log 33; `State.afterAdvance`). -/
def State.account (s : State) : State :=
  match s.maximumCut with
  | none => s.outletSweep
  | some _ => eitherOrder State.cutAtMaximum State.outletSweep (s.sweepTo (s.web.o - 1))

end Sys2Proof.Machine
end

