-- ==== Sys2Proof/Machine/Tracking.lean ====
section
/-! DEFINITION. The shared operations that ride on the web: announcing marks (R88), the Dwell Table's exits and entries (R125, R129 to
R131), the Panel Planner's part in marks (R51, R55, R61 to R63), the span and bay queues (R83 to R87), the Fold Registration Unit
(R68 to R74), and what one nip pulse and one credit do (R43, R45, R76). -/

namespace Sys2Proof.Machine

/-! ## Announcing (R88, R89) -/

/-- The roll number a MARK frame carries: of a SPLICE, 0 otherwise (11.1). -/
def MarkBody.rollField : MarkBody → Byte
  | .splice roll => roll
  | .panel _ | .abort _ | .underset _ | .missfold => 0

/-- The extent or panel number a MARK frame carries, 0 otherwise (11.1). -/
def MarkBody.valueField : MarkBody → BitVec 16
  | .panel n => n
  | .abort n => n
  | .underset e => e
  | .splice _ | .missfold => 0

/-- The MARK payload of a mark at its outlet position (R169, 11.1). -/
def Mark.payload (m : Mark) (count : Byte) : MarkPayload :=
  { count := count, kind := m.body.code, spare := false, origin := BitVec.ofNat 4 m.origin.val, position := m.pos,
    value := m.body.valueField, roll := m.body.rollField }

/-- The panel tag after an announcement (R126). -/
def tagAfter (tag : Option (BitVec 16)) : MarkBody → Option (BitVec 16)
  | .panel n => some n
  | .abort _ => none
  | .splice _ | .underset _ | .missfold => tag

/-- The paste count after an announcement: it rises at each SPLICE mark an unwind announces (R143). -/
def pastesAfter (kind : StandKind) (pastes : Nat) (body : MarkBody) : Nat :=
  match kind, body with
  | .unwind, .splice _ => satInc pastes
  | _, _ => pastes

/-- A mark inserted into the outlet list (R82, R90), or dropped from a full one with QUEUE_OVERFLOW. -/
def State.insertOutlet (s : State) (m : Mark) : State :=
  if 16 ≤ s.web.outlet.length then s.raiseFault (.queueOverflow .outlet m.body.code m.origin)
  else { s with web.outlet := insertMark Mark.pos m s.web.outlet }

/-- The counts and the tag of an announcement (R89, R126, R143). -/
def State.countAnnounced (s : State) (m : Mark) : State :=
  { s with
    web.sent := s.web.sent + 1
    dwell.tag := tagAfter s.dwell.tag m.body
    stand.pastes := pastesAfter s.sets.line.standKind s.stand.pastes m.body }

/-- A mark is announced at its outlet position (R88): the count rises, the MARK frame is handed unless the own id is N − 1, and the mark
enters the outlet list, whose head is tested (R90). -/
def State.announce (s : State) (m : Mark) : State :=
  let t := s.countAnnounced m
  let u := if t.ownId.val + 1 = t.sets.line.n then t else t.handMark (m.payload t.web.sent)
  (u.insertOutlet m).outletSweep

/-- A mark of the station's own, announced b after an outlet position at the knife. -/
def State.announceOwn (s : State) (body : MarkBody) (outletAtKnife : Pos) : State :=
  s.announce { body := body, origin := s.ownId, pos := outletAtKnife + toPos s.sets.feed.b }

/-! ## The Dwell Table at an advance of O (R125, R129 to R131) -/

/-- The open underset range closes: its UNDERSET mark is announced, the range becomes none and the count rises (R131). -/
def State.closeRange (s : State) : State :=
  match s.dwell.range with
  | none => s
  | some r =>
    let t := s.announceOwn (.underset (BitVec.ofNat 16 r.extent)) r.start
    { t with dwell.range := none, dwell.announced := satInc t.dwell.announced }

/-- An underset cell opens a range of its own (R130). -/
def State.openRange (s : State) (start : Pos) : State :=
  { s with dwell.range := some { start := start, extent := s.sets.box.cell } }

/-- An underset cell passed to the open range (R130). -/
def State.undersetCell (s : State) (start : Pos) : State :=
  match s.dwell.range with
  | none => s.openRange start
  | some r =>
    if start = r.start + toPos r.extent ∧ r.extent + s.sets.box.cell ≤ 65535 then
      { s with dwell.range := some { r with extent := r.extent + s.sets.box.cell } }
    else s.closeRange.openRange start

/-- A cell exits with its verdict (R129). -/
def State.exitCell (s : State) (c : DwellCell) : State :=
  let t := { s with dwell.exited := satInc s.dwell.exited }
  if 100 * s.sets.box.dwell ≤ c.dwell then t.closeRange
  else { t with dwell.underset := satInc t.dwell.underset }.undersetCell c.start

/-- The cells at the head that have reached the outlet point exit in order (R129); the rest is the table. -/
def State.exitFrom (s : State) : List DwellCell → State
  | [] => { s with dwell.cells := [] }
  | c :: cs =>
    if atOrBeyond s.web.o (c.start + toPos (s.sets.box.cell + s.sets.feed.b)) then (s.exitCell c).exitFrom cs
    else { s with dwell.cells := c :: cs }

/-- How many cells have their start at or before O (R125). -/
def cellsToEnter (o next : Pos) (cell : Nat) : Nat := if atOrBeyond o next then (o - next).toNat / cell + 1 else 0

/-- The cells from a start on, each with dwell 0 and a tag (R124, R125). -/
def freshCells (start : Pos) (cell count : Nat) (tag : Option (BitVec 16)) : List DwellCell :=
  (List.range count).map fun k => { start := start + toPos (k * cell), dwell := 0, panel := tag }

/-- The cells whose start O has reached enter at the tail (R125). -/
def State.enterCells (s : State) : State :=
  let count := cellsToEnter s.web.o s.dwell.nextStart s.sets.box.cell
  { s with
    dwell.cells := s.dwell.cells ++ freshCells s.dwell.nextStart s.sets.box.cell count s.dwell.tag
    dwell.nextStart := s.dwell.nextStart + toPos (count * s.sets.box.cell) }

/-- The Dwell Table at an advance of O: exits, then entries (R125). -/
def State.dwellAdvance (s : State) : State := (s.exitFrom s.dwell.cells).enterCells

/-! ## The leader's splices and bridges (R51, R52, R55) -/

/-- The web [x, x + len) overlaps the guard interval of a splice at `p` (R50, R54, R55). -/
def guardHit (x : Pos) (len : Nat) (p : Pos) (g : Nat) : Bool :=
  beyond (x + toPos len) (p - toPos g) && atOrBeyond (p + toPos g) x

/-- The splices known to the leader (R51): of the bay queue, of the span queue while K is LATCHED, and the held guard. -/
def State.knownSplices (s : State) : List Pos :=
  (s.web.bay.filterMap fun e => match e.mark.body with
    | .splice _ => some e.mark.pos
    | _ => none)
  ++ (if s.web.latched then
        s.web.span.filterMap fun m => match m.body with
          | .splice _ => some (m.pos - s.web.k)
          | _ => none
      else [])
  ++ s.leader.held.toList

/-- The known splices whose guard overlaps [x, x + len). -/
def State.guardsOver (s : State) (x : Pos) (len : Nat) : List Pos :=
  s.knownSplices.filter fun p => guardHit x len p s.sets.knife.g

/-- The farthest of a splice and further ones, under the half-range rule. -/
def farthest (p : Pos) (ps : List Pos) : Pos := ps.foldl (fun m q => if beyond q m then q else m) p

/-- One past the guard end of a splice (R50, R54, R55). -/
def State.pastGuard (s : State) (p : Pos) : Pos := p + toPos s.sets.knife.g + 1

/-- The bridge target is set, with its flag (R52). -/
def State.setTarget (s : State) (target : Pos) : State := { s with leader.target := target, leader.targetSet := true }

/-- The planner enters PENDING and asks for a stepping run (R50); there is then no bridge target (R52). -/
def State.enterPending (s : State) : State :=
  { s with leader.state := .pending, leader.target := 0, leader.targetSet := false }.requestRun .stepping 0

/-- The planner enters BRIDGE with the target it has set and asks for a continuous run at P; a bridge whose target is at or before the
knife point is empty, and the planner enters PENDING at once (R52). -/
def State.enterBridge (s : State) : State :=
  if atOrBeyond s.knifePoint s.leader.target then s.enterPending
  else { s with leader.state := .bridge }.requestRun .continuous s.pat.p

/-- A splice becomes known to the leader's planner (R55). -/
def State.spliceKnown (s : State) (p : Pos) : State :=
  match s.leader.state with
  | .off | .pending | .bridge => s
  | .panel =>
    match s.cad.cur with
    | none => s
    | some c =>
      if guardHit c.start c.pitch p s.sets.knife.g then { s.setTarget (s.pastGuard p) with leader.state := .closing } else s
  | .closing =>
    if s.leader.targetSet = false ∨ beyond (s.pastGuard p) s.leader.target = true then s.setTarget (s.pastGuard p) else s

/-! ## The follower's panels (R60 to R63) -/

/-- The planner enters WAITING and asks for a waiting run at its own P (R60, R62). -/
def State.enterWaiting (s : State) : State := { s with follower.state := .waiting }.requestRun .continuous s.pat.p

/-- A PANEL mark opens a panel: the number is recorded, the decoder rewound and a stepping run asked for (R61). -/
def State.openFollowerPanel (s : State) (number : BitVec 16) : State :=
  { s.rewind with follower.state := .panel, follower.number := number.toNat }.requestRun .stepping 0

/-- A PANEL mark crosses the follower's knife line (R61, R63). In PANEL it is an overrun whatever is left of the panel, also where only the step
timer of its last FOLD still runs, as in steady running (DESIGN CHOICE, log 44). -/
def State.followerPanelMark (s : State) (number : BitVec 16) : State :=
  match s.follower.state with
  | .off => s
  | .waiting => s.openFollowerPanel number
  | .panel => { s with follower.overruns := satInc s.follower.overruns }.openFollowerPanel number

/-- An ABORT mark crosses the follower's knife line (R62). -/
def State.followerAbortMark (s : State) : State :=
  match s.follower.state with
  | .off | .waiting => s
  | .panel => s.enterWaiting

/-! ## The bay queue and the knife crossing (R85 to R87) -/

/-- A crossing is reported to the Panel Planner (the table of R85). -/
def State.reportCrossing (s : State) (m : Mark) : State :=
  match s.sets.line.role, m.body with
  | .leader, .splice _ => { s with leader.held := some m.pos }.spliceKnown m.pos
  | .follower, .panel number => s.followerPanelMark number
  | .follower, .abort _ => s.followerAbortMark
  | _, _ => s

/-- The outlet position at the knife of a mark at web point `x` by the current segment (R86); none while it awaits the credit. -/
def Segment.convert (g : Segment) (knifePoint o x : Pos) : Option Pos :=
  if atOrBeyond x g.start then
    match g.kind with
    | .flow => some (o - (knifePoint - x))
    | .fold w true => some (g.outletStart + toPos w)
    | .fold _ false => none
  else some g.outletStart

/-- A PANEL or ABORT mark at a LEADER, which is discarded (R85). -/
def discardedAtLeader (role : Role) (body : MarkBody) : Bool :=
  match role, body with
  | .leader, .panel _ => true
  | .leader, .abort _ => true
  | _, _ => false

/-- A mark at web point x announced b after its outlet position at the knife (R86). -/
def State.announceCrossed (s : State) (m : Mark) (outletAtKnife : Pos) : State :=
  s.announce { m with pos := outletAtKnife + toPos s.sets.feed.b }

/-- A WAITING mark crosses the knife line (R85, R86): the state after it, and the entry if it stays to await the credit. -/
def State.crossOne (s : State) (e : BayEntry) : State × Option BayEntry :=
  if discardedAtLeader s.sets.line.role e.mark.body then ({ s with web.discarded := satInc s.web.discarded }, none)
  else
    let t := s.reportCrossing e.mark
    match t.web.seg.convert t.knifePoint t.web.o e.mark.pos with
    | some ok => (t.announceCrossed e.mark ok, none)
    | none => (t, some { e with awaiting := true })

/-- The bay queue examined from its head (R85): AWAITING CREDIT entries are passed over, WAITING marks that have crossed are taken in
order, up to the first that has not. `kept` holds the entries passed, the last first. -/
def State.crossFrom (s : State) (kept : List BayEntry) : List BayEntry → State
  | [] => { s with web.bay := kept.reverse }
  | e :: es =>
    if e.awaiting then s.crossFrom (e :: kept) es
    else if atOrBeyond s.web.i (e.mark.pos + toPos s.sets.feed.a) then
      match s.crossOne e with
      | (t, none) => t.crossFrom kept es
      | (t, some e') => t.crossFrom (e' :: kept) es
    else { s with web.bay := kept.reverse ++ e :: es }

/-- The knife crossings of the bay queue (R85). -/
def State.crossings (s : State) : State := s.crossFrom [] s.web.bay

/-- At the credit of a FOLD segment every mark awaiting credit is converted to the outlet start plus w and announced, in bay queue order
(R87). -/
def State.creditFrom (s : State) (ok : Pos) (kept : List BayEntry) : List BayEntry → State
  | [] => { s with web.bay := kept.reverse }
  | e :: es =>
    if e.awaiting then (s.announceCrossed e.mark ok).creditFrom ok kept es else s.creditFrom ok (e :: kept) es

/-- A mark enters the bay queue at its web point in state WAITING (R84, R143), or is dropped from a full one with QUEUE_OVERFLOW (R82). A
SPLICE becomes known to the leader (R51), and the queue is examined (R85). -/
def State.enterBay (s : State) (m : Mark) : State :=
  if 32 ≤ s.web.bay.length then s.raiseFault (.queueOverflow .bay m.body.code m.origin)
  else
    let t := { s with web.bay := insertMark (fun e => e.mark.pos) { mark := m, awaiting := false } s.web.bay }
    let u := match m.body with
      | .splice _ => t.spliceKnown m.pos
      | _ => t
    u.crossings

/-! ## The span queue (R83, R84) -/

/-- The marks at the head of the span queue that are due move to the bay queue in order (R84); the rest is the span queue. -/
def State.leaveSpanFrom (s : State) : List Mark → State
  | [] => { s with web.span := [] }
  | m :: ms =>
    if s.web.latched = true ∧ atOrBeyond (s.web.i + s.web.k) m.pos = true then
      ({ s with web.span := ms }.enterBay { m with pos := m.pos - s.web.k }).leaveSpanFrom ms
    else { s with web.span := m :: ms }

/-- The head of the span queue is tested (R84). -/
def State.leaveSpan (s : State) : State := s.leaveSpanFrom s.web.span

/-- A mark enters the span queue at its upstream position (R83), or is dropped from a full one with QUEUE_OVERFLOW (R82). -/
def State.enterSpan (s : State) (m : Mark) : State :=
  if 16 ≤ s.web.span.length then s.raiseFault (.queueOverflow .span m.body.code m.origin)
  else
    let t := { s with web.span := insertMark Mark.pos m s.web.span }
    let u := match m.body with
      | .splice _ => if t.web.latched then t.spliceKnown (m.pos - t.web.k) else t
      | _ => t
    u.leaveSpan

/-! ## Fold registration (R68 to R74) -/

/-- The unit works: a FOLLOWER with registration on (4). -/
def State.registering (s : State) : Bool := s.sets.line.role == .follower && s.sets.knife.registration

/-- The error of an observed web point from an expected one (R70). -/
def foldError (observed expected : Pos) : Int := (observed - expected).toInt

/-- An error within the window (R70). -/
def inWindow (w : Nat) (e : Int) : Bool := decide (-(w : Int) ≤ e) && decide (e ≤ (w : Int))

/-- The oldest unused record within the window of an expected point, as its error and the history with the record used (R70, R71). -/
def takeDetection (w : Nat) (x : Pos) : List Detection → Option (Int × List Detection)
  | [] => none
  | d :: ds =>
    if d.used = false ∧ inWindow w (foldError d.x x) = true then some (foldError d.x x, { d with used := true } :: ds)
    else (takeDetection w x ds).map fun r => (r.1, d :: r.2)

/-- The new correction: the floor average of the old one and the error (R71). -/
def newCorrection (c e : Int) : Int := (c + e).fdiv 2

/-- An accepted detection resolves the open expectation and updates the correction (R71); the recovery of the miss count signals
REGISTRATION (R74). -/
def State.acceptDetection (s : State) (e : Int) (history : List Detection) : State :=
  let c := newCorrection s.reg.c e
  let t := { s with
    reg.history := history, reg.expect := none, reg.c := c, reg.u := s.reg.u + (c - s.reg.c), reg.misses := 0
    reg.lastErr := e, reg.accepted := satInc s.reg.accepted }
  if 0 < s.reg.misses then t.signal .registration else t

/-- The open expectation is resolved as a miss (R74). -/
def State.miss (s : State) : State :=
  match s.reg.expect with
  | none => s
  | some x =>
    let t := { s with reg.expect := none, reg.misses := min (s.reg.misses + 1) 4 }.signal .registration
    if s.reg.misses = 3 then t.raiseFault (.registrationLost x.step x.x) else t

/-- The deadline test of a nip pulse (R70). -/
def State.deadlineTest (s : State) : State :=
  match s.reg.expect with
  | none => s
  | some x => if beyond s.web.i x.deadline then s.miss else s

/-- An expectation is created and tested against the history (R70). -/
def State.openExpectation (s : State) (step : Nat) : State :=
  let t := s.miss
  let x := t.reg.nominal
  let deadline := x + toPos (t.sets.feed.aS + t.sets.knife.window)
  let u := { t with reg.expect := some { step := step, x := x, deadline := deadline } }
  match takeDetection u.sets.knife.window x u.reg.history with
  | some (e, history) => u.acceptDetection e history
  | none => u.deadlineTest

/-- A record placed in the history, the oldest removed first from a full one (R68). -/
def placeDetection (history : List Detection) (d : Detection) : List Detection :=
  (if 8 ≤ history.length then history.drop 1 else history) ++ [d]

/-- A detection (R67, R68): its record is placed and counted, and tested against the open expectation (R70). -/
def State.detect (s : State) : State :=
  if s.registering = true ∧ s.running = true then
    let x := s.web.i - toPos s.sets.feed.aS
    let older := if 8 ≤ s.reg.history.length then s.reg.history.drop 1 else s.reg.history
    let t := { s with reg.history := placeDetection s.reg.history { x := x, used := false }, reg.detections := satInc s.reg.detections }
    match t.reg.expect with
    | none => t
    | some j =>
      if inWindow t.sets.knife.window (foldError x j.x) then
        t.acceptDetection (foldError x j.x) (older ++ [{ x := x, used := true }])
      else t
  else s

/-- A level set in a byte of channel levels. -/
def setLevel (levels : BitVec 8) (ch : Fin 8) (b : Bool) : BitVec 8 :=
  if b then levels ||| BitVec.twoPow 8 ch.val else levels &&& ~~~ BitVec.twoPow 8 ch.val

/-- A filtered level takes a level; the match going from false to true is a detection (R67). The match before the change is formed with
the KNIFE set in force, not with the one in force at the change before it (DESIGN CHOICE, log 40). -/
def State.setFiltered (s : State) (ch : Fin 8) (b : Bool) : State :=
  let t := { s with reg.filtered := setLevel s.reg.filtered ch b }
  if matchOf s.sets.knife s.reg.filtered = false ∧ matchOf t.sets.knife t.reg.filtered = true then t.detect else t

/-! ## Nip pulses and credits (R43, R45, R76) -/

/-- The consumed length of the RUNNING spindle rises (R139); a pulse taken with the remaining length 0 raises RUN_OUT (R146). -/
def State.consume (s : State) : State :=
  match s.sets.line.standKind, s.stand.inState .running with
  | .unwind, some id =>
    let x := s.stand.spindle id
    let t := s.setSpindle id { x with consumed := satAdd32 x.consumed 1 }
    if x.remaining = 0 then t.raiseFault (.runOut id x.roll) else t
  | _, _ => s

/-- A nip pulse: I advances by 1 (R76), the rest timer restarts (R78), and a running roll is consumed (R139). RUN_OUT with the latch it sets
(R146) comes before every other effect of the pulse that may raise a fault, so it is then the first fault (DESIGN CHOICE, log 7). -/
def State.nipPulse (s : State) : State :=
  { s with web.i := s.web.i + 1, web.restDue := if s.ownId.val = 0 then none else some (s.now + 200000) }.consume

/-- What a nip pulse does on the web: the deadline test (R70), the knife crossings (R85) and the span queue (R84), in this order
(DESIGN CHOICE, log 7). -/
def State.nipEffects (s : State) : State := s.deadlineTest.crossings.leaveSpan

/-- The wound length of a rewind's WINDING spindle rises with O (R147). -/
def State.wind (s : State) (n : Nat) : State :=
  match s.sets.line.standKind, s.stand.inState .winding with
  | .rewind, some id => s.setSpindle id { s.stand.spindle id with wound := satAdd32 (s.stand.spindle id).wound n }
  | _, _ => s

/-- O advances (R45). -/
def State.advanceOutlet (s : State) (n : Nat) : State := { s with web.o := s.web.o + toPos n }.wind n

/-- What follows an advance of O: the Dwell Table and the panel accounting, and an effect of the Web Tracker's own. With zones the two
come in either order, by a free choice (R88, R126; DESIGN CHOICE, log 6). The Dwell Table's exits with their UNDERSET marks always come
before the test of the outlet list, the panel's length end and a cut at maximum (R150), and without zones these three come before the
pulse's crossings or the credit's conversions (DESIGN CHOICE, log 33). The spec gives the cut and these exits no order, and the insertion
of an UNDERSET mark, or of a mark of the Web Tracker's own effects where these come first, sweeps every mark and a length end that stand at
or before O, so that all of them come before the cut and the free choice of `State.account` has nothing left at O to order (DESIGN CHOICE,
logs 6 and 33). -/
def State.afterAdvance (s : State) (web : State → State) : State :=
  if s.sets.box.zoneCount = 0 then web s.account else eitherOrder (fun t => t.dwellAdvance.account) web s

/-- A nip pulse of a FLAT step or a continuous run: I and O advance by 1 (R45). What the pulse ends, a FLAT step or a bridge, ends before
the crossings of the pulse are reported (DESIGN CHOICE, log 7). -/
def State.flowPulse (s : State) (boundary : State → State) : State :=
  (s.nipPulse.advanceOutlet 1).afterAdvance fun t => (boundary t).nipEffects

/-- The segment's credited flag is set (R77). -/
def Segment.credit (g : Segment) : Segment :=
  match g.kind with
  | .flow => g
  | .fold w _ => { g with kind := .fold w true }

/-- The credit of a FOLD step's width (R44, R45, R47): O jumps by w, the segment is credited, and the marks awaiting credit are
converted (R87). -/
def State.creditFold (s : State) (w : Nat) : State :=
  let t := { s with web.seg := s.web.seg.credit }.advanceOutlet w
  t.afterAdvance fun x => x.creditFrom (x.web.seg.outletStart + toPos w) [] x.web.bay

end Sys2Proof.Machine
end

