-- ==== Sys2Proof/Machine/Settle.lean ====
section
/-! DEFINITION. The shared operations of the Zone Controller and the Drain Arbiter (R98 to R122), and the settling of a step: what the
rules take "at once" or "at that moment" as the consequence of a change made in the step, in a fixed order (DEDUCED, log 5). -/

namespace Sys2Proof.Machine

/-! ## Zones (R99 to R118) -/

/-- A zone record. -/
def State.zone (s : State) (z : Fin 4) : Zone := s.box.zones[z]

/-- A peer record. -/
def State.peer (s : State) (id : StationId) : Peer := s.peers[id]

/-- A zone record replaced. -/
def State.setZone (s : State) (z : Fin 4) (r : Zone) : State := { s with box.zones := s.box.zones.set z r }

/-- A zone's event is signalled and its change record written (R121). -/
def State.zoneEvent (s : State) (z : Fin 4) (r : Zone) (e : ZoneEvent) : State :=
  (s.setZone z { r with change := some (e, r.state) }).signal .zone

/-- The drain is released (R112, R113): no owner, the purge timer ended. -/
def State.releaseDrain (s : State) : State := { s with box.owner := none, box.purgeDue := 0 }

/-- READY and OPEN follow the effective rate (R104): a READY zone with debt below 3 opens while the rate is above 0, an OPEN zone closes
when it is 0. -/
def Zone.valveRule (r : Zone) (rate : Nat) : Zone :=
  if r.state = .ready ∧ r.debt < 3 ∧ 0 < rate then { r with state := .open }
  else if r.state = .open ∧ rate = 0 then { r with state := .ready }
  else r

/-- The valves follow the effective rate (R104). -/
def State.moveValves (s : State) : State :=
  { s with box.zones := tabulate fun (z : Fin 4) => (s.zone z).valveRule s.rate.effective }

/-- The better of two zones for the drain: the higher debt, the lower number at equal debts (R111). -/
def betterForDrain (zones : Vector Zone 4) (best : Option (Fin 4)) (z : Fin 4) : Option (Fin 4) :=
  if requestsDrain zones[z] then
    match best with
    | none => some z
    | some y => if zones[y].debt < zones[z].debt then some z else some y
  else best

/-- The zone the Drain Arbiter would grant (R111): of the requesting zones the highest debt, then the lowest number. -/
def drainChoice (zones : Vector Zone 4) : Option (Fin 4) := (List.finRange 4).foldl (betterForDrain zones) none

/-- The grant to a zone: it becomes the owner, the purge timer starts, and it enters PURGE (R111). -/
def State.grantDrain (s : State) (z : Fin 4) : State :=
  { s with
    box.owner := some z
    box.purgeDue := s.now + 1000000 * s.sets.box.purgeTime
    box.zones := s.box.zones.set z { s.zone z with state := .purge } }

/-- The Drain Arbiter's choice while the owner is none (R111). -/
def State.arbitrate (s : State) : State :=
  match s.box.owner with
  | some _ => s
  | none =>
    match drainChoice s.box.zones with
    | none => s
    | some z => s.grantDrain z

/-- No zone of the station is in OPEN, PURGE or WARMING (R115). -/
def State.boxAtRest (s : State) : Bool :=
  (List.finRange 4).all fun z =>
    !s.isZone z || ((s.zone z).state != .open && (s.zone z).state != .purge && (s.zone z).state != .warming)

/-- A READY zone at keep-warm entry: KEEPWARM if its mask flag is set, OFF if clear (R107, R115). -/
def Zone.toKeepWarm (r : Zone) (masked : Bool) : Zone :=
  if masked then { r with state := .keepwarm, settle := none } else { r with state := .off, settle := none, heater := false }

/-- Keep-warm is entered (R115) when the idle timer has expired and no zone is in OPEN, PURGE or WARMING. -/
def State.keepWarmEntry (s : State) : State :=
  if s.box.idle = .expired ∧ s.box.inForce = false ∧ 0 < s.sets.box.zoneCount ∧ s.running = true ∧ s.boxAtRest = true then
    State.signal { s with
      box.zones := tabulate fun (z : Fin 4) =>
        if (s.zone z).state = .ready then (s.zone z).toKeepWarm (s.sets.box.mask.getLsbD z.val) else s.zone z
      box.inForce := true
      box.keepwarms := satInc s.box.keepwarms
      box.change := some .keepWarmEntered } .zone
  else s

/-- A zone that enters WARMING has its settle timer stopped (R103). -/
def Zone.toWarming (r : Zone) : Zone := { r with state := .warming, settle := none }

/-- Keep-warm is left, if it is in force (R117): KEEPWARM and OFF zones of the station go to WARMING, and the idle timer is started. -/
def State.keepWarmExit (s : State) : State :=
  if s.box.inForce then
    State.signal { s with
      box.zones := tabulate fun (z : Fin 4) =>
        if s.isZone z = true ∧ ((s.zone z).state = .keepwarm ∨ (s.zone z).state = .off) then (s.zone z).toWarming
        else s.zone z
      box.inForce := false
      box.idle := s.startedIdle
      box.change := some .keepWarmLeft } .zone
  else s

/-- The ready length (R119). -/
def State.readyLength (s : State) : Nat :=
  (List.finRange 4).foldl
    (fun (n : Nat) (z : Fin 4) =>
      if s.isZone z = true ∧ ((s.zone z).state = .ready ∨ (s.zone z).state = .open) then n + s.sets.box.zones[z].length
      else n) 0

/-- The set limit of a dwell setting, an outlet panel length and a ready length (R119). -/
def setLimitOf (dwell q ready : Nat) : Nat :=
  if ready = 0 ∨ q = 0 then 0
  else
    let limit := min 60000 (60000000000 / ceilDiv (dwell * 100000 * q) ready)
    if limit < 100 then 0 else limit

/-- The set limit component (R2, R119). -/
def State.setLimitNow (s : State) : Nat :=
  if s.sets.box.zoneCount = 0 then 60000 else setLimitOf s.sets.box.dwell s.outletLength s.readyLength

/-! ## The knife at a set latch (R46, R47) -/

/-- Entry to ABORTING (R47): the width is credited, a MISSFOLD mark is announced b after the step's outlet start, and the missed-fold
count rises. R88 takes announcements of one instant in the order they reach the Web Tracker and no rule gives that order here: the model
announces the MISSFOLD after the marks that the credit converts and the UNDERSET marks that it closes (DESIGN CHOICE, log 50). -/
def State.enterAborting (s : State) : State :=
  let t := { s with
    knife.phase := .aborting, knife.due := s.now + 1000 * s.sets.knife.tRelease, knife.missed := satInc s.knife.missed }
  match s.knife.cycle with
  | none => t
  | some c => (t.creditFold c.w).announceOwn .missfold c.outletStart

/-- The set latch acts on the knife by its phase (R46 to R48): a feed is halted, a tuck aborts, the other phases run on. -/
def State.knifeSettle (s : State) : State :=
  if s.rate.latch then
    match s.knife.phase with
    | .tuck => s.enterAborting
    | .feed => { s with knife.halted := true }
    | .idle | .press | .release | .aborting => s
  else s

/-! ## Joining (R187) -/

/-- The record of an expected peer is LIVE. -/
def State.peersLive (s : State) : Bool :=
  (List.finRange 16).all fun id => !s.isPeer id || (s.peer id).presence == .live

/-- The five joining conditions (R187). A condition that does not apply to the station holds. -/
def State.joiningConditions (s : State) : List Bool :=
  [ s.peersLive,
    s.ownId.val == 0 || s.web.latched,
    s.inletLength != 0 && s.outletLength != 0,
    s.sets.line.role != .follower || s.follower.matched,
    match s.sets.line.standKind with
    | .none => true
    | .unwind => (s.stand.inState .running).isSome
    | .rewind => (s.stand.inState .winding).isSome ]

/-- A station in JOINING enters ACTIVE when all the joining conditions hold (R187). -/
def State.joinTest (s : State) : State :=
  if s.port.state = .joining ∧ s.joiningConditions.all id = true then { s with port.state := .active } else s

/-! ## The rewind at rest and the pending transfer (R148, R150) -/

/-- The spindle a cut at rest would cut over to (R150). -/
def State.restCut (s : State) : Option SpindleId :=
  if s.sets.line.standKind = .rewind ∧ s.stand.overfill = true ∧ s.port.state = .active ∧ s.rate.latch = false ∧ s.quiet = true
      ∧ s.rate.effective = 0 then
    match s.stand.inState .winding with
    | none => none
    | some w =>
      let x := s.stand.spindle (otherSpindle w)
      if x.state = .loaded ∨ x.state = .arming ∨ x.state = .synced then some (otherSpindle w) else none
  else none

/-- The cut at rest, taken when the last of its conditions comes to hold (R150). -/
def State.cutAtRest (s : State) : State :=
  match s.restCut with
  | none => s
  | some id => s.splitCut id

/-- A spindle enters ARMING and the arming timer starts with t_arm (R141, R142, R148). -/
def State.armSpindle (s : State) (id : SpindleId) : State :=
  { s.setSpindle id { s.stand.spindle id with state := .arming } with
    stand.armDue := some (s.now + 1000000 * s.sets.stand.tArm) }

/-- While a transfer is pending, a usable LOADED spindle enters ARMING at once (R148). -/
def State.transferArm (s : State) : State :=
  if s.transferPending = true ∧ s.running = true then
    match s.stand.inState .winding with
    | none => s
    | some w => if (s.stand.spindle (otherSpindle w)).usable then s.armSpindle (otherSpindle w) else s
  else s

/-! ## Limits (R1, R2, R5, R9) -/

/-- The knife limit component (R2, R28). -/
def State.knifeLimitNow (s : State) : Nat :=
  match s.sets.line.role with
  | .none => 60000
  | .leader | .follower => if s.pat.status = .valid then s.pat.knifeLimit else 0

/-- The five components as their owners deliver them (R2). The dancer limit is the Cadence Generator's own (R3). -/
def State.deliverComponents (s : State) : State :=
  { s with
    rate.stationMax := if s.sets.lineW then s.sets.line.stationMax else 60000
    rate.knifeLimit := s.knifeLimitNow
    rate.setLimit := s.setLimitNow
    rate.standLimit := s.standLimitNow }

/-- The own limit (R1, R5). -/
def State.ownLimitNow (s : State) : Nat :=
  if s.port.state = .active ∧ s.rate.latch = false then s.rate.minimum else 0

/-- The least of the own limit and the last limits of the LIVE peers (R9). -/
def State.leastLimit (s : State) : Nat :=
  (List.finRange 16).foldl
    (fun (n : Nat) (id : StationId) => if s.isPeer id = true ∧ (s.peer id).presence = .live then min n (s.peer id).lastLimit else n) s.rate.own

/-- The resolved rate (R9). -/
def State.resolvedNow (s : State) : Nat :=
  if s.peersLive then (if s.leastLimit < 100 then 0 else s.leastLimit) else 0

/-- The limit components, the own limit and the resolved rate formed again (R1, R10). -/
def State.limits (s : State) : State :=
  let t := s.deliverComponents
  let u := { t with rate.own := t.ownLimitNow }
  { u with rate.resolved := u.resolvedNow }

/-- The zones' share of the settling: valves (R104), the Drain Arbiter (R111), keep-warm entry (R115). -/
def State.zoneSettle (s : State) : State := s.moveValves.arbitrate.keepWarmEntry

/-- What follows a change once the knife has answered (DEDUCED, log 5): verdicts that are due (R153), the joining test (R187), the cut at rest
(R150), transfer arming (R148), the zones (R104, R111, R115), the limits (R1, R9). -/
def State.consequences (s : State) : State := s.judgeDue.joinTest.cutAtRest.transferArm.zoneSettle.limits

/-- The settling of a step (DEDUCED, log 5): the set latch on the knife (R46, R47), then all that follows. -/
def State.settle (s : State) : State := s.knifeSettle.consequences

end Sys2Proof.Machine
end

