-- ==== Sys2Proof/Machine/Operands.lean ====
section
/-! DEFINITION. The operand forms: the fields of the configuration sets as WRITE SET carries them (11.3) with every range and condition
(R183 to R185, R199), the other commands' argument bytes, the payloads of link frames as marks (R198), and the values response bytes
are made of (11.4). -/

namespace Sys2Proof.Machine

/-! ## Bytes -/

/-- The number that bytes spell, most significant first (11). -/
def ofBytes (bytes : List Byte) : Nat := bytes.foldl (fun n b => 256 * n + b.toNat) 0

/-- The number in `len` bytes at an offset. -/
def numAt (bytes : List Byte) (off len : Nat) : Nat := ofBytes ((bytes.drop off).take len)

/-- The low `len` bytes of a number, most significant first (11). -/
def toBytes (len n : Nat) : List Byte := (List.range len).map fun k => BitVec.ofNat 8 (n / 256 ^ (len - 1 - k))

/-- A value lies in a range, both ends included. -/
def within (lo n hi : Nat) : Bool := decide (lo ≤ n) && decide (n ≤ hi)

/-! ## Choice codes (11.3) -/

/-- Stand kind codes. -/
def standKindOf (n : Nat) : Option StandKind :=
  if n = 0 then some .none else if n = 1 then some .unwind else if n = 2 then some .rewind else none

/-- Pattern role codes. -/
def roleOf (n : Nat) : Option Role :=
  if n = 0 then some .none else if n = 1 then some .leader else if n = 2 then some .follower else none

/-- Match mode codes. -/
def matchModeOf (n : Nat) : Option MatchMode :=
  if n = 0 then some .all else if n = 1 then some .any else if n = 2 then some .atLeast else none

/-- Registration codes. -/
def onOffOf (n : Nat) : Option Bool := if n = 0 then some false else if n = 1 then some true else none

/-- Spindle codes (R199). -/
def spindleOf (b : Byte) : Option SpindleId := if b = 0 then some .a else if b = 1 then some .b else none

/-- Zone numbers. -/
def zoneOf (b : Byte) : Option (Fin 4) := if h : b.toNat < 4 then some ⟨b.toNat, h⟩ else none

/-! ## The LINE set (R183) -/

/-- The LINE set's fields from its 10 bytes, if every field and condition holds. -/
def parseLine (f : List Byte) : Option LineSet :=
  match standKindOf (numAt f 2 1), roleOf (numAt f 3 1) with
  | some kind, some role =>
    let id := numAt f 0 1
    let n := numAt f 1 1
    if within 0 id 15 && within 2 n 16 && decide (id < n) && within 100 (numAt f 4 2) 60000 && within 1 (numAt f 6 2) 1000
        && within 1 (numAt f 8 2) 1000 && (kind != .unwind || id == 0) && (kind != .rewind || id + 1 == n) then
      some { id := Fin.ofNat 16 id, n := n, standKind := kind, role := role, stationMax := numAt f 4 2, up := numAt f 6 2,
             down := numAt f 8 2 }
    else none
  | _, _ => none

/-! ## The FEED set (R184) -/

/-- The FEED set's fields from its 27 bytes. -/
def feedOf (f : List Byte) : FeedSet :=
  { a := numAt f 0 3, aS := numAt f 3 3, b := numAt f 6 3, vFeed := numAt f 9 3, s0 := numAt f 12 3, scale := numAt f 15 1,
    tripLo := numAt f 16 2, holdLo := numAt f 18 2, setpoint := numAt f 20 2, holdHi := numAt f 22 2, tripHi := numAt f 24 2,
    gain := numAt f 26 1 }

/-- The five dancer levels (R184): 0 to 1023 and strictly increasing. -/
def FeedSet.levelsOk (x : FeedSet) : Bool :=
  decide (x.tripLo < x.holdLo) && decide (x.holdLo < x.setpoint) && decide (x.setpoint < x.holdHi) && decide (x.holdHi < x.tripHi)
    && within 0 x.tripHi 1023

/-- The outlet distance against a SET set (R123, R184): at least the box length, and a table span of at most 128. -/
def outletOk (b : Nat) (box : BoxSet) : Bool := decide (box.boxLength ≤ b) && decide (tableSpan b box.cell ≤ 128)

/-- The FEED set's ranges and conditions (R184). -/
def FeedSet.ok (x : FeedSet) (line : LineSet) (box : BoxSet) : Bool :=
  within 0 x.a 200000
    && (if line.role = .none then x.a == 0 && x.aS == 0 else within 1 x.a 200000 && decide (x.aS < x.a))
    && within 0 x.b 500000 && within 1000 x.vFeed 80000 && within 0 x.s0 4000000
    && (line.id == 0 || x.levelsOk)
    && (box.zoneCount == 0 || outletOk x.b box)

/-! ## The KNIFE set (R185) -/

/-- The KNIFE set's fields from its 17 bytes, if every field is in range. -/
def parseKnife (f : List Byte) : Option KnifeSet :=
  match onOffOf (numAt f 9 1), matchModeOf (numAt f 11 1) with
  | some reg, some mode =>
    if within 10 (numAt f 0 2) 2000 && within 10 (numAt f 2 2) 5000 && within 10 (numAt f 4 2) 2000 && within 0 (numAt f 6 3) 100000
        && within 0 (numAt f 10 1) 15 && within 1 (numAt f 12 1) 8 && within 0 (numAt f 13 2) 4095 && within 0 (numAt f 15 2) 4095 then
      some { tTuck := numAt f 0 2, tPress := numAt f 2 2, tRelease := numAt f 4 2, g := numAt f 6 3, registration := reg,
             deskew := numAt f 10 1, mode := mode, count := numAt f 12 1, window := numAt f 13 2, maxTrim := numAt f 15 2 }
    else none
  | _, _ => none

/-! ## The SET set (6.1, R185) -/

/-- The SET set's fields from its 43 bytes. -/
def boxOf (f : List Byte) : BoxSet :=
  { zoneCount := numAt f 0 1
    zones := tabulate fun (z : Fin 4) => { length := numAt f (1 + 5 * z.val) 3, setpoint := numAt f (4 + 5 * z.val) 2 }
    base := numAt f 21 2, span := numAt f 23 2, band := numAt f 25 1, hyst := numAt f 26 1, margin := numAt f 27 2
    settle := numAt f 29 2, dwell := numAt f 31 2, purgeInterval := numAt f 33 2, purgeTime := numAt f 35 1, cell := numAt f 36 2
    entry := numAt f 38 2, mask := BitVec.ofNat 4 (numAt f 40 1), drop := numAt f 41 2 }

/-- A zone in use has its length and setpoint in range, and the keep-warm drop is at most its setpoint (6.1, R185). -/
def BoxSet.zoneOk (x : BoxSet) (z : Fin 4) : Bool :=
  decide (x.zoneCount ≤ z.val)
    || (within 1000 x.zones[z].length 200000 && within 200 x.zones[z].setpoint 1800 && decide (x.drop ≤ x.zones[z].setpoint))

/-- The SET set's ranges and conditions (6.1, R98, R123, R185); `maskByte` is the mask as carried, whose bits 4 to 7 must be clear
(R199). -/
def BoxSet.ok (x : BoxSet) (maskByte : Nat) (feedW : Bool) (b : Nat) : Bool :=
  within 0 x.zoneCount 4 && (List.finRange 4).all x.zoneOk && within 0 x.base 2000 && within 1 x.span 2000
    && decide (x.base + x.span ≤ 2000) && within 5 x.band 200 && within 1 x.hyst 100 && within (x.band + 1) x.margin 500
    && within 1 x.settle 600 && within 1 x.dwell 600 && within 5 x.purgeInterval 3600 && within 1 x.purgeTime 60
    && within 200 x.cell 4000 && within 0 x.entry 3600 && within 0 maskByte 15 && within 0 x.drop 1000
    && (x.zoneCount == 0 || (decide (x.cellCount ≤ 128) && (!feedW || outletOk b x)))

/-! ## The STAND set (8.1, R185) -/

/-- The STAND set's fields from its 17 bytes. -/
def standOf (f : List Byte) : StandSet :=
  { cap := numAt f 0 2, tArm := numAt f 2 1, tPaste := numAt f 3 2, dP := numAt f 5 3, margin := numAt f 8 3, target := numAt f 11 2,
    maxWound := numAt f 13 4 }

/-- The STAND set's ranges (8.1). -/
def StandSet.ok (x : StandSet) : Bool :=
  within 100 x.cap 60000 && within 1 x.tArm 120 && within 50 x.tPaste 2000 && within 0 x.dP 200000 && within 0 x.margin 1000000
    && within 1 x.target 999 && within 10000 x.maxWound 4000000000

/-! ## WRITE SET as a whole (R182) -/

/-- The length of a set's fields by its code (11.3). -/
def setLength (code : Byte) : Option Nat :=
  if code = 1 then some 10 else if code = 2 then some 27 else if code = 3 then some 17 else if code = 4 then some 43
  else if code = 5 then some 17 else none

/-- A set named by a WRITE SET, read from its fields. -/
inductive SetWrite where
  | line (x : LineSet)
  | feed (x : FeedSet)
  | knife (x : KnifeSet)
  | box (x : BoxSet)
  | stand (x : StandSet)
deriving DecidableEq, Repr

/-- The set a WRITE SET would put in force, if its fields and conditions hold (R182 to R185). -/
def State.parseSet (s : State) (code : Byte) (f : List Byte) : Option SetWrite :=
  if code = 1 then (parseLine f).map .line
  else if code = 2 then if (feedOf f).ok s.sets.line s.sets.box then some (.feed (feedOf f)) else none
  else if code = 3 then (parseKnife f).map .knife
  else if code = 4 then
    if (boxOf f).ok (numAt f 40 1) s.sets.feedW s.sets.feed.b then some (.box (boxOf f)) else none
  else if code = 5 then if (standOf f).ok then some (.stand (standOf f)) else none
  else none

/-! ## Marks from the link (R198) -/

/-- The body of a received mark, if its kind and its fields are those of a mark (R198). A field its kind does not use is absent. -/
def markBodyOf (p : MarkPayload) : Option MarkBody :=
  if p.kind = 1 then some (.splice p.roll)
  else if p.kind = 2 then if p.value = 0 then none else some (.panel p.value)
  else if p.kind = 3 then if p.value = 0 then none else some (.abort p.value)
  else if p.kind = 4 then if p.value = 0 then none else some (.underset p.value)
  else if p.kind = 5 then some .missfold
  else none

/-- A received mark at its upstream position (R83). -/
def markOf (p : MarkPayload) : Option Mark :=
  (markBodyOf p).map fun b => { body := b, origin := Fin.ofNat 16 p.origin.toNat, pos := p.position }

/-! ## Values of a response (11.4) -/

/-- A signed value in 4 bytes of two's complement. -/
def signedBytes (v : Int) : List Byte := toBytes 4 (BitVec.ofInt 32 v).toNat

/-- A flag in bit 0 of a byte. -/
def flagByte (b : Bool) : Byte := if b then 1 else 0

/-- A value that may be absent where 0 is also a value: a presence byte before it (11.4). -/
def optBytes {α : Type} (len : Nat) (f : α → List Byte) : Option α → List Byte
  | none => 0 :: List.replicate len 0
  | some x => 1 :: f x

/-- A time in microseconds as whole milliseconds, a part of one rounded up or down. -/
def wholeMs (roundsUp : Bool) (micros : Nat) : Nat :=
  if micros % 1000 = 0 then micros / 1000 else micros / 1000 + (if roundsUp then 1 else 0)

/-- The remaining time of a timer in ms; the rounding of a part of a ms is free (DESIGN CHOICE, log 17). -/
def State.remainingMs (s : State) (due : Nat) : Nat := wholeMs Config.msRoundsUp (due - s.now)

/-- A peer's age in ms (R174, R177): since the last valid frame, saturating; 0 while UNHEARD. The rounding of a part of a ms is free
(DESIGN CHOICE, log 17). -/
def State.age (s : State) (p : Peer) : Nat :=
  if p.presence = .unheard then 0 else min (wholeMs Config.ageRoundsUp (s.now - p.heardAt)) 65535

/-- The cell count as the status word shows it (R123); a free value while the cell length is 0 (DESIGN CHOICE, log 36). -/
def BoxSet.shownCellCount (b : BoxSet) : Nat := if b.cell = 0 then Config.cellCountUnset else b.cellCount

/-- The table span as the status word shows it (R123); a free value while the cell length is 0 (DESIGN CHOICE, log 36). -/
def shownTableSpan (b cell : Nat) : Nat := if cell = 0 then Config.tableSpanUnset b else tableSpan b cell

end Sys2Proof.Machine
end

