-- ==== Sys2Proof/Machine/Pattern.lean ====
section
/-! DEFINITION. The step stream of the pattern store, the pattern check and the running decoder (R29 to R40). -/

namespace Sys2Proof.Machine

/-! ## Records (R29, R30, 11.2) -/

/-- A 7-bit two's complement delta as a signed integer (R30). -/
def signed7 (n : Nat) : Int := if n < 64 then (n : Int) else (n : Int) - 128

/-- A width or depth field at a bit offset (R30): a form bit and a delta from the previous value, or an absolute value; with the offset
after it. None when it extends beyond the bit length. -/
def readValue (m : List Host.Cell) (bitLen off prev : Nat) : Option (Int × Nat) :=
  if bitLen < off + 1 then none
  else if storeBit m off then
    if bitLen < off + 17 then none else some ((storeField m (off + 1) 16 : Int), off + 17)
  else if bitLen < off + 8 then none
  else some ((prev : Int) + signed7 (storeField m (off + 1) 7), off + 8)

/-- The fields of a record after its kind bits: register flag, width (or length) and depth as read, and the offset after the record. -/
structure RecordFields where
  flag : Bool
  width : Int
  depth : Int
  next : Nat
deriving DecidableEq, Repr

/-- The kind bits of a record: none for END (11.2). -/
def kindOfBits (n : Nat) : Option StepKind :=
  if n = 0 then none else if n = 1 then some .flat else if n = 2 then some .foldLeft else some .foldRight

/-- The fields of the record of a kind whose kind bits stand at `off` (R29, R30); none when they extend beyond the bit length. -/
def readFields (m : List Host.Cell) (bitLen off pw pd : Nat) : StepKind → Option RecordFields
  | .flat =>
    if bitLen < off + 18 then none
    else some { flag := false, width := (storeField m (off + 2) 16 : Int), depth := 0, next := off + 18 }
  | .foldLeft | .foldRight =>
    if bitLen < off + 3 then none
    else
      match readValue m bitLen (off + 3) pw with
      | none => none
      | some (w, off1) =>
        match readValue m bitLen off1 pd with
        | none => none
        | some (d, off2) => some { flag := storeBit m (off + 2), width := w, depth := d, next := off2 }

/-- A record out of range (R33): a FLAT length of 0, a width outside 1 to 65535, a depth outside 1 to 32767, a pitch above 65535. -/
def badField (kind : StepKind) (r : RecordFields) : Bool :=
  match kind with
  | .flat => decide (r.width = 0)
  | .foldLeft | .foldRight =>
    decide (r.width < 1) || decide (65535 < r.width) || decide (r.depth < 1) || decide (32767 < r.depth)
      || decide (65535 < r.width + 2 * r.depth)

/-- The pitch of a record in range: the length, or w + 2d (R29). -/
def RecordFields.pitch (r : RecordFields) : Nat := (r.width + 2 * r.depth).toNat

/-! ## The check (R31 to R35) -/

/-- A step as the check reckons with it: its record's offset, its pitch, and whether it is a FOLD (R34). -/
structure CheckedStep where
  offset : Nat
  pitch : Nat
  fold : Bool
deriving DecidableEq, Repr

/-- The walk's running values (R32); `rows` holds the steps counted, the last first. -/
structure Walk where
  off : Nat := 0
  p : Nat := 0
  q : Nat := 0
  pw : Nat := 0
  pd : Nat := 0
  rows : List CheckedStep := []
deriving DecidableEq, Repr

/-- The error of the record at hand (R32): its step number is the record's own, one more than the steps counted before it, at test 6 as at
the other tests (DESIGN CHOICE, log 30). -/
def Walk.error (w : Walk) (kind : PatternErrorKind) : PatternError :=
  { kind := kind, offset := w.off, step := w.rows.length + 1 }

/-- The walk past one step in range (R32, test 6; R30). -/
def Walk.past (w : Walk) (kind : StepKind) (r : RecordFields) : Walk :=
  { off := r.next
    p := w.p + r.pitch
    q := w.q + r.width.toNat
    pw := if kind = .flat then w.pw else r.width.toNat
    pd := if kind = .flat then w.pd else r.depth.toNat
    rows := { offset := w.off, pitch := r.pitch, fold := kind != .flat } :: w.rows }

/-- The walk of R32, its tests in order. The fuel outlasts the 1024 steps a pattern may hold. A TOO_LONG of test 6 reports the failing
record's own step number, not one more than the count that includes it (DESIGN CHOICE, log 30). -/
def checkWalk (m : List Host.Cell) (bitLen : Nat) : Nat → Walk → Except PatternError Walk
  | 0, w => .error (w.error .tooLong)
  | fuel + 1, w =>
    if bitLen < w.off + 2 then .error (w.error .noEnd)
    else
      match kindOfBits (storeField m w.off 2) with
      | none => if w.rows.length = 0 then .error (w.error .empty) else .ok w
      | some kind =>
        if w.rows.length = 1024 then .error (w.error .tooLong)
        else
          match readFields m bitLen w.off w.pw w.pd kind with
          | none => .error (w.error .noEnd)
          | some r =>
            if badField kind r then .error (w.error .badField)
            else if 1000000 < (w.past kind r).p then .error (w.error .tooLong)
            else checkWalk m bitLen fuel (w.past kind r)

/-- The minimum step time in microseconds (R34). -/
def minStepTime (feed : FeedSet) (knife : KnifeSet) (row : CheckedStep) : Nat :=
  ceilDiv (row.pitch * 1000000) feed.vFeed
    + (if row.fold then 1000 * (knife.tTuck + knife.tPress + knife.tRelease) else 0)

/-- The panel bound of a step (R34). -/
def panelBound (feed : FeedSet) (knife : KnifeSet) (p : Nat) (row : CheckedStep) : Nat :=
  ceilDiv (minStepTime feed knife row * p) row.pitch

/-- The largest panel bound, T_panel_min (R34). -/
def panelMin (feed : FeedSet) (knife : KnifeSet) (p : Nat) (rows : List CheckedStep) : Nat :=
  rows.foldl (fun n row => max n (panelBound feed knife p row)) 0

/-- The knife limit (R34). -/
def knifeLimitOf (feed : FeedSet) (knife : KnifeSet) (p : Nat) (rows : List CheckedStep) : Nat :=
  min 60000 (60000000000 / panelMin feed knife p rows)

/-- The first step in stream order whose panel bound is the largest, counted from 1 (R34). -/
def unrunnableStep (feed : FeedSet) (knife : KnifeSet) (p : Nat) (rows : List CheckedStep) : PatternError :=
  let worst := panelMin feed knife p rows
  let at' := rows.findIdx fun row => panelBound feed knife p row == worst
  { kind := .unrunnable, offset := (rows[at']?.map CheckedStep.offset).getD 0, step := at' + 1 }

/-- The check results and the error record cleared with a status (R28, R31, R35). -/
def Pattern.cleared (x : Pattern) (status : PatternStatus) : Pattern :=
  { x with status := status, p := 0, q := 0, steps := 0, knifeLimit := 0, endOff := 0, err := none }

/-- The pattern as the end of a check leaves it (R35): VALID with its results, or INVALID with the error record. -/
def Pattern.checked (x : Pattern) (feed : FeedSet) (knife : KnifeSet) : Pattern :=
  match checkWalk x.store (8 * x.loaded) 1026 {} with
  | .error e => { x.cleared .invalid with err := some e }
  | .ok w =>
    let rows := w.rows.reverse
    let limit := knifeLimitOf feed knife w.p rows
    if limit < 100 then { x.cleared .invalid with err := some (unrunnableStep feed knife w.p rows) }
    else
      { x.cleared .valid with p := w.p, q := w.q, steps := rows.length, knifeLimit := limit, endOff := w.off + 2 }

/-- The pattern becomes INVALID and its results are cleared (R28). -/
def State.invalidatePattern (s : State) : State := { s with pat := s.pat.cleared .invalid }

/-! ## The running decoder (R37, R38) -/

/-- The decoder decodes in JOINING, ACTIVE, FAULT or SILENT at a LEADER or FOLLOWER while its next-step record is empty (R37, R40). -/
def State.decoding (s : State) : Bool := s.running && s.sets.line.role != .none && s.dec.next.isNone

/-- The number of the step at the cursor: 1 at the stream start, else one more than the last step handed out (R37). -/
def Decoder.nextNumber (d : Decoder) : Nat := if d.cursor = 0 then 1 else d.stepNo + 1

/-- The decoder after the record at its cursor (R37): the next-step record filled and the cursor past the record, back at 0 with the
previous fields 0 after the last step. None when the cursor stands at no step record (DESIGN CHOICE, log 26). -/
def Decoder.decoded (d : Decoder) (x : Pattern) : Option Decoder :=
  match kindOfBits (storeField x.store d.cursor 2) with
  | none => none
  | some kind =>
    match readFields x.store (8 * x.loaded) d.cursor d.prevW d.prevD kind with
    | none => none
    | some r =>
      let last := d.nextNumber == x.steps
      let fold := kind != .flat
      let step : Step :=
        { kind := kind, pitch := r.pitch, width := if fold then r.width.toNat else 0, depth := r.depth.toNat, flag := r.flag,
          number := d.nextNumber, offset := d.cursor, last := last }
      some
        { cursor := if last then 0 else r.next
          prevW := if last then 0 else if fold then r.width.toNat else d.prevW
          prevD := if last then 0 else if fold then r.depth.toNat else d.prevD
          stepNo := d.stepNo
          next := some step }

end Sys2Proof.Machine
end

