-- ==== Sys2Proof/Machine/Port.lean ====
section
/-! DEFINITION. The station port's transactions (R179, R180), and the meanings of the commands that configure, start, restart and
clear the station (R27, R31, R35, R182, R186, R190, R192), with power-on (R193, R201). -/

namespace Sys2Proof.Machine

/-! ## Transactions (R179, R180) -/

/-- ACCEPTED (11.3). -/
def accepted : Byte := 0x01

/-- REFUSED_STATE (11.3). -/
def refusedState : Byte := 0x02

/-- REFUSED_VALUE (11.3). -/
def refusedValue : Byte := 0x03

/-- REFUSED_ORDER (11.3). -/
def refusedOrder : Byte := 0x04

/-- BUSY (11.3). -/
def busy : Byte := 0x05

/-- The bits a byte string shifts out over a number of clocks, 0 past its end (R180). -/
def shiftedBits (bytes : List Byte) (edges : Nat) : List Bool :=
  let bits := bytes.flatMap bitsOf
  bits.take edges ++ List.replicate (edges - bits.length) false

/-- The response buffer shifted out during a transaction (R180, DESIGN CHOICE, log 22). -/
def State.shiftOut (s : State) (edges : Nat) : State := { s with port.sdo := shiftedBits s.port.response edges }

/-- A response placed in the buffer (R180). -/
def State.respond (s : State) (bytes : List Byte) : State := { s with port.response := bytes }

/-- The first condition of a table that holds gives the refusal. -/
def refusalOf (tests : List (Bool × Byte)) : Option Byte := (tests.find? fun x => x.1).map fun x => x.2

/-- A command judged once the transaction has ended: refused, or its effect with ACCEPTED and its data (R180). -/
def State.answer (s : State) (refusal : Option Byte) (data : List Byte) (effect : State → State) : State :=
  match refusal with
  | some code => s.respond [code]
  | none => (effect s).respond (accepted :: data)

/-- A command whose byte count is not the one required is refused with REFUSED_VALUE (R179). -/
def countRefusal (args : List Byte) (count : Nat) (refusal : Option Byte) : Option Byte :=
  if args.length = count then refusal else some refusedValue

/-- A command is taken at the rise of chip select (R179, R180): BUSY during a pattern check (R31), otherwise judged. -/
def State.takeCommand (s : State) (args : List Byte) (refusal : Option Byte) (data : List Byte) (effect : State → State) : State :=
  let t := s.shiftOut (8 * (1 + args.length))
  if s.pat.status = .checking then t.respond [busy] else t.answer refusal data effect

/-! ## FETCH, TRANSACTION_DISCARDED, UNKNOWN_COMMAND -/

/-- FETCH (R179, R200): nothing changes, and the response is clocked out as far as the fetch reaches. -/
def execFetch (bytes : Nat) (s : State) : Host.Outcome State Fault Refusal := .next (s.shiftOut (8 * bytes))

/-- TRANSACTION_DISCARDED (R179): no command is taken and the response buffer keeps its content. -/
def execTransactionDiscarded (edges : Nat) (s : State) : Host.Outcome State Fault Refusal := .next (s.shiftOut edges)

/-- UNKNOWN_COMMAND (R179): REFUSED_VALUE, or BUSY during a pattern check. A byte that names a command, or the fetch, is no unknown
command (DESIGN CHOICE, log 1). -/
def execUnknownCommand (command : Byte) (args : List Byte) (s : State) : Host.Outcome State Fault Refusal :=
  if commandBytes.contains command || command == fetchByte then .next s
  else .next (s.takeCommand args (some refusedValue) [] id)

/-! ## WRITE SET (R182) -/

/-- The refusal of a WRITE SET (R182). -/
def State.writeSetRefusal (s : State) : List Byte → Option Byte
  | [] => refusalOf [(s.running, refusedState), (true, refusedValue)]
  | code :: f =>
    refusalOf
      [ (s.running, refusedState),
        (setLength code != some f.length, refusedValue),
        (!s.sets.lineW && code != 1, refusedOrder),
        ((s.parseSet code f).isNone, refusedValue) ]

/-- The stand as a LINE set is accepted (R135): both spindle records are emptied when the stand kind differs from the one in force. -/
def Stand.underKind (t : Stand) (old new : StandKind) : Stand := if old = new then t else { t with a := {}, b := {} }

/-- A zone as a SET set is accepted (R98, R99): OFF with debt 0, heater off, temperature 0 and the sensor fault flag clear. -/
def Zone.underNewSet (r : Zone) : Zone :=
  { r with state := .off, heater := false, settle := none, debt := 0, temp := 0, sensorFault := false }

/-- The effects of an accepted WRITE SET (R182). -/
def State.putSet (s : State) : SetWrite → State
  | .line x =>
    { s with
      sets := { line := x, lineW := true }
      stand := s.stand.underKind s.sets.line.standKind x.standKind
      pat := s.pat.cleared .invalid }
  | .feed x => { s with sets.feed := x, sets.feedW := true, pat := s.pat.cleared .invalid }
  | .knife x => { s with sets.knife := x, sets.knifeW := true, pat := s.pat.cleared .invalid }
  | .box x =>
    { s with
      sets.box := x
      sets.boxW := true
      box.zones := tabulate fun (z : Fin 4) => (s.zone z).underNewSet }
  | .stand x => { s with sets.stand := x, sets.standW := true }

/-- An accepted WRITE SET puts the set named in force and delivers the components it changes (R2, R120, R182). -/
def State.writeSet (s : State) : List Byte → State
  | [] => s
  | code :: f =>
    match s.parseSet code f with
    | none => s
    | some w => (s.putSet w).settle

/-- WRITE_SET (R182 to R185, R199). -/
def execWriteSet (args : List Byte) (s : State) : Host.Outcome State Fault Refusal :=
  .next (s.takeCommand args (s.writeSetRefusal args) [] fun t => t.writeSet args)

/-! ## LOAD PATTERN (R27) -/

/-- The offset a LOAD PATTERN names. -/
def loadOffset (args : List Byte) : Nat := numAt args 0 2

/-- The refusal of a LOAD PATTERN (R27). -/
def State.loadPatternRefusal (s : State) (args : List Byte) : Option Byte :=
  refusalOf
    [ (s.running, refusedState),
      (decide (args.length < 3) || decide (258 < args.length) || decide (4096 < loadOffset args + (args.length - 2)), refusedValue),
      (decide (0 < loadOffset args) && decide (s.pat.loaded < loadOffset args), refusedOrder) ]

/-- An accepted chunk (R27, R28). -/
def State.loadPattern (s : State) (args : List Byte) : State :=
  let off := loadOffset args
  let data := args.drop 2
  { s with
    pat := { s.pat.cleared .invalid with
      store := writeChunk s.pat.store off data
      loaded := if off = 0 then data.length else max s.pat.loaded (off + data.length) } }.settle

/-- LOAD_PATTERN (R27). -/
def execLoadPattern (args : List Byte) (s : State) : Host.Outcome State Fault Refusal :=
  .next (s.takeCommand args (s.loadPatternRefusal args) [] fun t => t.loadPattern args)

/-! ## CHECK PATTERN (R31, R35) -/

/-- The refusal of a CHECK PATTERN (R31). -/
def State.checkPatternRefusal (s : State) : Option Byte :=
  refusalOf
    [ (s.running, refusedState),
      (!s.sets.lineW || s.sets.line.role == .none || !s.sets.feedW || !s.sets.knifeW, refusedOrder) ]

/-- The check begins: CHECKING, the previous results cleared (R31). -/
def State.beginCheck (s : State) : State := { s with pat := s.pat.cleared .checking }.settle

/-- CHECK_PATTERN (R31). -/
def execCheckPattern (args : List Byte) (s : State) : Host.Outcome State Fault Refusal :=
  .next (s.takeCommand args (countRefusal args 0 s.checkPatternRefusal) [] State.beginCheck)

/-- The check ends and its outcome is recorded (R32 to R35). -/
def State.endCheck (s : State) : State := { s with pat := s.pat.checked s.sets.feed s.sets.knife }.settle

/-- CHECK_PATTERN_END (R35). -/
def execCheckPatternEnd (s : State) : Host.Outcome State Fault Refusal :=
  if s.pat.status = .checking then .next s.endCheck else .next s

/-! ## START (R186) -/

/-- The refusal of a START (R186). -/
def State.startRefusal (s : State) : Option Byte :=
  refusalOf
    [ (s.running, refusedState),
      (!s.sets.lineW, refusedOrder),
      (!s.sets.feedW && (s.ownId != 0 || s.sets.line.role != .none || decide (0 < s.sets.box.zoneCount)), refusedOrder),
      (!s.sets.knifeW && s.sets.line.role != .none, refusedOrder),
      (!s.sets.standW && s.sets.line.standKind != .none, refusedOrder),
      (s.pat.status != .valid && s.sets.line.role != .none, refusedOrder) ]

/-- The Cadence Generator at entry to JOINING from CONFIG (R3, R13): idle, and continuous at pattern role NONE. -/
def State.startCadence (s : State) : State :=
  { s with
    rate.dancerLimit := 60000
    cad := { s.cad with
      mode := if s.sets.line.role = .none then .continuous else .idle
      begun := false
      pn := s.web.pn
      cur := none
      remaining := 0
      sample := none
      sampleDue := s.now } }

/-- The pattern decoder and the Panel Planner at entry to JOINING from CONFIG (R40, R49, R60). -/
def State.startPlanner (s : State) : State :=
  match s.sets.line.role with
  | .none => s
  | .leader => { s.rewind with leader.number := 1 }.enterPending
  | .follower => { s.rewind with follower.number := 0, follower.matched := false }.enterWaiting

/-- The Fold Registration Unit at entry to JOINING from CONFIG (R75). -/
def Registration.started (r : Registration) : Registration :=
  { raw := r.raw, filtered := r.filtered, timers := r.timers }

/-- The Web Tracker at entry to JOINING from CONFIG (R77, R91, R97). -/
def State.startTracker (s : State) : State :=
  { s.beginSegment .flow with web.baseline := false, web.latches := 0 }

/-- A zone of the station at entry to JOINING from CONFIG (R102). -/
def Zone.started (r : Zone) (interval : Nat) : Zone := { r.toWarming with counter := interval, heater := false }

/-- The Zone Controller and the Drain Arbiter at entry to JOINING from CONFIG (R102, R114, R122). -/
def State.startBox (s : State) : State :=
  { s with
    box.zones := tabulate fun (z : Fin 4) => if s.isZone z then (s.zone z).started s.sets.box.purgeInterval else s.zone z
    box.owner := none
    box.purgeDue := 0
    box.idle := s.startedIdle
    box.inForce := false }

/-- The Dwell Table at entry to JOINING from CONFIG (R124, R132): with zones, the cells from −ceil(b / c) to 0 around the base O; the next
cell start is base + c at any zone count. -/
def State.startDwell (s : State) : State :=
  let c := s.sets.box.cell
  let before := ceilDiv s.sets.feed.b c
  { s with
    dwell.cells := if s.sets.box.zoneCount = 0 then [] else freshCells (s.web.o - toPos (before * c)) c (before + 1) none
    dwell.nextStart := s.web.o + toPos c
    dwell.range := none
    dwell.tag := none }

/-- The Roll Stand Sequencer at entry to JOINING from CONFIG (R152, R156). -/
def Stand.started (t : Stand) : Stand :=
  { t with
    runOut := false, overfill := false, armDue := none, pasteDue := none, pastes := 0, splices := 0, transfers := 0
    panel := none, verdicts := [], reach := none, splicesLeft := [] }

/-- The Link Controller at entry to JOINING from CONFIG (R157, R167): it waits for idle, the publication timer starts, and a first
ADVANCE request is handed at once. -/
def State.startLink (s : State) : State :=
  { s with link.mode := .waiting, link.pubDue := some (s.now + 10000) }.handAdvance

/-- Entry to JOINING from CONFIG (the table after R186). -/
def State.startStation (s : State) : State :=
  let t := { s with
    port.state := .joining
    reg := s.reg.started
    stand := s.stand.started
    peers := tabulate fun _ => {} }
  t.startTracker.startCadence.startPlanner.startBox.startDwell.startLink.settle

/-- START (R186). -/
def execStart (args : List Byte) (s : State) : Host.Outcome State Fault Refusal :=
  .next (s.takeCommand args (countRefusal args 0 s.startRefusal) [] State.startStation)

/-! ## RESTART (R192) and POWER_ON (R193, R201) -/

/-- The roll change of a paste sequence (R144): the cut pulse begins, the RUNNING spindle becomes SPENT with its consumed length kept,
the SYNCED one RUNNING with consumed length 0, the sequence ends and SPLICE DONE is set. -/
def State.rollChange (s : State) : State :=
  match s.stand.inState .synced with
  | none => { s with stand.pasteDue := none }
  | some dst =>
    let old := s.stand.spindle (otherSpindle dst)
    let t := s.stand.setSpindle (otherSpindle dst) (if old.state = .running then { old with state := .spent } else old)
    let t := t.setSpindle dst { s.stand.spindle dst with state := .running, consumed := 0 }
    ({ s with stand := { t with pasteDue := none, splices := satInc t.splices } }.pulseCut).rollEvent .spliceDone
      (changeSpindle false dst)

/-- Every panel of the verdict list gets its verdict (R153). -/
def State.judgeAll (s : State) : State := s.judgeEach s.stand.verdicts []

/-- What a RESTART ends on the stand (R144, R153): a paste sequence with its cut, and the verdict list. -/
def State.endStand (s : State) : State := (if s.stand.pasteDue.isSome then s.rollChange else s).judgeAll

/-- A spindle across a RESTART (R135): ARMING and SYNCED return to LOADED. -/
def Spindle.restarted (x : Spindle) : Spindle :=
  if x.state = .arming ∨ x.state = .synced then { x with state := .loaded } else x

/-- What a RESTART keeps of the stand (R156). A cut pulse made by the RESTART runs on (DEDUCED, log 23). -/
def Stand.restarted (t : Stand) (cutDue : Option Nat) : Stand :=
  { a := t.a.restarted, b := t.b.restarted, speedA := t.speedA, speedB := t.speedB, cutDue := cutDue, log := t.log,
    overflow := t.overflow, standDue := t.standDue }

/-- What a RESTART keeps of a zone (R122). -/
def Zone.restarted (r : Zone) : Zone := { raw := r.raw, temp := r.temp, sensorFault := r.sensorFault }

/-- The state a RESTART leaves (R192): what it keeps, and power-on values for all else. The timers that run from power-on run on. -/
def State.restartStation (s : State) : State :=
  let u := s.endStand
  let t : State :=
    { pending := u.pending
      now := u.now
      choices := u.choices
      sets := u.sets
      rate := { rampDue := u.rate.rampDue }
      pat := u.pat
      reg := { raw := u.reg.raw, filtered := u.reg.raw }
      box := { zones := tabulate fun (z : Fin 4) => (u.zone z).restarted,
               converterDue := u.box.converterDue, secondsDue := u.box.secondsDue }
      dwell := { dwellDue := u.dwell.dwellDue }
      stand := u.stand.restarted (if s.stand.pasteDue.isSome then u.stand.cutDue else none)
      port := { response := u.port.response, sdo := u.port.sdo, ie := u.port.ie } }
  (t.beginSegment .flow).limits

/-- RESTART (R192). -/
def execRestart (args : List Byte) (s : State) : Host.Outcome State Fault Refusal :=
  .next (s.takeCommand args (countRefusal args 0 none) [] State.restartStation)

/-- Power-on (R193, R201): every block at its power-on values. The queue and the choice counter are the model's own and stay; the input
pins read low until they are reported (DESIGN CHOICE, log 8). -/
def State.powerUp (s : State) : State := { State.reset with pending := s.pending, choices := s.choices }

/-- POWER_ON (R193, R201): a RESET_N low shorter than 10 microseconds may be taken as a power-on or ignored (DESIGN CHOICE, log 8). -/
def execPowerOn (cause : ResetCause) (s : State) : Host.Outcome State Fault Refusal :=
  if cause.certain then .next s.powerUp
  else if s.choice then .next s.chosen.powerUp
  else .next s.chosen

/-! ## CLEAR FAULT (R190) -/

/-- The Panel Planner at CLEAR FAULT (R58, R65). -/
def State.clearPlanner (s : State) : State :=
  let t := if s.leader.state = .panel then { s with leader.state := .closing, leader.target := 0, leader.targetSet := false } else s
  if t.follower.state = .panel then t.enterWaiting else t

/-- The effect of an accepted CLEAR FAULT (R190). -/
def State.clearFaultNow (s : State) : State :=
  let t := { s with
    port.fault := none
    port.state := .joining
    web.span := []
    web.bay := []
    web.baseline := false
    follower.matched := false
    reg.history := []
    reg.expect := none
    reg.misses := 0 }
  t.clearPlanner.settle

/-- CLEAR_FAULT (R190). -/
def execClearFault (args : List Byte) (s : State) : Host.Outcome State Fault Refusal :=
  .next (s.takeCommand args (countRefusal args 0 (refusalOf [(s.port.state != .fault, refusedState)])) [] State.clearFaultNow)

end Sys2Proof.Machine
end

