-- ==== Sys2Proof/Machine/Control.lean ====
section
/-! DEFINITION. The meanings of the port commands that act on the running station: STOP, RESUME, WAKE (R6, R7, R117), the rolls (R136,
R137), CLEAR ZONE (R107), and the Event Unit's commands (R196, R197). -/

namespace Sys2Proof.Machine

/-! ## STOP, RESUME, WAKE -/

/-- The states in which the station sends, and STOP and RESUME are accepted (R6, R157): JOINING, ACTIVE, FAULT. -/
def State.sending (s : State) : Bool := s.port.state == .joining || s.port.state == .active || s.port.state == .fault

/-- An accepted STOP (R6): the latch is set with cause PORT and OPERATOR, and a STOP frame is handed. -/
def State.stopNow (s : State) : State :=
  ((s.setLatch { origin := .port, reason := 0 }).handStopResume (.stop 0)).settle

/-- STOP (R6). -/
def execStop (args : List Byte) (s : State) : Host.Outcome State Fault Refusal :=
  .next (s.takeCommand args (countRefusal args 0 (refusalOf [(!s.sending, refusedState)])) [] State.stopNow)

/-- An accepted RESUME (R7, R117): the latch is cleared, a RESUME frame is handed, and keep-warm is left. -/
def State.resumeNow (s : State) : State := (s.clearLatch.handStopResume .resume).keepWarmExit.settle

/-- RESUME (R7). -/
def execResume (args : List Byte) (s : State) : Host.Outcome State Fault Refusal :=
  .next (s.takeCommand args (countRefusal args 0 (refusalOf [(!s.sending, refusedState)])) [] State.resumeNow)

/-- WAKE (R117). -/
def execWake (args : List Byte) (s : State) : Host.Outcome State Fault Refusal :=
  .next (s.takeCommand args (countRefusal args 0 (refusalOf [(!s.running, refusedState)])) [] fun t => t.keepWarmExit.settle)

/-! ## Rolls (R136, R137) -/

/-- A spindle byte of a request (R199). -/
def spindleArg (args : List Byte) : Option SpindleId := spindleOf ((args[0]?).getD 0)

/-- The refusal that LOAD ROLL and UNLOAD share: a spindle code outside A and B (R199), no stand (R136, R137). -/
def State.standTests (s : State) (args : List Byte) : List (Bool × Byte) :=
  [ ((spindleArg args).isNone, refusedValue),
    (!s.sets.lineW || s.sets.line.standKind == .none, refusedOrder) ]

/-- The spindle a request names; A where the code names none, which the tests refuse first. -/
def namedSpindle (args : List Byte) : SpindleId := (spindleArg args).getD .a

/-- The refusal of a LOAD ROLL (R136, R199). -/
def State.loadRollRefusal (s : State) (args : List Byte) : Option Byte :=
  refusalOf
    (s.standTests args
      ++ [ ((s.stand.spindle (namedSpindle args)).state != .empty, refusedState),
           (s.sets.line.standKind == .unwind && numAt args 2 4 == 0, refusedValue) ])

/-- The spindle state that carries the web at a stand kind (R135). -/
def carrying : StandKind → SpindleState
  | .rewind => .winding
  | .none | .unwind => .running

/-- The record an accepted LOAD ROLL fills (R136). At a rewind the length is not used and is held as 0 (DEDUCED, log 23). -/
def State.loadedSpindle (s : State) (args : List Byte) : Spindle :=
  let carries := carrying s.sets.line.standKind
  { state := if (s.stand.inState carries).isSome then .loaded else carries
    roll := (args[1]?).getD 0
    length := if s.sets.line.standKind = .unwind then numAt args 2 4 else 0 }

/-- An accepted LOAD ROLL (R136). -/
def State.loadRoll (s : State) (args : List Byte) : State := (s.setSpindle (namedSpindle args) (s.loadedSpindle args)).settle

/-- LOAD_ROLL (R136, R199). -/
def execLoadRoll (args : List Byte) (s : State) : Host.Outcome State Fault Refusal :=
  .next (s.takeCommand args (countRefusal args 6 (s.loadRollRefusal args)) [] fun t => t.loadRoll args)

/-- A spindle that may be unloaded (R137). -/
def SpindleState.unloadable : SpindleState → Bool
  | .loaded | .spent | .full => true
  | .empty | .running | .winding | .arming | .synced => false

/-- The refusal of an UNLOAD (R137, R199). -/
def State.unloadRefusal (s : State) (args : List Byte) : Option Byte :=
  refusalOf (s.standTests args ++ [(!(s.stand.spindle (namedSpindle args)).state.unloadable, refusedState)])

/-- UNLOAD (R137). -/
def execUnload (args : List Byte) (s : State) : Host.Outcome State Fault Refusal :=
  .next (s.takeCommand args (countRefusal args 1 (s.unloadRefusal args)) [] fun t => (t.setSpindle (namedSpindle args) {}).settle)

/-! ## CLEAR ZONE (R107) -/

/-- The zone a request names, if it is one of the station's. -/
def State.zoneArg (s : State) (args : List Byte) : Option (Fin 4) := (zoneOf ((args[0]?).getD 0)).filter fun z => s.isZone z

/-- A zone still too hot, or without a sound sample, to be cleared (R107). -/
def State.zoneUnfit (s : State) (z : Fin 4) : Bool :=
  (s.zone z).sensorFault || decide (s.sets.box.zones[z].setpoint ≤ (s.zone z).temp)

/-- The refusal of a CLEAR ZONE (R107). -/
def State.clearZoneRefusal (s : State) (args : List Byte) : Option Byte :=
  let z := (s.zoneArg args).getD 0
  refusalOf
    [ (!s.running, refusedState),
      ((s.zoneArg args).isNone, refusedValue),
      ((s.zone z).state != .fault, refusedState),
      (s.zoneUnfit z, refusedValue) ]

/-- An accepted CLEAR ZONE (R107). The recorded temperature of the faulting sample stays and is still shown once the cause is cleared (DESIGN
CHOICE, log 51). -/
def State.clearZone (s : State) (z : Fin 4) : State :=
  let r := { s.zone z with cause := none }
  (s.setZone z (if s.box.inForce then r.toKeepWarm (s.sets.box.mask.getLsbD z.val) else r.toWarming)).settle

/-- CLEAR_ZONE (R107). -/
def execClearZone (args : List Byte) (s : State) : Host.Outcome State Fault Refusal :=
  .next (s.takeCommand args (countRefusal args 1 (s.clearZoneRefusal args)) [] fun t => t.clearZone ((s.zoneArg args).getD 0))

/-! ## The Event Unit's commands (R196, R197) -/

/-- The source flags a request carries; bit 7 is ignored (R199). -/
def sourceFlags (args : List Byte) : BitVec 7 := ((args[0]?).getD 0).setWidth 7

/-- EVENT_ENABLE (R197): all seven IE bits are written. -/
def execEventEnable (args : List Byte) (s : State) : Host.Outcome State Fault Refusal :=
  .next (s.takeCommand args (countRefusal args 1 none) [] fun t => { t with port.ie := sourceFlags args })

/-- The code of an acknowledged source: 1 to 7 from FAULT to LINK, 0 for none (11.3). -/
def sourceCode : Option Source → Byte
  | none => 0
  | some x => BitVec.ofNat 8 (7 - x.bit)

/-- The highest-priority eligible source (R195). -/
def State.eligibleSource (s : State) : Option Source := eligible s.port.ip s.port.ius s.port.ie

/-- The acknowledgement (R196): the source's IUS is set and its IP cleared. -/
def State.acknowledge (s : State) : State :=
  match s.eligibleSource with
  | none => s
  | some x => { s with port.ip := s.port.ip &&& ~~~ x.flag, port.ius := s.port.ius ||| x.flag }

/-- EVENT_ACKNOWLEDGE (R196). -/
def execEventAcknowledge (args : List Byte) (s : State) : Host.Outcome State Fault Refusal :=
  .next (s.takeCommand args (countRefusal args 0 none) [sourceCode s.eligibleSource] State.acknowledge)

/-- The end of the highest service (R197). -/
def State.endService (s : State) : State :=
  match highest s.port.ius with
  | none => s
  | some x => { s with port.ius := s.port.ius &&& ~~~ x.flag }

/-- EVENT_END (R197). -/
def execEventEnd (args : List Byte) (s : State) : Host.Outcome State Fault Refusal :=
  .next (s.takeCommand args (countRefusal args 0 none) [] State.endService)

/-- EVENT_CLEAR (R197): the IP of each listed source is cleared. -/
def execEventClear (args : List Byte) (s : State) : Host.Outcome State Fault Refusal :=
  .next (s.takeCommand args (countRefusal args 1 none) [] fun t => { t with port.ip := t.port.ip &&& ~~~ sourceFlags args })

end Sys2Proof.Machine
end

