-- ==== Sys2Proof/Machine/Reads.lean ====
section
/-! DEFINITION. The four read commands and their responses (R154, R181, R200, 11.4), and the output pins as the state drives them (11.5).
The layout points the spec leaves to inference are those of log 16, the free codes those of log 17. -/

namespace Sys2Proof.Machine

/-! ## Codes by place in a list (11.4) -/

/-- Station states (10.4). -/
def stationCode : StationState → Nat
  | .config => 0
  | .joining => 1
  | .active => 2
  | .fault => 3
  | .silent => 4

/-- Cadence modes (1.5). -/
def modeCode : CadenceMode → Nat
  | .idle => 0
  | .stepping => 1
  | .continuous => 2

/-- Pattern status (R28). -/
def statusCode : PatternStatus → Nat
  | .invalid => 0
  | .checking => 1
  | .valid => 2

/-- Pattern error kinds (R35). -/
def errorCode : PatternErrorKind → Nat
  | .badField => 0
  | .tooLong => 1
  | .noEnd => 2
  | .empty => 3
  | .unrunnable => 4

/-- Knife phases (3.1). -/
def phaseCode : KnifePhase → Nat
  | .idle => 0
  | .feed => 1
  | .tuck => 2
  | .press => 3
  | .release => 4
  | .aborting => 5

/-- States of the leader's planner (3.2). -/
def leaderCode : LeaderState → Nat
  | .off => 0
  | .pending => 1
  | .panel => 2
  | .closing => 3
  | .bridge => 4

/-- States of the follower's planner (3.3). -/
def followerCode : FollowerState → Nat
  | .off => 0
  | .waiting => 1
  | .panel => 2

/-- Zone states (6.3). -/
def zoneCode : ZoneState → Nat
  | .off => 0
  | .warming => 1
  | .ready => 2
  | .open => 3
  | .purge => 4
  | .keepwarm => 5
  | .fault => 6

/-- Zone fault causes (R106). -/
def zoneCauseCode : ZoneCause → Nat
  | .overtemperature => 0
  | .sensor => 1

/-- Events of the zone and box change records (R121). -/
def zoneEventCode : ZoneEvent → Nat
  | .faulted => 0
  | .settled => 1
  | .forcedClose => 2
  | .keepWarmEntered => 3
  | .keepWarmLeft => 4

/-- Spindle states (R135); the unwind's and the rewind's names share their places. -/
def spindleCode : SpindleState → Nat
  | .empty => 0
  | .loaded => 1
  | .running | .winding => 2
  | .arming => 3
  | .synced => 4
  | .spent | .full => 5

/-- Spindles (11.3). -/
def spindleIdCode : SpindleId → Nat
  | .a => 0
  | .b => 1

/-- Causes of the ROLL source (R155). -/
def rollCauseCode : RollCause → Nat
  | .spliceDone => 0
  | .transferDone => 1
  | .rollLow => 2
  | .armFailed => 3

/-- Causes of the LINK source (R178). -/
def linkCauseCode : LinkCause → Nat
  | .stale => 0
  | .recovered => 1
  | .silent => 2

/-- Presences (11.4). -/
def presenceCode : Presence → Nat
  | .unheard => 0
  | .live => 1
  | .stale => 2

/-- Mark collections (R82). -/
def collectionCode : Collection → Nat
  | .span => 0
  | .bay => 1
  | .outlet => 2

/-- The mode shown: a run requested and not begun is no run in progress; role NONE is in continuous mode throughout (1.5, R13, R24). -/
def State.shownMode (s : State) : CadenceMode :=
  if s.cad.begun || (s.sets.line.role == .none && s.running) then s.cad.mode else .idle

/-! ## The groups of the status word (11.4) -/

/-- A position in 4 bytes. -/
def posBytes (p : Pos) : List Byte := toBytes 4 p.toNat

/-- Bits 0 to 4 for the joining conditions 1 to 5. -/
def State.joiningByte (s : State) : Byte :=
  (s.joiningConditions.zipIdx).foldl (fun b x => b ||| flagAt x.2 x.1) 0

/-- A fault's parameters, each at the width of its kind (11.4). -/
def StationFault.params : StationFault → List Byte
  | .markGap expected frame sender => toBytes 2 expected.toNat ++ toBytes 2 frame.toNat ++ toBytes 1 sender.val
  | .markOverflow kind count => toBytes 1 kind.toNat ++ toBytes 2 count.toNat
  | .queueOverflow collection kind origin => toBytes 1 (collectionCode collection) ++ toBytes 1 kind.toNat ++ toBytes 1 origin.val
  | .patternMismatch own published neighbour => toBytes 4 own ++ toBytes 4 published ++ toBytes 1 neighbour.val
  | .registrationLost step expected => toBytes 2 step ++ posBytes expected
  | .dancerTrip level limit => toBytes 2 level ++ toBytes 2 limit
  | .runOut spindle roll => toBytes 1 (spindleIdCode spindle) ++ [roll]
  | .duplicateId kind => toBytes 1 kind.toNat

/-- The fault record: kind code, 9 parameter bytes, further-faults flag; code 0 while it is empty (11.1, 11.4). -/
def faultBytes : Option FaultRecord → List Byte
  | none => List.replicate 11 0
  | some r => r.first.code :: ((r.first.params ++ List.replicate 9 0).take 9 ++ [flagByte r.further])

/-- Station state, joining conditions, fault record; IP, IUS, IE, attention line. -/
def State.stationGroup (s : State) : List Byte :=
  toBytes 1 (stationCode s.port.state) ++ [s.joiningByte] ++ faultBytes s.port.fault
    ++ [s.port.ip.setWidth 8, s.port.ius.setWidth 8, s.port.ie.setWidth 8, flagByte s.attention]

/-- The stop cause's origin and reason, both FFh while it is empty (11.4). -/
def causeBytes : Option StopCause → List Byte
  | none => [0xFF, 0xFF]
  | some c =>
    [ (match c.origin with
       | .peer id => BitVec.ofNat 8 id.val
       | .port => 16
       | .fault => 17),
      c.reason ]

/-- The Rate Resolver's group. -/
def State.rateGroup (s : State) : List Byte :=
  let r := s.rate
  toBytes 2 r.stationMax ++ toBytes 2 r.knifeLimit ++ toBytes 2 r.setLimit ++ toBytes 2 r.standLimit ++ toBytes 2 r.dancerLimit
    ++ toBytes 2 r.minimum ++ toBytes 2 r.own ++ toBytes 2 r.resolved ++ toBytes 2 r.effective
    ++ [flagByte (r.holds r.knifeLimit), flagByte (r.holds r.setLimit), flagByte (r.holds r.standLimit),
        flagByte (r.holds r.dancerLimit), flagByte r.latch]
    ++ causeBytes r.cause

/-- The Cadence Generator's group. -/
def State.cadenceGroup (s : State) : List Byte :=
  let c := s.cad
  toBytes 1 (modeCode s.shownMode) ++ toBytes 4 c.panelPeriod ++ toBytes 4 c.stepPeriod ++ toBytes 4 c.carry ++ signedBytes c.trim
    ++ toBytes 2 s.level ++ toBytes 2 c.overruns ++ toBytes 2 c.remaining

/-- The pattern's and the decoder's group. One presence byte stands for the whole error record (DESIGN CHOICE, log 16). -/
def State.patternGroup (s : State) : List Byte :=
  let x := s.pat
  toBytes 1 (statusCode x.status) ++ toBytes 2 x.loaded ++ toBytes 4 x.p ++ toBytes 4 x.q ++ toBytes 2 x.steps
    ++ toBytes 2 x.knifeLimit ++ toBytes 2 x.endOff
    ++ optBytes 5 (fun e => toBytes 1 (errorCode e.kind) ++ toBytes 2 e.offset ++ toBytes 2 e.step) x.err
    ++ toBytes 2 s.dec.cursor ++ toBytes 2 s.dec.stepNo

/-- The knife's and the Panel Planner's group; the planner's values are those of the station's role. -/
def State.knifeGroup (s : State) : List Byte :=
  toBytes 1 (phaseCode s.knife.phase) ++ [flagByte s.knife.halted] ++ toBytes 2 ((s.knife.cycle.map Cycle.step).getD 0)
    ++ toBytes 2 s.knife.missed
    ++ (if s.sets.line.role = .follower then
          toBytes 1 (followerCode s.follower.state) ++ toBytes 2 s.follower.number ++ posBytes s.follower.start
        else toBytes 1 (leaderCode s.leader.state) ++ toBytes 2 s.leader.number ++ posBytes s.leader.start)
    ++ posBytes s.leader.target ++ [flagByte s.leader.targetSet] ++ toBytes 2 s.leader.aborts ++ toBytes 2 s.follower.overruns

/-- The Fold Registration Unit's group. An absent open expectation reads 0 in its 10 bytes, with no presence byte (DESIGN CHOICE, log 16). -/
def State.registrationGroup (s : State) : List Byte :=
  let r := s.reg
  [r.filtered, flagByte (matchOf s.sets.knife r.filtered)] ++ toBytes 2 r.detections ++ toBytes 2 r.accepted ++ posBytes r.nominal
    ++ (match r.expect with
        | none => List.replicate 10 0
        | some e => toBytes 2 e.step ++ posBytes e.x ++ posBytes e.deadline)
    ++ signedBytes r.c ++ signedBytes r.u ++ signedBytes r.lastErr ++ signedBytes r.lastU ++ toBytes 2 r.misses

/-- The Web Tracker's group. -/
def State.webGroup (s : State) : List Byte :=
  let w := s.web
  posBytes w.i ++ posBytes w.o ++ posBytes w.k ++ [Config.latchStateCode w.latched] ++ toBytes 2 w.latches
    ++ toBytes 1 w.span.length ++ toBytes 1 w.bay.length ++ toBytes 1 w.outlet.length
    ++ toBytes 2 w.sent.toNat ++ toBytes 2 w.received.toNat ++ [flagByte (!w.baseline)]
    ++ toBytes 4 s.inletLength ++ toBytes 4 s.outletLength ++ toBytes 2 w.discarded

/-- A timer's remaining time in ms, 0 while it is stopped, with no presence byte (DESIGN CHOICE, log 16). -/
def State.timerBytes (s : State) (due : Option Nat) : List Byte := toBytes 4 ((due.map s.remainingMs).getD 0)

/-- A zone record as the status word shows it. The fault cause has a presence byte and the faulting temperature none of its own, and
the purge debt, 0 to 3, for which 11.4's table of kinds names no width, takes 2 bytes as a count does (DESIGN CHOICE, log 16). -/
def State.zoneBytes (s : State) (r : Zone) : List Byte :=
  toBytes 2 r.temp ++ [flagByte r.sensorFault, flagByte r.heater] ++ s.timerBytes r.settle
    ++ optBytes 1 (fun c => toBytes 1 (zoneCauseCode c)) r.cause ++ toBytes 2 r.faultTemp
    ++ toBytes 2 r.counter ++ toBytes 2 r.debt ++ [flagByte (requestsDrain r)]
    ++ optBytes 2 (fun c => toBytes 1 (zoneEventCode c.1) ++ toBytes 1 (zoneCode c.2)) r.change

/-- The zone records, those at or above the zone count reading 0 (11.4). -/
def State.zoneRecords (s : State) : List Byte :=
  (List.finRange 4).flatMap fun z =>
    if s.isZone z then s.zoneBytes (s.zone z) else List.replicate (s.zoneBytes (s.zone z)).length 0

/-- The idle timer: running, stopped or expired, and its remaining time (R114). -/
def State.idleBytes (s : State) : List Byte :=
  match s.box.idle with
  | .running due => 0 :: s.timerBytes (some due)
  | .stopped => 1 :: s.timerBytes none
  | .expired => 2 :: s.timerBytes none

/-- The Zone Controller's group. The box's own keep-warm change shows its event alone, with no state after it (DESIGN CHOICE, log 16). -/
def State.boxGroup (s : State) : List Byte :=
  s.zoneRecords ++ toBytes 2 s.setLimitNow ++ optBytes 1 (fun (z : Fin 4) => toBytes 1 z.val) s.box.owner ++ s.idleBytes
    ++ [Config.keepWarmCode s.box.inForce] ++ toBytes 2 s.box.keepwarms ++ toBytes 2 s.box.forced
    ++ optBytes 1 (fun e => toBytes 1 (zoneEventCode e)) s.box.change

/-- The Dwell Table's group. While c is 0, as before a SET set is written, the cell count and the table span shown are free values
(DESIGN CHOICE, log 36). -/
def State.dwellGroup (s : State) : List Byte :=
  let box := s.sets.box
  toBytes 4 box.cell ++ toBytes 2 box.shownCellCount ++ toBytes 2 (shownTableSpan s.sets.feed.b box.cell) ++ toBytes 2 s.dwell.cells.length
    ++ optBytes 4 (fun r => posBytes r.start) s.dwell.range ++ toBytes 4 ((s.dwell.range.map UndersetRange.extent).getD 0)
    ++ toBytes 2 s.dwell.exited ++ toBytes 2 s.dwell.underset ++ toBytes 2 s.dwell.announced

/-- A spindle record, with the remaining length of a RUNNING one (R135, R139); that of another reads 0, with no presence byte (DESIGN CHOICE,
log 16). -/
def spindleBytes (x : Spindle) : List Byte :=
  toBytes 1 (spindleCode x.state) ++ [x.roll, flagByte x.armFailed] ++ toBytes 4 x.length ++ toBytes 4 x.consumed ++ toBytes 4 x.wound
    ++ toBytes 2 x.closed ++ toBytes 2 x.good ++ toBytes 2 x.reject
    ++ toBytes 4 (if x.state = .running then x.remaining else 0)

/-- The stand's change record (R155). -/
def rollChangeBytes (c : RollChange) : List Byte :=
  toBytes 1 (rollCauseCode c.cause) ++ toBytes 1 (spindleIdCode c.spindle) ++ [c.roll]

/-- The Roll Stand Sequencer's group. -/
def State.standGroup (s : State) : List Byte :=
  let t := s.stand
  spindleBytes t.a ++ spindleBytes t.b ++ toBytes 2 s.rate.standLimit ++ toBytes 4 t.dStop ++ toBytes 4 t.dTrig
    ++ [flagByte t.runOut, flagByte t.overfill, flagByte s.transferPending]
    ++ toBytes 2 t.pastes ++ toBytes 2 t.splices ++ toBytes 2 t.transfers ++ optBytes 3 rollChangeBytes t.change

/-- How many peer records are LIVE (R174). -/
def State.liveCount (s : State) : Nat := ((List.finRange 16).filter fun id => (s.peer id).presence == .live).length

/-- The occupancy of the eight slots (R163). -/
def Link.slotBytes (l : Link) : List Byte :=
  [flagByte l.advance, flagByte l.stopResume.isSome] ++ (List.range 6).map fun k => flagByte (decide (k < l.marks.length))

/-- The link's change record (R178). -/
def linkChangeBytes (c : LinkChange) : List Byte :=
  toBytes 1 (linkCauseCode c.cause) ++ optBytes 1 (fun (id : StationId) => toBytes 1 id.val) c.peer ++ toBytes 2 c.rxErrors

/-- The Link Controller's group. -/
def State.linkGroup (s : State) : List Byte :=
  let l := s.link
  toBytes 2 l.failures ++ toBytes 2 l.lost ++ toBytes 2 l.pubOverruns ++ l.slotBytes ++ toBytes 2 l.rxErrors ++ toBytes 2 l.foreign
    ++ toBytes 2 l.unknown ++ toBytes 2 s.liveCount ++ optBytes 5 linkChangeBytes l.change

/-- The status word (R181, 11.4). -/
def State.statusWord (s : State) : List Byte :=
  s.stationGroup ++ s.rateGroup ++ s.cadenceGroup ++ s.patternGroup ++ s.knifeGroup ++ s.registrationGroup ++ s.webGroup ++ s.boxGroup
    ++ s.dwellGroup ++ s.standGroup ++ s.linkGroup

/-- READ_STATUS (R181): answered during a pattern check as well (R31). -/
def execReadStatus (args : List Byte) (s : State) : Host.Outcome State Fault Refusal :=
  .next ((s.shiftOut (8 * (1 + args.length))).answer (countRefusal args 0 none) s.statusWord id)

/-! ## READ PEER VIEW -/

/-- A history entry (11.4). -/
def heardBytes : Option Heard → List Byte
  | none => List.replicate 7 0
  | some h => posBytes h.outlet ++ toBytes 2 h.rate.toNat ++ [1]

/-- The upstream or the downstream neighbour. -/
def State.isNeighbour (s : State) (id : StationId) : Bool := s.upstream == some id || s.downstream == some id

/-- A peer record, 34 bytes (11.4). -/
def State.peerBytes (s : State) (id : StationId) : List Byte :=
  let p := s.peer id
  toBytes 1 (presenceCode p.presence) ++ toBytes 2 (s.age p) ++ toBytes 2 p.lastLimit ++ toBytes 2 p.lastRate ++ [p.lastState, p.flags]
    ++ toBytes 2 p.frames
    ++ (if s.isNeighbour id then
          heardBytes p.hist0 ++ heardBytes p.hist1 ++ toBytes 4 p.inLen ++ toBytes 4 p.outLen ++ [p.sent]
        else List.replicate 23 0)

/-- The sixteen peer records in id order. -/
def State.peerView (s : State) : List Byte := (List.finRange 16).flatMap s.peerBytes

/-- READ_PEER_VIEW (R181). -/
def execReadPeerView (args : List Byte) (s : State) : Host.Outcome State Fault Refusal :=
  .next (s.takeCommand args (countRefusal args 0 none) s.peerView id)

/-! ## READ QUEUES -/

/-- A mark entry, 10 bytes (11.4). -/
def markBytes (m : Mark) (state : Byte) : List Byte :=
  toBytes 1 m.body.code.toNat ++ toBytes 1 m.origin.val ++ posBytes m.pos ++ toBytes 2 m.body.valueField.toNat ++ [m.body.rollField, state]

/-- A bay queue entry: WAITING 1, AWAITING CREDIT 2. -/
def bayBytes (e : BayEntry) : List Byte := markBytes e.mark (if e.awaiting then 2 else 1)

/-- A cell record, 8 bytes (11.4). -/
def cellBytes (c : DwellCell) : List Byte :=
  posBytes c.start ++ toBytes 2 c.dwell ++ toBytes 2 ((c.panel.map BitVec.toNat).getD 0)

/-- The queues, the cell table and the open range (R81, R133, 11.4). -/
def State.queueBytes (s : State) : List Byte :=
  toBytes 1 s.web.span.length ++ s.web.span.flatMap (fun m => markBytes m 0)
    ++ (toBytes 1 s.web.bay.length ++ s.web.bay.flatMap bayBytes)
    ++ (toBytes 1 s.web.outlet.length ++ s.web.outlet.flatMap fun m => markBytes m 0)
    ++ (toBytes 1 s.dwell.cells.length ++ s.dwell.cells.flatMap cellBytes)
    ++ optBytes 6 (fun r => posBytes r.start ++ toBytes 2 r.extent) s.dwell.range

/-- READ_QUEUES (R181). -/
def execReadQueues (args : List Byte) (s : State) : Host.Outcome State Fault Refusal :=
  .next (s.takeCommand args (countRefusal args 0 none) s.queueBytes id)

/-! ## READ PANEL LOG -/

/-- The reason flags: bit 4 ABORTED, 3 SPLIT, 2 UNDERSET, 1 MISSFOLD, 0 SPLICE (11.4). -/
def reasonByte (r : Reasons) : Byte :=
  flagAt 4 r.aborted ||| flagAt 3 r.split ||| flagAt 2 r.underset ||| flagAt 1 r.missfold ||| flagAt 0 r.splice

/-- A panel log entry, 9 bytes (11.4). -/
def logBytes (e : LogEntry) : List Byte :=
  toBytes 2 e.number.toNat ++ [e.roll, if e.reject then 2 else 1, reasonByte e.reasons] ++ toBytes 4 e.length

/-- The count a READ PANEL LOG carries. -/
def logCount (args : List Byte) : Nat := numAt args 0 1

/-- The overflow flag, the entry count and the oldest entries (R154). -/
def State.panelLogBytes (s : State) (count : Nat) : List Byte :=
  [flagByte s.stand.overflow] ++ toBytes 1 (s.stand.log.take count).length ++ (s.stand.log.take count).flatMap logBytes

/-- The entries returned are removed and the overflow flag is cleared (R154). -/
def State.dropLog (s : State) (count : Nat) : State := { s with stand.log := s.stand.log.drop count, stand.overflow := false }

/-- READ_PANEL_LOG (R154, R181). -/
def execReadPanelLog (args : List Byte) (s : State) : Host.Outcome State Fault Refusal :=
  .next
    (s.takeCommand args
      (countRefusal args 1 (refusalOf [(decide (logCount args = 0) || decide (32 < logCount args), refusedValue)]))
      (s.panelLogBytes (logCount args)) fun t => t.dropLog (logCount args))

/-! ## Output pins (11.5) -/

/-- The levels of the output pins between two steps. `ltx` holds the bits LTX sends of the frame on the link, none while it is recessive;
`sdo` the bit SDO drives, none while it is high impedance. -/
structure Outputs where
  attentionLow : Bool := false
  ltx : Option (List Bool) := none
  sdo : Option Bool := none
  nipStep : Bool := false
  knifeOut : Bool := false
  knifeDir : Option Direction := none
  pressClose : Bool := false
  heat : Vector Bool 4 := tabulate fun _ => false
  valve : Vector Bool 4 := tabulate fun _ => false
  drain : Bool := false
  drvA : Bool := false
  drvB : Bool := false
  paste : Bool := false
  cut : Bool := false
deriving DecidableEq, Repr

/-- Every output at its off level (R201): the actuators low, LTX recessive, ATTN_N released, SDO high impedance. -/
def Outputs.off : Outputs := {}

/-- The drive enable follows the spindle state (R135). -/
def SpindleState.driven : SpindleState → Bool
  | .running | .winding | .arming | .synced => true
  | .empty | .loaded | .spent | .full => false

/-- The bits LTX sends of the own frame on the link, its dominant start bit first (R157, R158). -/
def State.sentBits (s : State) : Option (List Bool) := s.link.onLink.map fun f => false :: frameBits s.ownId f.body

/-- The outputs the state drives (R42 to R44, 6.3, R111, R135, R143, R144, R157, R195). Between two steps NIP_STEP is low, its pulse of
each nip pulse over, and SCS_N is high, so SDO is high impedance (11.5); the bits SDO shifted out in a transaction are in `port.sdo`.
The cut actuator's pulse ends at CUT_PULSE_END. -/
def State.outputs (s : State) : Outputs :=
  { attentionLow := s.attention
    ltx := s.sentBits
    sdo := none
    nipStep := false
    knifeOut := s.knife.phase == .tuck || s.knife.phase == .press
    knifeDir := s.knife.cycle.map Cycle.dir
    pressClose := s.knife.phase == .press
    heat := tabulate fun (z : Fin 4) => (s.zone z).heater
    valve := tabulate fun (z : Fin 4) => (s.zone z).state == .open
    drain := s.box.owner.isSome
    drvA := s.stand.a.state.driven
    drvB := s.stand.b.state.driven
    paste := s.stand.pasteDue.isSome
    cut := s.stand.cutDue.isSome }

/-- The output pins by the level of RESET_N (R201): every output at its off level while it is low, as the state drives it otherwise. The
POWER_ON row stands for the whole low and its rise (DEDUCED, log 37). -/
def State.pins (s : State) (resetLow : Bool) : Outputs := if resetLow then .off else s.outputs

end Sys2Proof.Machine
end

