-- ==== Sys2Proof/Machine/Knife.lean ====
section
/-! DEFINITION. The meanings of the Rate Resolver's ramp (R11), the dancer sample (R3, R4), the Cadence Generator's runs, steps and pulses
(R13 to R23), the Panel Planner's decisions (R50 to R56), the decoder (R37) and the knife's phases (R43 to R47). -/

namespace Sys2Proof.Machine

/-! ## The ramp (R11) -/

/-- The effective rate after a ramp timer expiry (R11). -/
def rampRate (latch : Bool) (e r up down : Nat) : Nat :=
  if latch then 0
  else if e = r then e
  else if e = 0 then min r (max 100 up)
  else if e < r then min r (e + up)
  else if max r (e - down) < 100 then 0
  else max r (e - down)

/-- RAMP_TIMER_EXPIRY (R11, R12): at its due instant, every 10 ms from power-on. -/
def execRampTimerExpiry (s : State) : Host.Outcome State Fault Refusal :=
  let t := s.reachTime s.rate.rampDue
  let e := rampRate s.rate.latch s.rate.effective s.rate.resolved s.sets.line.up s.sets.line.down
  .next (State.settle (State.setEffective { t with rate.rampDue := s.rate.rampDue + 10000 } e))

/-! ## The dancer (R3, R4, R25) -/

/-- The dancer limit after a sample (R3). -/
def dancerLimitAfter (feed : FeedSet) (limit level : Nat) : Nat :=
  if limit = 60000 then (if level < feed.holdLo ∨ feed.holdHi < level then 0 else 60000)
  else if feed.setpoint - (feed.setpoint - feed.holdLo) / 2 ≤ level ∧ level ≤ feed.setpoint + (feed.holdHi - feed.setpoint) / 2 then 60000
  else limit

/-- The trip limit a level lies beyond, if it is a dancer trip (R4). -/
def tripLimit (feed : FeedSet) (level : Nat) : Option Nat :=
  if level < feed.tripLo then some feed.tripLo else if feed.tripHi < level then some feed.tripHi else none

/-- A dancer sample is taken at a station whose id is above 0, outside CONFIG (R3). -/
def State.samplesDancer (s : State) : Bool := s.ownId != 0 && s.running

/-- The fault a sample raises (R4): in JOINING and ACTIVE, and in FAULT as a further fault; none in SILENT. -/
def State.tripTest (s : State) (level : Nat) : State :=
  match tripLimit s.sets.feed level with
  | none => s
  | some limit => if s.sending then s.raiseFault (.dancerTrip level limit) else s

/-- The dancer sampled (R3, R4). The next sample is due 1 ms later (DESIGN CHOICE, log 21). -/
def State.sampleDancer (s : State) (level : Nat) : State :=
  let t := s.reachTime s.cad.sampleDue
  let u := { t with
    cad.sample := some level
    cad.sampleDue := t.now + 1000
    rate.dancerLimit := dancerLimitAfter s.sets.feed s.rate.dancerLimit level }
  (u.tripTest level).settle

/-- DANCER_SAMPLE (R3, R4). -/
def execDancerSample (level : BitVec 10) (s : State) : Host.Outcome State Fault Refusal :=
  if s.samplesDancer then .next (s.sampleDancer level.toNat) else .next s

/-! ## Runs (R13, R21) -/

/-- A requested run that is neither begun nor a leader's undecided panel can begin (R13, R50); a continuous run needs a panel length. -/
def State.runDue (s : State) : Bool :=
  s.cad.mode != .idle && !s.cad.begun && s.runCanBegin && s.leader.state != .pending
    && (s.cad.mode == .stepping || s.cad.pn != 0)

/-- A stepping run begins with the carry 0 (R13, R16). -/
def State.beginStepping (s : State) : State := { s with cad.begun := true, cad.carry := 0, cad.cur := none }

/-- A continuous run begins with a new run base and a FLOW segment (R13, R21, R77); the carry of the run before is discarded (R16). -/
def State.beginContinuous (s : State) : State :=
  State.beginSegment { s with
    cad.begun := true
    cad.carry := 0
    cad.base := s.now
    cad.idx := 0
    cad.lastPulse := none
    cad.panelPeriod := panelPeriodAt s.rate.effective } .flow

/-- The bridge has reached its target (R52). -/
def State.bridgeDone (s : State) : Bool := s.leader.state == .bridge && atOrBeyond s.knifePoint s.leader.target

/-- The requested run begins; a bridge whose target has been passed meanwhile ends at once (DEDUCED, log 12). -/
def State.beginRun (s : State) : State :=
  if s.bridgeDone then s.enterPending
  else if s.cad.mode = .stepping then s.beginStepping
  else s.beginContinuous

/-- RUN_BEGIN (R13). -/
def execRunBegin (s : State) : Host.Outcome State Fault Refusal := if s.runDue then .next s.beginRun else .next s

/-! ## The leader's decisions (R50, R52, R54, R56) -/

/-- The panel number after one (R49). -/
def nextPanelNumber (n : Nat) : Nat := if n = 65535 then 1 else n + 1

/-- The planner's panel number as a mark carries it. -/
def State.panelNumber (s : State) : BitVec 16 := BitVec.ofNat 16 s.leader.number

/-- The panel starts (R50): the PANEL mark is announced, the decoder rewound, and the stepping run begins, also where that very
announcement raises a fault that sets the rate 0 (DESIGN CHOICE, log 39). -/
def State.startPanel (s : State) : State :=
  let t := { s with leader.start := s.knifePoint, leader.outlet := s.web.o }
  let u := (t.announceOwn (.panel s.panelNumber) s.web.o).rewind
  State.beginStepping { u with leader.state := .panel, leader.target := 0, leader.targetSet := false }

/-- The panel does not start: a bridge to one past the largest guard end among the overlapping splices (R50). -/
def State.bridgePast (s : State) (p : Pos) (ps : List Pos) : State := (s.setTarget (s.pastGuard (farthest p ps))).enterBridge

/-- The panel decision is due (R50): PENDING, and the run can begin. -/
def State.decisionDue (s : State) : Bool := s.leader.state == .pending && s.runCanBegin

/-- The panel decision (R50). -/
def State.decidePanel (s : State) : State :=
  match s.guardsOver s.knifePoint s.pat.p with
  | [] => s.startPanel
  | p :: ps => s.bridgePast p ps

/-- PANEL_DECISION (R50). -/
def execPanelDecision (s : State) : Host.Outcome State Fault Refusal := if s.decisionDue then .next s.decidePanel.settle else .next s

/-- The outlet position of the boundary at hand (R53): after the step just completed, or O before a panel's first step (DEDUCED, log 11). -/
def State.boundary (s : State) : Pos :=
  match s.cad.cur with
  | none => s.web.o
  | some c => c.outletStart + toPos c.yield

/-- The panel's number advances and the planner goes on to its bridge, or to PENDING without a target (R56, R58). -/
def State.afterAbort (s : State) : State :=
  let t := { s.rewind with leader.aborts := satInc s.leader.aborts, leader.number := nextPanelNumber s.leader.number }
  if t.leader.targetSet then t.enterBridge else t.enterPending

/-- An abort at the boundary at hand (R56). -/
def State.abortPanel (s : State) : State := (s.announceOwn (.abort s.panelNumber) s.boundary).afterAbort

/-- The panel's end as the planner takes it (R53, R56, R62). It is taken at the expiry that reports it, in CLOSING too: an expiry during
a stop aborts at rate 0, where R58 has the boundary of the closing abort wait (DESIGN CHOICE, log 38). -/
def State.panelEnd (s : State) : State :=
  match s.leader.state, s.follower.state with
  | .panel, _ => { s with leader.number := nextPanelNumber s.leader.number }.enterPending
  | .closing, _ => s.abortPanel
  | _, .panel => s.enterWaiting
  | _, _ => s

/-! ## Step starts (R14 to R17) -/

/-- The dancer trim of a step period (R17). -/
def trimOf (own : StationId) (feed : FeedSet) (level ti : Nat) : Int :=
  if own = 0 then 0
  else
    let t := ((ti : Int) * ((level : Int) - (feed.setpoint : Int)) * (feed.gain : Int)).fdiv 262144
    max (-((ti / 8 : Nat) : Int)) (min t ((ti / 8 : Nat) : Int))

/-- The applied correction u of a FOLD step (R73). -/
def appliedCorrection (maxTrim pitch : Nat) (u : Int) : Int :=
  max (1 - (pitch : Int)) (max (-(maxTrim : Int)) (min u (maxTrim : Int)))

/-- A stepping run is ready for its next step start (R14): the cadence before it is complete, the knife is IDLE and the rate is above 0. -/
def State.stepDue (s : State) : Bool :=
  s.cad.mode == .stepping && s.cad.begun && s.runCanBegin
    && (match s.cad.cur with
        | none => true
        | some c => c.complete)

/-- The panel's first step start at a FOLLOWER hands over its start point (R61, R69, R72). -/
def State.openRegistration (s : State) : State :=
  if s.sets.line.role = .follower ∧ s.cad.cur = none then
    { s with follower.start := s.knifePoint, reg.nominal := s.knifePoint, reg.u := s.reg.c }
  else s

/-- A step start as the Fold Registration Unit takes it (R69, R70): a registered fold opens its expectation, and the nominal point moves on
by the pitch. -/
def State.registerStep (s : State) (st : Step) : State :=
  if s.sets.line.role = .follower then
    let t := if st.kind ≠ .flat ∧ st.flag = true ∧ s.registering = true then s.openExpectation st.number else s
    { t with reg.nominal := t.reg.nominal + toPos st.pitch }
  else s

/-- The feed length of a FOLD step, with the correction taken out of U (R73). -/
def State.takeFeed (s : State) (pitch : Nat) : Nat × State :=
  if s.registering then
    let u := appliedCorrection s.sets.knife.maxTrim pitch s.reg.u
    (((pitch : Int) + u).toNat, { s with reg.u := s.reg.u - u, reg.lastU := u })
  else (pitch, s)

/-- The direction of a fold kind (R42). -/
def StepKind.dir : StepKind → Direction
  | .foldRight => .right
  | .foldLeft | .flat => .left

/-- A FOLD step starts its knife cycle (R14, R42, R77). -/
def State.startFold (s : State) (st : Step) : State :=
  let (f, t) := s.takeFeed st.pitch
  State.beginSegment { t with
    cad.remaining := 0
    knife.phase := .feed
    knife.cycle := some
      { step := st.number, dir := st.kind.dir, w := st.width, f := f, start := s.knifePoint, outletStart := s.web.o, remaining := f }
    knife.halted := false
    knife.base := s.now
    knife.idx := 0 } (.fold st.width false)

/-- A FLAT step schedules its pulses (R14, R19, R77). -/
def State.startFlat (s : State) (st : Step) : State :=
  State.beginSegment { s with
    cad.base := s.now
    cad.idx := 0
    cad.lastPulse := none
    cad.remaining := st.pitch } .flow

/-- The cadence values of a step start (R15 to R17): T_panel, T_i, the carry, the trim, T_i', and the step in progress. -/
def State.startCadenceStep (s : State) (st : Step) : State :=
  let panel := panelPeriodAt s.rate.effective
  let num := panel * st.pitch + s.cad.carry
  let ti := num / s.pat.p
  let trim := trimOf s.ownId s.sets.feed s.level ti
  let ti' := ((ti : Int) - trim).toNat
  { s with
    cad.panelPeriod := panel
    cad.stepPeriod := ti
    cad.carry := num % s.pat.p
    cad.trim := trim
    cad.trimmed := ti'
    cad.cur := some
      { number := st.number, kind := st.kind, pitch := st.pitch, start := s.knifePoint, outletStart := s.web.o,
        yield := if st.kind = .flat then st.pitch else st.width, last := st.last, complete := false, due := s.now + ti' }
    dec.next := none
    dec.stepNo := st.number }

/-- A step start is taken (R14, R38). Its FOLD cycle begins, with its feed taken out of U (R73), even when the step's own miss raises
REGISTRATION_LOST and with it sets the latch (R70, R74): the settling of the step then halts the feed (DESIGN CHOICE, log 32). -/
def State.takeStep (s : State) (st : Step) : State :=
  let t := (s.openRegistration.startCadenceStep st).registerStep st
  if st.kind = .flat then t.startFlat st else t.startFold st

/-- The step boundary (R53 to R56): in CLOSING the leader aborts; in PANEL it aborts when the step about to be taken overlaps a guard, and
otherwise the step start is taken. -/
def State.stepBoundary (s : State) (st : Step) : State :=
  match s.leader.state with
  | .closing => s.abortPanel
  | .panel =>
    match s.guardsOver s.knifePoint st.pitch with
    | [] => s.takeStep st
    | p :: ps => (s.setTarget (s.pastGuard (farthest p ps))).abortPanel
  | .off | .pending | .bridge => s.takeStep st

/-- STEP_START (R14, R54). -/
def execStepStart (s : State) : Host.Outcome State Fault Refusal :=
  match s.dec.next with
  | none => .next s
  | some st => if s.stepDue then .next (s.stepBoundary st).settle else .next s

/-! ## DECODE_END (R37) -/

/-- DECODE_END (R37): the next-step record is filled. -/
def execDecodeEnd (s : State) : Host.Outcome State Fault Refusal :=
  if s.decoding then
    match s.dec.decoded s.pat with
    | none => .next s
    | some d => .next { s with dec := d }
  else .next s

/-! ## The ends of steps (R18, R19, R53) -/

/-- The cadence of the step in progress is complete, and its end is the panel's if it is the last (R14, R53). -/
def State.completeStep (s : State) (c : StepInfo) : State :=
  let t := { s with cad.cur := some { c with complete := true } }
  if c.last then t.panelEnd else t

/-- The late knife (R18). -/
def State.countOverrun (s : State) : State :=
  if s.knife.phase = .idle then s else { s with cad.overruns := satInc s.cad.overruns }

/-- A FOLD step whose step timer runs (R18). -/
def State.timedFold (s : State) : Option StepInfo := s.cad.cur.filter fun c => c.kind != .flat && !c.complete

/-- STEP_TIMER_EXPIRY (R18, R53). -/
def execStepTimerExpiry (s : State) : Host.Outcome State Fault Refusal :=
  match s.timedFold with
  | none => .next s
  | some c => .next (((s.reachTime c.due).countOverrun).completeStep c).settle

/-- A FLAT step with pulses to issue, while the rate is above 0 (R19, R20). -/
def State.flatDue (s : State) : Option StepInfo :=
  s.cad.cur.filter fun c => c.kind == .flat && !c.complete && decide (0 < s.cad.remaining) && decide (0 < s.rate.effective)

/-- The instant of the next pulse of a FLAT step (R19, R20). -/
def State.flatPulseAt (s : State) (c : StepInfo) : Nat := s.cad.base + (s.cad.idx + 1) * s.cad.trimmed / c.pitch

/-- A pulse of the Cadence Generator is counted (R19 to R22). -/
def State.countPulse (s : State) : State := { s with cad.idx := s.cad.idx + 1, cad.lastPulse := some s.now }

/-- A FLAT step's pulse (R19); the last one completes its cadence. -/
def State.flatPulse (s : State) (c : StepInfo) : State :=
  let t := (s.reachTime (s.flatPulseAt c)).countPulse
  let u := { t with cad.remaining := t.cad.remaining - 1 }
  u.flowPulse fun x => if x.cad.remaining = 0 then x.completeStep c else x

/-- FLAT_STEP_PULSE (R19). -/
def execFlatStepPulse (s : State) : Host.Outcome State Fault Refusal :=
  match s.flatDue with
  | none => .next s
  | some c => .next (s.flatPulse c).settle

/-- A continuous run issues pulses (R21): it has begun, it has a panel length, and the rate is above 0. -/
def State.continuousDue (s : State) : Bool :=
  s.cad.mode == .continuous && s.cad.begun && s.cad.pn != 0 && decide (0 < s.rate.effective)

/-- The instant of the next continuous pulse (R21). -/
def State.continuousPulseAt (s : State) : Nat := s.cad.base + (s.cad.idx + 1) * s.cad.panelPeriod / s.cad.pn

/-- A continuous pulse (R21); the one that brings the knife point to the bridge target ends the bridge (R52). -/
def State.continuousPulse (s : State) : State :=
  (s.reachTime s.continuousPulseAt).countPulse.flowPulse fun x => if x.bridgeDone then x.enterPending else x

/-- CONTINUOUS_PULSE (R21). -/
def execContinuousPulse (s : State) : Host.Outcome State Fault Refusal :=
  if s.continuousDue then .next s.continuousPulse.settle else .next s

/-! ## The knife's phases (R43 to R47) -/

/-- The cycle whose feed runs (R43, R46). -/
def State.feedDue (s : State) : Option Cycle :=
  s.knife.cycle.filter fun c => s.knife.phase == .feed && !s.knife.halted && decide (0 < c.remaining)

/-- The instant of the next feed pulse (R43). -/
def State.feedPulseAt (s : State) : Nat := s.knife.base + (s.knife.idx + 1) * 1000000 / s.sets.feed.vFeed

/-- The remaining feed count falls by 1, and the last pulse ends FEED (R43). -/
def State.feedStep (s : State) (c : Cycle) : State :=
  let t := { s with knife.cycle := some { c with remaining := c.remaining - 1 }, knife.idx := s.knife.idx + 1 }
  if c.remaining = 1 then { t with knife.phase := .tuck, knife.due := t.now + 1000 * t.sets.knife.tTuck } else t

/-- A feed pulse (R43): I advances, O does not. -/
def State.feedPulse (s : State) (c : Cycle) : State := ((s.reachTime s.feedPulseAt).feedStep c).nipPulse.nipEffects

/-- FEED_PULSE (R43). -/
def execFeedPulse (s : State) : Host.Outcome State Fault Refusal :=
  match s.feedDue with
  | none => .next s
  | some c => .next (s.feedPulse c).settle

/-- The knife enters a timed phase (R44). -/
def State.enterPhase (s : State) (p : KnifePhase) (ms : Nat) : State :=
  { s with knife.phase := p, knife.due := s.now + 1000 * ms }

/-- TUCK_END (R44). -/
def execTuckEnd (s : State) : Host.Outcome State Fault Refusal :=
  if s.knife.phase = .tuck then .next ((s.reachTime s.knife.due).enterPhase .press s.sets.knife.tPress) else .next s

/-- The width of the cycle in flight. -/
def State.cycleWidth (s : State) : Nat := (s.knife.cycle.map Cycle.w).getD 0

/-- The end of PRESS (R44): the fold is made and O is credited with w. -/
def State.pressEnd (s : State) : State :=
  let t := s.reachTime s.knife.due
  (t.enterPhase .release s.sets.knife.tRelease).creditFold s.cycleWidth

/-- PRESS_END (R44). -/
def execPressEnd (s : State) : Host.Outcome State Fault Refusal :=
  if s.knife.phase = .press then .next s.pressEnd.settle else .next s

/-- The knife returns to IDLE and the cycle record is cleared (R42, R44). -/
def State.knifeIdle (s : State) : State := { s.reachTime s.knife.due with knife.phase := .idle, knife.cycle := none }

/-- RELEASE_END (R44). -/
def execReleaseEnd (s : State) : Host.Outcome State Fault Refusal :=
  if s.knife.phase = .release then .next s.knifeIdle else .next s

/-- ABORTING_END (R47). -/
def execAbortingEnd (s : State) : Host.Outcome State Fault Refusal :=
  if s.knife.phase = .aborting then .next s.knifeIdle else .next s

end Sys2Proof.Machine
end

