-- ==== Sys2Proof/Machine/Sensors.lean ====
section
/-! DEFINITION. The meanings of the fold sensor's rows (R66), the rest timer (R78), the zones' timers (R99 to R115), the dwell timer (R128)
and the stand's rows (R138 to R149). -/

namespace Sys2Proof.Machine

/-! ## Fold sensor (R66) -/

/-- A channel's stability timer set or cancelled. -/
def State.setDeskew (s : State) (ch : Fin 8) (due : Option Nat) : State := { s with reg.timers := s.reg.timers.set ch due }

/-- A channel's raw level takes a new value (R66). -/
def State.setRaw (s : State) (ch : Fin 8) (level : Bool) : State := { s with reg.raw := setLevel s.reg.raw ch level }

/-- A raw change as the filter takes it (R66): back to the filtered level cancels the timer; away from it starts the timer unless it
runs, and with a deskew time of 0 the filtered level follows at once. -/
def State.filterChange (s : State) (ch : Fin 8) (level : Bool) : State :=
  if level = s.reg.filtered.getLsbD ch.val then s.setDeskew ch none
  else if s.sets.knife.deskew = 0 then (s.setDeskew ch none).setFiltered ch level
  else if s.reg.timers[ch].isNone then s.setDeskew ch (some (s.now + 100 * s.sets.knife.deskew))
  else s

/-- FOLD_SENSOR_CHANGE (R66): a channel's raw level as it now stands. A level that is no change does nothing. -/
def execFoldSensorChange (ch : Fin 8) (level : Bool) (s : State) : Host.Outcome State Fault Refusal :=
  if level = s.reg.raw.getLsbD ch.val then .next s else .next ((s.setRaw ch level).filterChange ch level).settle

/-- DESKEW_TIMER_EXPIRY (R66): the filtered level takes the raw level. -/
def execDeskewTimerExpiry (ch : Fin 8) (s : State) : Host.Outcome State Fault Refusal :=
  match s.reg.timers[ch] with
  | none => .next s
  | some due => .next ((((s.reachTime due).setDeskew ch none).setFiltered ch (s.reg.raw.getLsbD ch.val)).settle)

/-! ## Rest (R78) -/

/-- REST_TIMER_EXPIRY (R78): the station is quiet; a cut at rest may follow (R150). -/
def execRestTimerExpiry (s : State) : Host.Outcome State Fault Refusal :=
  match s.web.restDue with
  | none => .next s
  | some due => .next (State.settle { s.reachTime due with web.restDue := none })

/-! ## Zone samples (R99 to R106) -/

/-- The temperature and sensor fault flag of a converter reading (R99). -/
def Zone.sampled (r : Zone) (b : BoxSet) (raw : BitVec 12) : Zone :=
  { r with raw := raw, temp := b.base + raw.toNat * b.span / 4096, sensorFault := raw == 0 || raw == 4095 }

/-- The heating target of a heated state (R100). -/
def heatingTarget (b : BoxSet) (z : Fin 4) (st : ZoneState) : Nat :=
  match st with
  | .keepwarm => b.zones[z].setpoint - b.drop
  | .off | .warming | .ready | .open | .purge | .fault => b.zones[z].setpoint

/-- The heater at a sample in a heated state (R100). -/
def Zone.heated (r : Zone) (b : BoxSet) (z : Fin 4) : Zone :=
  let target := heatingTarget b z r.state
  if r.temp + b.hyst < target then { r with heater := true } else if target ≤ r.temp then { r with heater := false } else r

/-- The band rules at a sample (R103, R105). -/
def Zone.banded (r : Zone) (b : BoxSet) (z : Fin 4) (now : Nat) : Zone :=
  match r.state with
  | .warming =>
    if inBand b z r then (if r.settle.isNone then { r with settle := some (now + 1000000 * b.settle) } else r)
    else { r with settle := none }
  | .ready | .open => if inBand b z r then r else r.toWarming
  | .off | .purge | .keepwarm | .fault => r

/-- A zone enters FAULT with its cause and the temperature of the sample (R106). -/
def Zone.faulted (r : Zone) (cause : ZoneCause) : Zone :=
  { r with state := .fault, heater := false, settle := none, cause := some cause, faultTemp := r.temp }

/-- The cause of a faulting sample (R106); a sample that is both is a free choice (DESIGN CHOICE, log 6). -/
def zoneCauseOf (b : BoxSet) (z : Fin 4) (r : Zone) (choice : Bool) : Option ZoneCause :=
  if overTemperature b z r then (if r.sensorFault && choice then some .sensor else some .overtemperature)
  else if r.sensorFault then some .sensor
  else none

/-- A zone's fault: a purge's drain is released (R113) and the event signalled (R121). -/
def State.zoneFault (s : State) (z : Fin 4) (r : Zone) (cause : ZoneCause) : State :=
  (if s.box.owner = some z then s.releaseDrain else s).zoneEvent z (r.faulted cause) .faulted

/-- A zone's sample acts by the zone's state (R99, R100, R102, R105, R106). -/
def State.sampleActs (s : State) (z : Fin 4) (r : Zone) : State :=
  match r.state with
  | .off | .fault => s.setZone z r
  | .warming | .ready | .open | .purge | .keepwarm =>
    match zoneCauseOf s.sets.box z r s.choice with
    | some cause => (if overTemperature s.sets.box z r ∧ r.sensorFault = true then s.chosen else s).zoneFault z r cause
    | none => s.setZone z ((r.heated s.sets.box z).banded s.sets.box z s.now)

/-- A zone of the station is sampled (R99); the zones above the count are not. -/
def State.sampleZone (s : State) (z : Fin 4) (raw : BitVec 12) : State :=
  if s.isZone z then s.sampleActs z ((s.zone z).sampled s.sets.box raw) else s

/-- CONVERTER_TIMER_EXPIRY (R99): every 100 ms from power-on. The four samples are taken together, zone 0 first, before the Drain
Arbiter's choice and the keep-warm test that follow from them (DESIGN CHOICE, log 34). -/
def execConverterTimerExpiry (r0 r1 r2 r3 : BitVec 12) (s : State) : Host.Outcome State Fault Refusal :=
  let t := { s.reachTime s.box.converterDue with box.converterDue := s.box.converterDue + 100000 }
  .next ((((t.sampleZone 0 r0).sampleZone 1 r1).sampleZone 2 r2).sampleZone 3 r3).settle

/-! ## Zone timers (R103, R108, R109, R112, R114) -/

/-- SETTLE_TIMER_EXPIRY (R103): the zone enters READY. -/
def execSettleTimerExpiry (z : Fin 4) (s : State) : Host.Outcome State Fault Refusal :=
  match (s.zone z).settle with
  | none => .next s
  | some due =>
    if (s.zone z).state = .warming then
      .next ((s.reachTime due).zoneEvent z { s.zone z with state := .ready, settle := none } .settled).settle
    else .next s

/-- The counter of an OPEN zone lowered by a second (R108). -/
def Zone.countSecond (r : Zone) (interval : Nat) : Zone :=
  if r.counter ≤ 1 then { r with counter := interval, debt := min (r.debt + 1) 3 } else { r with counter := r.counter - 1 }

/-- A second of a zone (R108, R109): a debt that rises to 3 forces the zone to close. -/
def State.zoneSecond (s : State) (z : Fin 4) : State :=
  if (s.zone z).state = .open then
    let r := (s.zone z).countSecond s.sets.box.purgeInterval
    if r.debt = 3 ∧ (s.zone z).debt < 3 then
      { s.zoneEvent z { r with state := .ready } .forcedClose with box.forced := satInc s.box.forced }
    else s.setZone z r
  else s

/-- SECONDS_TIMER_EXPIRY (R108): every second from power-on. -/
def execSecondsTimerExpiry (s : State) : Host.Outcome State Fault Refusal :=
  let t := { s.reachTime s.box.secondsDue with box.secondsDue := s.box.secondsDue + 1000000 }
  .next ((List.finRange 4).foldl State.zoneSecond t).settle

/-- The end of a completed purge (R112): debt 0, the counter loaded, READY if in band at the latest sample, else WARMING. -/
def Zone.purged (r : Zone) (b : BoxSet) (z : Fin 4) : Zone :=
  let t := { r with debt := 0, counter := b.purgeInterval }
  if inBand b z t then { t with state := .ready } else t.toWarming

/-- PURGE_TIMER_EXPIRY (R112): the purge completes and the drain is released. -/
def execPurgeTimerExpiry (s : State) : Host.Outcome State Fault Refusal :=
  match s.box.owner with
  | none => .next s
  | some z =>
    .next (((s.reachTime s.box.purgeDue).releaseDrain).setZone z ((s.zone z).purged s.sets.box z)).settle

/-- IDLE_TIMER_EXPIRY (R114, R115). -/
def execIdleTimerExpiry (s : State) : Host.Outcome State Fault Refusal :=
  match s.box.idle with
  | .running due => .next (State.settle { s.reachTime due with box.idle := .expired })
  | .stopped | .expired => .next s

/-! ## The dwell timer (R127, R128) -/

/-- The midpoint of a cell (R127). -/
def DwellCell.midpoint (c : DwellCell) (cell : Nat) : Pos := c.start + toPos (cell / 2)

/-- The zone a cell stands in (R127); none in front of the knife line or past the box. -/
def State.cellZone (s : State) (c : DwellCell) : Option (Fin 4) :=
  let depth := (s.web.o - c.midpoint s.sets.box.cell).toNat
  if atOrBeyond s.web.o (c.midpoint s.sets.box.cell) then
    (List.finRange 4).find? fun z =>
      s.isZone z && decide (s.sets.box.lengthBelow z.val ≤ depth)
        && decide (depth < s.sets.box.lengthBelow z.val + s.sets.box.zones[z].length)
  else none

/-- A cell stands in a zone that is OPEN (R128). -/
def State.steamed (s : State) (c : DwellCell) : Bool :=
  match s.cellZone c with
  | none => false
  | some z => (s.zone z).state == .open

/-- A cell's dwell after an expiry (R128). -/
def State.accrue (s : State) (c : DwellCell) : DwellCell :=
  if s.steamed c then { c with dwell := min (c.dwell + 100) 65535 } else c

/-- DWELL_TIMER_EXPIRY (R128): every 100 ms from power-on; in CONFIG nothing accrues. -/
def execDwellTimerExpiry (s : State) : Host.Outcome State Fault Refusal :=
  let t := { s.reachTime s.dwell.dwellDue with dwell.dwellDue := s.dwell.dwellDue + 100000 }
  if s.running then .next { t with dwell.cells := t.dwell.cells.map t.accrue } else .next t

/-! ## The stand timer (R138 to R149) -/

/-- The stopping distance (R140). -/
def stopDistance (e l down : Nat) : Nat := e * l * e / (12000000 * down)

/-- The trigger distance (R140). -/
def triggerDistance (e l down : Nat) (t : StandSet) : Nat :=
  e * l * (1000 * t.tArm + t.tPaste) / 60000000 + stopDistance e l down + t.margin

/-- The distances of a stand timer expiry (R140): both at the unwind, D_stop alone at the rewind. -/
def State.standDistances (s : State) : State :=
  match s.sets.line.standKind with
  | .none => s
  | .unwind =>
    { s with
      stand.dStop := stopDistance s.rate.effective s.inletLength s.sets.line.down
      stand.dTrig := triggerDistance s.rate.effective s.inletLength s.sets.line.down s.sets.stand }
  | .rewind => { s with stand.dStop := stopDistance s.rate.effective s.outletLength s.sets.line.down }

/-- The unwind's tests (R141, R145): the splice sequence begins with a usable spindle; without one, and without a sequence, the run-out
hold is set, and its ROLL LOW names the RUNNING spindle (DESIGN CHOICE, log 15). -/
def State.unwindTests (s : State) : State :=
  match s.stand.inState .running with
  | none => s
  | some id =>
    let x := s.stand.spindle id
    let other := otherSpindle id
    let usable := (s.stand.spindle other).usable
    if (x.remaining ≤ s.stand.dTrig ∨ s.stand.runOut = true) ∧ usable = true then
      { s.armSpindle other with stand.runOut := false }
    else if x.remaining ≤ s.stand.dTrig + s.stand.dStop ∧ s.stand.arming = false ∧ s.stand.pasteDue = none ∧ usable = false
        ∧ s.stand.runOut = false then
      { s with stand.runOut := true }.rollEvent .rollLow id
    else s

/-- The rewind's test (R149): the overfill hold, whose ROLL LOW names the WINDING spindle (DESIGN CHOICE, log 15). -/
def State.rewindTest (s : State) : State :=
  match s.stand.inState .winding with
  | none => s
  | some id =>
    if s.transferPending = true ∧ s.stand.inState .synced = none ∧ s.stand.overfill = false
        ∧ s.sets.stand.maxWound ≤ (s.stand.spindle id).wound + s.stand.dStop then
      { s with stand.overfill := true }.rollEvent .rollLow id
    else s

/-- The tests of a stand timer expiry outside CONFIG (R138). -/
def State.standTest (s : State) : State :=
  let t := s.standDistances
  match s.sets.line.standKind with
  | .none => t
  | .unwind => t.unwindTests
  | .rewind => t.rewindTest

/-- STAND_TIMER_EXPIRY (R138): every 10 ms from power-on; in CONFIG nothing is tested. -/
def execStandTimerExpiry (s : State) : Host.Outcome State Fault Refusal :=
  let t := { s.reachTime s.stand.standDue with stand.standDue := s.stand.standDue + 10000 }
  if s.running then .next t.standTest.settle else .next t

/-! ## Arming (R142) -/

/-- An at-speed input's level. -/
def Stand.speed (t : Stand) : SpindleId → Bool
  | .a => t.speedA
  | .b => t.speedB

/-- An at-speed input takes a level. -/
def Stand.setSpeed (t : Stand) (id : SpindleId) (level : Bool) : Stand :=
  match id with
  | .a => { t with speedA := level }
  | .b => { t with speedB := level }

/-- A rise in ARMING (R142): SYNCED, the arming timer stopped. -/
def State.speedRise (s : State) (id : SpindleId) : State :=
  if (s.stand.spindle id).state = .arming then
    { s.setSpindle id { s.stand.spindle id with state := .synced } with stand.armDue := none }
  else s

/-- A fall in SYNCED (R142): ARMING with the timer afresh, except from a paste until its cut (R144). -/
def State.speedFall (s : State) (id : SpindleId) : State :=
  if (s.stand.spindle id).state = .synced ∧ s.stand.pasteDue = none then s.armSpindle id else s

/-- AT_SPEED_CHANGE (R142): an at-speed input as it now stands. A level that is no change does nothing. -/
def execAtSpeedChange (id : SpindleId) (level : Bool) (s : State) : Host.Outcome State Fault Refusal :=
  if level = s.stand.speed id then .next s
  else
    let t := { s with stand := s.stand.setSpeed id level }
    .next (if level then t.speedRise id else t.speedFall id).settle

/-- The arming timer expires (R142): LOADED with arm-failed set, ARM FAILED. -/
def State.armFail (s : State) (id : SpindleId) : State :=
  State.rollEvent { s.setSpindle id { s.stand.spindle id with state := .loaded, armFailed := true } with stand.armDue := none }
    .armFailed id

/-- ARMING_TIMER_EXPIRY (R142). -/
def execArmingTimerExpiry (s : State) : Host.Outcome State Fault Refusal :=
  match s.stand.armDue, s.stand.inState .arming with
  | some due, some id => .next ((s.reachTime due).armFail id).settle
  | _, _ => .next s

/-! ## The paste (R143, R144) -/

/-- The conditions of a paste (R143): the SYNCED spindle it joins. -/
def State.pasteDueNow (s : State) : Option SpindleId :=
  if s.sets.line.standKind = .unwind ∧ s.stand.pasteDue = none ∧ s.rate.effective ≤ s.sets.stand.cap ∧ s.port.state = .active
      ∧ s.rate.latch = false then
    s.stand.inState .synced
  else none

/-- The SPLICE mark of a paste is placed (R51, R143): announced at once at pattern role NONE, else inserted into the own bay queue; a LEADER
sets its held guard. -/
def State.placeSplice (s : State) (j : Pos) (roll : Byte) : State :=
  match s.sets.line.role with
  | .none => s.announceOwn (.splice roll) j
  | .leader =>
    ({ s with leader.held := some j }.spliceKnown j).enterBay { body := .splice roll, origin := 0, pos := j }
  | .follower => s.enterBay { body := .splice roll, origin := 0, pos := j }

/-- The paste (R143). -/
def State.pasteNow (s : State) (id : SpindleId) : State :=
  let j := s.web.i + toPos s.sets.stand.dP
  State.placeSplice
    { s with stand.joint := j, stand.pasteDue := some (s.now + 1000 * s.sets.stand.tPaste) } j (s.stand.spindle id).roll

/-- PASTE (R143). -/
def execPaste (s : State) : Host.Outcome State Fault Refusal :=
  match s.pasteDueNow with
  | none => .next s
  | some id => .next (s.pasteNow id).settle

/-- PASTE_TIMER_EXPIRY (R144): the roll change. -/
def execPasteTimerExpiry (s : State) : Host.Outcome State Fault Refusal :=
  match s.stand.pasteDue with
  | none => .next s
  | some due => .next ((s.reachTime due).rollChange).settle

/-- CUT_PULSE_END (R144): the cut actuator's pulse of 100 ms ends. -/
def execCutPulseEnd (s : State) : Host.Outcome State Fault Refusal :=
  match s.stand.cutDue with
  | none => .next s
  | some due => .next { s.reachTime due with stand.cutDue := none }

end Sys2Proof.Machine
end

