-- ==== Sys2Proof/Machine/LineLink.lean ====
section
/-! DEFINITION. The meanings of the Link Controller's rows (R157 to R172) and of the received frames (R173 to R178, R64, R78, R79, R83, R91
to R96, R118). -/

namespace Sys2Proof.Machine

/-! ## Sending (R160 to R168) -/

/-- The fields of an ADVANCE captured at the beginning of its transmission (R168). -/
def State.advancePayload (s : State) : AdvancePayload :=
  { state := BitVec.ofNat 8 (stationCode s.port.state)
    limit := BitVec.ofNat 16 s.rate.own
    rate := BitVec.ofNat 16 s.rate.effective
    outlet := s.web.o
    inLen := BitVec.ofNat 32 s.inletLength
    outLen := BitVec.ofNat 32 s.outletLength
    sent := s.web.sent
    flags := s.advanceFlags }

/-- The body of a STOP/RESUME slot's frame. -/
def StopResume.frame : StopResume → FrameBody
  | .stop reason => .stop reason
  | .resume => .resume

/-- The frame chosen at the beginning of a transmission (R164): the STOP/RESUME slot, the oldest MARK, the ADVANCE request. -/
def State.chosenFrame (s : State) : Option (Slot × FrameBody) :=
  match s.link.stopResume, s.link.marks, s.link.advance with
  | some f, _, _ => some (.stopResume, f.frame)
  | none, m :: _, _ => some (.mark, .mark m)
  | none, [], true => some (.advance, .advance s.advancePayload)
  | none, [], false => none

/-- The Link Controller may begin a transmission (R157, R160): on, in JOINING, ACTIVE or FAULT, with no frame of its own on the link. -/
def State.maySend (s : State) : Bool := s.link.mode == .on && s.sending && s.link.onLink.isNone

/-- TRANSMISSION_START (R160, R164, R168). -/
def execTransmissionStart (s : State) : Host.Outcome State Fault Refusal :=
  if s.maySend then
    match s.chosenFrame with
    | none => .next s
    | some (slot, body) => .next { s with link.onLink := some { slot := slot, body := body, began := s.now, replaced := false } }
  else .next s

/-- ARBITRATION_LOST (R160): the frame stays in its slot. -/
def execArbitrationLost (s : State) : Host.Outcome State Fault Refusal :=
  if s.link.onLink.isSome then .next { s with link.onLink := none, link.lost := satInc s.link.lost } else .next s

/-- The LINK source is set with a cause, and the change record written (R178). -/
def State.linkEvent (s : State) (cause : LinkCause) (peer : Option StationId) : State :=
  State.signal { s with link.change := some { cause := cause, peer := peer, rxErrors := s.link.rxErrors } } .link

/-- The silent condition (R162, R191): the buffer is emptied, the publication timer stops, and the station is SILENT. -/
def State.enterSilent (s : State) : State :=
  State.linkEvent { s with
    port.state := .silent
    link.advance := false
    link.stopResume := none
    link.marks := []
    link.pubDue := none } .silent none

/-- TRANSMIT_FAILURE (R161, R162): the 16th in a row silences the station. -/
def execTransmitFailure (s : State) : Host.Outcome State Fault Refusal :=
  if s.link.onLink.isSome then
    let t := { s with link.onLink := none, link.failures := min (s.link.failures + 1) 16 }
    .next (if t.link.failures = 16 then t.enterSilent.settle else t)
  else .next s

/-- The buffer after a successful transmission (R164): the frame leaves its slot unless a newer one has replaced it. -/
def Link.sentFrame (l : Link) (f : OnLink) : Link :=
  match f.slot with
  | .stopResume => if f.replaced then l else { l with stopResume := none }
  | .advance => if f.replaced then l else { l with advance := false }
  | .mark => { l with marks := l.marks.drop 1 }

/-- TRANSMISSION_SUCCESS (R161, R164), at the end of the frame's end field (R158). -/
def execTransmissionSuccess (s : State) : Host.Outcome State Fault Refusal :=
  match s.link.onLink with
  | none => .next s
  | some f =>
    .next { s.reachTime (f.began + frameLength f.body) with
      link := { s.link.sentFrame f with onLink := none, failures := 0 } }

/-- PUBLICATION_TIMER_EXPIRY (R167): every 10 ms an ADVANCE request is handed. -/
def execPublicationTimerExpiry (s : State) : Host.Outcome State Fault Refusal :=
  match s.link.pubDue with
  | none => .next s
  | some due => .next (State.handAdvance { s.reachTime due with link.pubDue := some (due + 10000) })

/-- LINK_JOIN_IDLE (R157): the link is idle, and the Link Controller begins to take frames and to send. -/
def execLinkJoinIdle (s : State) : Host.Outcome State Fault Refusal :=
  if s.link.mode = .waiting then .next { s with link.mode := .on } else .next s

/-! ## The peer records (R174 to R177) -/

/-- A peer record as a valid frame makes it LIVE (R175): emptied when it was not, its frame counted, its staleness timer restarted. -/
def Peer.heard (p : Peer) (now : Nat) : Peer :=
  { (if p.presence = .live then p else { frames := p.frames }) with
    presence := .live, heardAt := now, staleDue := some (now + 50000), frames := satInc p.frames }

/-- An ADVANCE entered into a record (R174); the last three groups are held for a neighbour only. -/
def Peer.advanced (p : Peer) (neighbour : Bool) (a : AdvancePayload) : Peer :=
  let q := { p with lastLimit := a.limit.toNat, lastRate := a.rate.toNat, lastState := a.state, flags := a.flags }
  if neighbour then
    { q with
      hist0 := some { outlet := a.outlet, rate := a.rate }, hist1 := p.hist0
      inLen := a.inLen.toNat, outLen := a.outLen.toNat, sent := a.sent }
  else q

/-- A MARK entered into a record (R174). -/
def Peer.marked (p : Peer) (neighbour : Bool) (count : Byte) : Peer := if neighbour then { p with sent := count } else p

/-- A peer record replaced. -/
def State.setPeer (s : State) (id : StationId) (p : Peer) : State := { s with peers := s.peers.set id p }

/-- A valid frame entered into its sender's record (R174, R175); a return from STALE sets the LINK source (R178). -/
def State.enterPeer (s : State) (id : StationId) (f : Peer → Peer) : State :=
  let t := s.setPeer id (f ((s.peer id).heard s.now))
  if (s.peer id).presence = .stale then t.linkEvent .recovered (some id) else t

/-- The records that are LIVE. -/
def State.livePeers (s : State) : List StationId := (List.finRange 16).filter fun id => (s.peer id).presence == .live

/-- The peer condition of keep-warm (R118). -/
def State.peerCondition (s : State) : Bool :=
  (s.livePeers.any fun id => decide (100 ≤ (s.peer id).lastLimit))
    && s.livePeers.all fun id => decide (100 ≤ (s.peer id).lastLimit) || keepWarmFlag (s.peer id).flags

/-- Keep-warm is left when the peer condition holds (R118). A record that a STOP, RESUME or MARK turns LIVE has limit 0 and no flag, so the
test at that change of presence can only fail, and it is made at an ADVANCE and at a turn to STALE. -/
def State.keepWarmPeers (s : State) : State := if s.peerCondition then s.keepWarmExit else s

/-! ## Receiving (R170 to R173) -/

/-- A foreign frame is counted (R171). -/
def State.countForeign (s : State) : State := { s with link.foreign := satInc s.link.foreign }

/-- A frame is taken by its sender (R157, R171 to R173): not at all while the Link Controller is not on; foreign from N on; a duplicate of
the own id; else valid. -/
def State.receive (s : State) (sender : StationId) (kind : BitVec 4) (act : State → State) : State :=
  if s.link.mode ≠ .on then s
  else if s.sets.line.n ≤ sender.val then s.countForeign
  else if sender = s.ownId then (s.raiseFault (.duplicateId kind)).settle
  else act s

/-- The count of an ADVANCE or MARK from the upstream neighbour (R91 to R93): the first sets the baseline; later ones are checked against
the count expected of their kind, and the count is taken either way. -/
def State.checkCount (s : State) (expected count : Byte) (sender : StationId) : State :=
  let t := if s.web.baseline = true ∧ count ≠ expected then s.raiseFault (.markGap expected count sender) else s
  { t with web.received := count, web.baseline := true }

/-- At rest (R78). -/
def State.atRest (s : State) (id : StationId) : Bool :=
  s.rate.effective == 0 && s.quiet
    && (match (s.peer id).hist0, (s.peer id).hist1 with
        | some x, some y => x.outlet == y.outlet && x.rate == 0 && y.rate == 0
        | _, _ => false)

/-- The span length (R79). -/
def State.spanLength (s : State) : Nat := s.sets.feed.s0 + s.level * s.sets.feed.scale

/-- K latched at an upstream outlet count (R79); the span queue's head is tested (R84). -/
def State.latchK (s : State) (outlet : Pos) : State :=
  State.leaveSpan { s with
    web.k := outlet - s.web.i - toPos s.spanLength
    web.latched := true
    web.latches := satInc s.web.latches }

/-- What an ADVANCE from the upstream neighbour does at the Web Tracker (R93, R78, R79). -/
def State.upstreamAdvance (s : State) (id : StationId) (a : AdvancePayload) : State :=
  let t := s.checkCount s.web.received a.sent id
  if t.atRest id then t.latchK a.outlet else t

/-- The panel length a role NONE station would adopt (R95): the upstream neighbour's outlet length, else the downstream's inlet length. -/
def State.offeredLength (s : State) : Nat :=
  let up := (s.upstream.map fun id => (s.peer id).outLen).getD 0
  if up ≠ 0 then up else (s.downstream.map fun id => (s.peer id).inLen).getD 0

/-- The length a neighbour's ADVANCE offers against the adopted Pn (R96). -/
def State.facingLength (s : State) (id : StationId) (a : AdvancePayload) : Nat :=
  if s.upstream = some id then a.outLen.toNat else a.inLen.toNat

/-- A role NONE station's Pn at a neighbour's ADVANCE (R95, R96): adopted if there is none, else tested. -/
def State.noneLengths (s : State) (id : StationId) (a : AdvancePayload) : State :=
  if s.web.pn = 0 then { s with web.pn := s.offeredLength, cad.pn := s.offeredLength }
  else if s.facingLength id a ≠ 0 ∧ s.facingLength id a ≠ s.web.pn then
    s.raiseFault (.patternMismatch s.web.pn (s.facingLength id a) id)
  else s

/-- A FOLLOWER's match in JOINING at its upstream neighbour's ADVANCE (R64). -/
def State.followerMatch (s : State) (id : StationId) (a : AdvancePayload) : State :=
  if a.outLen.toNat = 0 then { s with follower.matched := false }
  else if a.outLen.toNat = s.pat.p then { s with follower.matched := true }
  else s.raiseFault (.patternMismatch s.pat.p a.outLen.toNat id)

/-- The panel lengths of an ADVANCE by the station's role (R64, R95, R96). -/
def State.advanceLengths (s : State) (id : StationId) (a : AdvancePayload) : State :=
  match s.sets.line.role with
  | .none => if s.isNeighbour id then s.noneLengths id a else s
  | .leader => s
  | .follower => if s.upstream = some id ∧ s.port.state = .joining then s.followerMatch id a else s

/-- A valid ADVANCE (R173). From the upstream neighbour the mark count is checked first, then the rest test is made, then the panel lengths
are compared: a MARK_GAP is thus the first fault, and a FOLLOWER that it takes out of JOINING tests no length (R64, R93, R96; DESIGN CHOICE,
log 35). -/
def State.takeAdvance (s : State) (id : StationId) (a : AdvancePayload) : State :=
  let t := s.enterPeer id fun p => p.advanced (s.isNeighbour id) a
  let u := if t.upstream = some id then t.upstreamAdvance id a else t
  (u.advanceLengths id a).keepWarmPeers.settle

/-- ADVANCE_FRAME (R173). -/
def execAdvanceFrame (sender : StationId) (payload : AdvancePayload) (s : State) : Host.Outcome State Fault Refusal :=
  .next (s.receive sender 8 fun t => t.takeAdvance sender payload)

/-- A MARK of the upstream neighbour (R83, R92, R198). -/
def State.upstreamMark (s : State) (id : StationId) (m : MarkPayload) : State :=
  let t := s.checkCount (s.web.received + 1) m.count id
  match markOf m with
  | none => { t with web.discarded := satInc t.web.discarded }
  | some x => t.enterSpan x

/-- A valid MARK (R173). -/
def State.takeMark (s : State) (id : StationId) (m : MarkPayload) : State :=
  let t := s.enterPeer id fun p => p.marked (s.isNeighbour id) m.count
  (if t.upstream = some id then t.upstreamMark id m else t).settle

/-- MARK_FRAME (R83). -/
def execMarkFrame (sender : StationId) (payload : MarkPayload) (s : State) : Host.Outcome State Fault Refusal :=
  .next (s.receive sender 5 fun t => t.takeMark sender payload)

/-- A valid STOP (R6, R173). -/
def State.takeStop (s : State) (id : StationId) (reason : Byte) : State :=
  ((s.enterPeer id fun p => p).setLatch { origin := .peer id, reason := reason }).settle

/-- STOP_FRAME (R6). -/
def execStopFrame (sender : StationId) (reason : Byte) (s : State) : Host.Outcome State Fault Refusal :=
  .next (s.receive sender 1 fun t => t.takeStop sender reason)

/-- A valid RESUME (R7, R117, R173). -/
def State.takeResume (s : State) (id : StationId) : State := ((s.enterPeer id fun p => p).clearLatch.keepWarmExit).settle

/-- RESUME_FRAME (R7). -/
def execResumeFrame (sender : StationId) (s : State) : Host.Outcome State Fault Refusal :=
  .next (s.receive sender 2 fun t => t.takeResume sender)

/-- BAD_FRAME (R170). -/
def execBadFrame (s : State) : Host.Outcome State Fault Refusal :=
  if s.link.mode = .on then .next { s with link.rxErrors := satInc s.link.rxErrors } else .next s

/-- FOREIGN_FRAME (R171): a good frame from an id of N or above. -/
def execForeignFrame (sender : StationId) (s : State) : Host.Outcome State Fault Refusal :=
  if s.link.mode = .on ∧ s.sets.line.n ≤ sender.val then .next s.countForeign else .next s

/-- UNKNOWN_KIND_FRAME (R171): a good frame whose kind is not one of the four. -/
def execUnknownKindFrame (sender : StationId) (kind : BitVec 4) (s : State) : Host.Outcome State Fault Refusal :=
  if knownKinds.contains kind then .next s
  else .next (s.receive sender kind fun t => { t with link.unknown := satInc t.link.unknown })

/-- A LIVE record turns STALE (R176): its fields stay, and the LINK source is set. -/
def State.turnStale (s : State) (id : StationId) : State :=
  ((s.setPeer id { s.peer id with presence := .stale, staleDue := none }).linkEvent .stale (some id)).keepWarmPeers.settle

/-- STALENESS_TIMER_EXPIRY (R176): of one peer's record. -/
def execStalenessTimerExpiry (peer : StationId) (s : State) : Host.Outcome State Fault Refusal :=
  match (s.peer peer).staleDue with
  | none => .next s
  | some due => if (s.peer peer).presence = .live then .next ((s.reachTime due).turnStale peer) else .next s

/-- DUPLICATE_ID_FRAME (R172): a good frame, not the station's own, that bears the own id. -/
def execDuplicateIdFrame (kind : BitVec 4) (s : State) : Host.Outcome State Fault Refusal :=
  if s.link.mode = .on then .next (s.raiseFault (.duplicateId kind)).settle else .next s

end Sys2Proof.Machine
end

