-- ==== Sys2Proof/Machine/Dispatch.lean ====
section
/-! DEFINITION. The dispatch of every command to its meaning, one arm each. -/

namespace Sys2Proof.Machine

/-- The effect of a command on everything but the queue. -/
def exec (i : Instr) (s : State) : Host.Outcome State Fault Refusal :=
  match i with
  | .powerOn cause => Sys2Proof.Machine.execPowerOn cause s
  | .fetch bytes => Sys2Proof.Machine.execFetch bytes s
  | .transactionDiscarded edges => Sys2Proof.Machine.execTransactionDiscarded edges s
  | .unknownCommand command args => Sys2Proof.Machine.execUnknownCommand command args s
  | .writeSet args => Sys2Proof.Machine.execWriteSet args s
  | .loadPattern args => Sys2Proof.Machine.execLoadPattern args s
  | .checkPattern args => Sys2Proof.Machine.execCheckPattern args s
  | .checkPatternEnd => Sys2Proof.Machine.execCheckPatternEnd s
  | .start args => Sys2Proof.Machine.execStart args s
  | .restart args => Sys2Proof.Machine.execRestart args s
  | .clearFault args => Sys2Proof.Machine.execClearFault args s
  | .stop args => Sys2Proof.Machine.execStop args s
  | .resume args => Sys2Proof.Machine.execResume args s
  | .wake args => Sys2Proof.Machine.execWake args s
  | .loadRoll args => Sys2Proof.Machine.execLoadRoll args s
  | .unload args => Sys2Proof.Machine.execUnload args s
  | .clearZone args => Sys2Proof.Machine.execClearZone args s
  | .readStatus args => Sys2Proof.Machine.execReadStatus args s
  | .readPeerView args => Sys2Proof.Machine.execReadPeerView args s
  | .readQueues args => Sys2Proof.Machine.execReadQueues args s
  | .readPanelLog args => Sys2Proof.Machine.execReadPanelLog args s
  | .eventEnable args => Sys2Proof.Machine.execEventEnable args s
  | .eventAcknowledge args => Sys2Proof.Machine.execEventAcknowledge args s
  | .eventEnd args => Sys2Proof.Machine.execEventEnd args s
  | .eventClear args => Sys2Proof.Machine.execEventClear args s
  | .rampTimerExpiry => Sys2Proof.Machine.execRampTimerExpiry s
  | .dancerSample level => Sys2Proof.Machine.execDancerSample level s
  | .runBegin => Sys2Proof.Machine.execRunBegin s
  | .panelDecision => Sys2Proof.Machine.execPanelDecision s
  | .stepStart => Sys2Proof.Machine.execStepStart s
  | .decodeEnd => Sys2Proof.Machine.execDecodeEnd s
  | .stepTimerExpiry => Sys2Proof.Machine.execStepTimerExpiry s
  | .flatStepPulse => Sys2Proof.Machine.execFlatStepPulse s
  | .continuousPulse => Sys2Proof.Machine.execContinuousPulse s
  | .feedPulse => Sys2Proof.Machine.execFeedPulse s
  | .tuckEnd => Sys2Proof.Machine.execTuckEnd s
  | .pressEnd => Sys2Proof.Machine.execPressEnd s
  | .releaseEnd => Sys2Proof.Machine.execReleaseEnd s
  | .abortingEnd => Sys2Proof.Machine.execAbortingEnd s
  | .deskewTimerExpiry channel => Sys2Proof.Machine.execDeskewTimerExpiry channel s
  | .foldSensorChange channel level => Sys2Proof.Machine.execFoldSensorChange channel level s
  | .restTimerExpiry => Sys2Proof.Machine.execRestTimerExpiry s
  | .converterTimerExpiry r0 r1 r2 r3 => Sys2Proof.Machine.execConverterTimerExpiry r0 r1 r2 r3 s
  | .settleTimerExpiry zone => Sys2Proof.Machine.execSettleTimerExpiry zone s
  | .secondsTimerExpiry => Sys2Proof.Machine.execSecondsTimerExpiry s
  | .purgeTimerExpiry => Sys2Proof.Machine.execPurgeTimerExpiry s
  | .idleTimerExpiry => Sys2Proof.Machine.execIdleTimerExpiry s
  | .dwellTimerExpiry => Sys2Proof.Machine.execDwellTimerExpiry s
  | .standTimerExpiry => Sys2Proof.Machine.execStandTimerExpiry s
  | .atSpeedChange spindle level => Sys2Proof.Machine.execAtSpeedChange spindle level s
  | .armingTimerExpiry => Sys2Proof.Machine.execArmingTimerExpiry s
  | .paste => Sys2Proof.Machine.execPaste s
  | .pasteTimerExpiry => Sys2Proof.Machine.execPasteTimerExpiry s
  | .cutPulseEnd => Sys2Proof.Machine.execCutPulseEnd s
  | .publicationTimerExpiry => Sys2Proof.Machine.execPublicationTimerExpiry s
  | .linkJoinIdle => Sys2Proof.Machine.execLinkJoinIdle s
  | .transmissionStart => Sys2Proof.Machine.execTransmissionStart s
  | .arbitrationLost => Sys2Proof.Machine.execArbitrationLost s
  | .transmitFailure => Sys2Proof.Machine.execTransmitFailure s
  | .transmissionSuccess => Sys2Proof.Machine.execTransmissionSuccess s
  | .advanceFrame sender payload => Sys2Proof.Machine.execAdvanceFrame sender payload s
  | .markFrame sender payload => Sys2Proof.Machine.execMarkFrame sender payload s
  | .stopFrame sender reason => Sys2Proof.Machine.execStopFrame sender reason s
  | .resumeFrame sender => Sys2Proof.Machine.execResumeFrame sender s
  | .badFrame => Sys2Proof.Machine.execBadFrame s
  | .foreignFrame sender => Sys2Proof.Machine.execForeignFrame sender s
  | .unknownKindFrame sender kind => Sys2Proof.Machine.execUnknownKindFrame sender kind s
  | .stalenessTimerExpiry peer => Sys2Proof.Machine.execStalenessTimerExpiry peer s
  | .duplicateIdFrame kind => Sys2Proof.Machine.execDuplicateIdFrame kind s

end Sys2Proof.Machine
end

