-- ==== Sys2Proof/Safety.lean ====
section
/-! DEFINITION. What counts as a safe state of the PL-220: the promises the spec's prose makes of the whole machine, each as a predicate of
one state that every step is to keep, and the frames that claims speak of. -/

namespace Sys2Proof.Machine

/-- The pattern store is in canonical form, inside its 4096 bytes (R26, R27). -/
def State.StoreCanonical (s : State) : Prop := Memory.wf s.pat.store = true

/-- The effective rate is 0 whenever the stop latch is set (R11). -/
def State.LatchHolds (s : State) : Prop := s.rate.latch = true → s.rate.effective = 0

/-- 0, or 100 to 60000 (R9, R11). -/
def legalRate (n : Nat) : Prop := n = 0 ∨ (100 ≤ n ∧ n ≤ 60000)

/-- The resolved and the effective rate are legal, and the dancer limit is 0 or 60000 (R3, R9, R11). -/
def State.RatesLegal (s : State) : Prop :=
  (s.rate.dancerLimit = 0 ∨ s.rate.dancerLimit = 60000) ∧ legalRate s.rate.resolved ∧ legalRate s.rate.effective

/-- The limit components, the own limit and the resolved rate are those the rules give of the state at hand (R1, R2, R5, R9, R10). -/
def State.LimitsCurrent (s : State) : Prop := s.limits = s

/-- The collections and buffers hold no more than the spec lets them: 16, 32 and 16 marks (R82), six MARK frames (R163), eight detections
(R68), eight closed panels (R153), 32 log entries (R154). -/
def State.QueuesBounded (s : State) : Prop :=
  s.web.span.length ≤ 16 ∧ s.web.bay.length ≤ 32 ∧ s.web.outlet.length ≤ 16 ∧ s.link.marks.length ≤ 6
    ∧ s.reg.history.length ≤ 8 ∧ s.stand.verdicts.length ≤ 8 ∧ s.stand.log.length ≤ 32

/-- A valve is open only while the effective rate is above 0 (R104). -/
def State.ValvesFollow (s : State) : Prop := ∀ z : Fin 4, (s.zone z).state = .open → 0 < s.rate.effective

/-- The zone in PURGE is the drain owner, and in CONFIG every zone is OFF and there is none (R98, R111). -/
def State.DrainExclusive (s : State) : Prop :=
  (s.port.state = .config → s.box.owner = none ∧ ∀ z : Fin 4, (s.zone z).state = .off)
    ∧ ∀ z : Fin 4, (s.zone z).state = .purge ↔ s.box.owner = some z

/-- Every purge debt lies in 0 to 3 (R108). -/
def State.DebtsBounded (s : State) : Prop := ∀ z : Fin 4, (s.zone z).debt ≤ 3

/-- At most one spindle is RUNNING and at most one WINDING (R135). -/
def State.OneCarries (s : State) : Prop :=
  ¬(s.stand.a.state = .running ∧ s.stand.b.state = .running) ∧ ¬(s.stand.a.state = .winding ∧ s.stand.b.state = .winding)

/-- A SILENT station has nothing to send and no publication timer (R162, R167). -/
def State.SilentStill (s : State) : Prop :=
  s.port.state = .silent →
    s.link.advance = false ∧ s.link.stopResume = none ∧ s.link.marks = [] ∧ s.link.pubDue = none

/-- The Link Controller is off in CONFIG (R157); only the records of expected peers are ever heard, and none in CONFIG (R174, R177). -/
def State.OnlyPeersHeard (s : State) : Prop :=
  (s.port.state = .config → s.link.mode = .off)
    ∧ ∀ id : StationId, (s.peer id).presence ≠ .unheard → s.port.state ≠ .config ∧ s.isPeer id = true

/-- The correction lies in -4095 to 4095, with a window in its range (R71). -/
def State.CorrectionBounded (s : State) : Prop := s.sets.knife.window ≤ 4095 ∧ -4095 ≤ s.reg.c ∧ s.reg.c ≤ 4095

/-- The counts of misses and of transmit failures stay within 4 and 16 (R74, R161). -/
def State.CountsBounded (s : State) : Prop := s.reg.misses ≤ 4 ∧ s.link.failures ≤ 16

/-- The knife has obeyed a set latch (R46, R47): it is not in TUCK, and a feed is halted. -/
def State.KnifeObeys (s : State) : Prop :=
  s.rate.latch = true → s.knife.phase ≠ .tuck ∧ (s.knife.phase = .feed → s.knife.halted = true)

/-- In CONFIG the line side of the station stands at its power-on values (R192, R10, R157). -/
def State.ConfigStill (s : State) : Prop :=
  s.port.state = .config →
    s.rate.latch = false ∧ s.rate.effective = 0 ∧ s.rate.resolved = 0 ∧ s.knife = {} ∧ s.cad.cur = none ∧ s.stand.panel = none
      ∧ s.stand.verdicts = [] ∧ s.port.fault = none ∧ s.box.inForce = false ∧ s.box.idle = .stopped
      ∧ s.link.advance = false ∧ s.link.stopResume = none ∧ s.link.marks = [] ∧ s.link.onLink = none ∧ s.link.pubDue = none

/-! ## The configuration sets in range (R183 to R185, 6.1, 8.1) -/

/-- The LINE set's ranges and conditions (R183). -/
def LineSet.Lawful (x : LineSet) : Prop :=
  x.id.val < x.n ∧ 2 ≤ x.n ∧ x.n ≤ 16 ∧ 100 ≤ x.stationMax ∧ x.stationMax ≤ 60000 ∧ 1 ≤ x.up ∧ x.up ≤ 1000 ∧ 1 ≤ x.down
    ∧ x.down ≤ 1000 ∧ (x.standKind = .unwind → x.id.val = 0) ∧ (x.standKind = .rewind → x.id.val + 1 = x.n)

/-- The FEED set's ranges and conditions against the LINE and SET sets in force (R184). -/
def FeedSet.Lawful (x : FeedSet) (line : LineSet) (box : BoxSet) : Prop :=
  (line.role = .none → x.a = 0 ∧ x.aS = 0) ∧ (line.role ≠ .none → 1 ≤ x.a ∧ x.a ≤ 200000 ∧ x.aS < x.a) ∧ x.b ≤ 500000
    ∧ 1000 ≤ x.vFeed ∧ x.vFeed ≤ 80000 ∧ x.s0 ≤ 4000000
    ∧ (line.id.val ≠ 0 →
        x.tripLo < x.holdLo ∧ x.holdLo < x.setpoint ∧ x.setpoint < x.holdHi ∧ x.holdHi < x.tripHi ∧ x.tripHi ≤ 1023)
    ∧ (0 < box.zoneCount → box.boxLength ≤ x.b ∧ tableSpan x.b box.cell ≤ 128)

/-- The KNIFE set's ranges (R185). -/
def KnifeSet.Lawful (x : KnifeSet) : Prop :=
  10 ≤ x.tTuck ∧ x.tTuck ≤ 2000 ∧ 10 ≤ x.tPress ∧ x.tPress ≤ 5000 ∧ 10 ≤ x.tRelease ∧ x.tRelease ≤ 2000 ∧ x.g ≤ 100000
    ∧ x.deskew ≤ 15 ∧ 1 ≤ x.count ∧ x.count ≤ 8 ∧ x.window ≤ 4095 ∧ x.maxTrim ≤ 4095

/-- The SET set's ranges and conditions (6.1, R123, R185). -/
def BoxSet.Lawful (x : BoxSet) : Prop :=
  x.zoneCount ≤ 4
    ∧ (∀ z : Fin 4, z.val < x.zoneCount →
        1000 ≤ x.zones[z].length ∧ x.zones[z].length ≤ 200000 ∧ 200 ≤ x.zones[z].setpoint ∧ x.zones[z].setpoint ≤ 1800
          ∧ x.drop ≤ x.zones[z].setpoint)
    ∧ 1 ≤ x.span ∧ x.base + x.span ≤ 2000 ∧ 5 ≤ x.band ∧ x.band ≤ 200 ∧ 1 ≤ x.hyst ∧ x.hyst ≤ 100 ∧ x.band < x.margin
    ∧ x.margin ≤ 500 ∧ 1 ≤ x.settle ∧ x.settle ≤ 600 ∧ 1 ≤ x.dwell ∧ x.dwell ≤ 600 ∧ 5 ≤ x.purgeInterval
    ∧ x.purgeInterval ≤ 3600 ∧ 1 ≤ x.purgeTime ∧ x.purgeTime ≤ 60 ∧ 200 ≤ x.cell ∧ x.cell ≤ 4000 ∧ x.entry ≤ 3600
    ∧ x.drop ≤ 1000 ∧ (0 < x.zoneCount → x.cellCount ≤ 128)

/-- The STAND set's ranges (8.1). -/
def StandSet.Lawful (x : StandSet) : Prop :=
  100 ≤ x.cap ∧ x.cap ≤ 60000 ∧ 1 ≤ x.tArm ∧ x.tArm ≤ 120 ∧ 50 ≤ x.tPaste ∧ x.tPaste ≤ 2000 ∧ x.dP ≤ 200000
    ∧ x.margin ≤ 1000000 ∧ 1 ≤ x.target ∧ x.target ≤ 999 ∧ 10000 ≤ x.maxWound ∧ x.maxWound ≤ 4000000000

/-! ### The sets as WRITE SET carries them (11.3): how many bytes each field takes, and its value, in order -/

/-- The FEED set (11.3). -/
def FeedSet.sent (x : FeedSet) : List (Nat × Nat) :=
  [(3, x.a), (3, x.aS), (3, x.b), (3, x.vFeed), (3, x.s0), (1, x.scale), (2, x.tripLo), (2, x.holdLo), (2, x.setpoint), (2, x.holdHi),
    (2, x.tripHi), (1, x.gain)]

/-- The KNIFE set, with its registration and match mode codes (11.3). -/
def KnifeSet.sent (x : KnifeSet) (registration mode : Nat) : List (Nat × Nat) :=
  [(2, x.tTuck), (2, x.tPress), (2, x.tRelease), (3, x.g), (1, registration), (1, x.deskew), (1, mode), (1, x.count), (2, x.window),
    (2, x.maxTrim)]

/-- The SET set, with the byte of its mask (11.3). -/
def BoxSet.sent (x : BoxSet) (mask : Nat) : List (Nat × Nat) :=
  (1, x.zoneCount) :: (List.finRange 4).flatMap (fun z => [(3, x.zones[z].length), (2, x.zones[z].setpoint)])
  ++ [(2, x.base), (2, x.span), (1, x.band), (1, x.hyst), (2, x.margin), (2, x.settle), (2, x.dwell), (2, x.purgeInterval), (1, x.purgeTime),
    (2, x.cell), (2, x.entry), (1, mask), (2, x.drop)]

/-- The STAND set (11.3). -/
def StandSet.sent (x : StandSet) : List (Nat × Nat) :=
  [(2, x.cap), (1, x.tArm), (2, x.tPaste), (3, x.dP), (3, x.margin), (2, x.target), (4, x.maxWound)]

/-- Every field fits the bytes it takes. -/
def fitsBytes (fields : List (Nat × Nat)) : Prop := ∀ f ∈ fields, f.2 < 256 ^ f.1

/-- The fields as bytes, most significant byte first (11). -/
def bytesSent (fields : List (Nat × Nat)) : List Byte := fields.flatMap fun f => toBytes f.1 f.2

/-- Every written set is in range and agrees with the sets it is tested against; an unwritten one is at its power-on values (R182). -/
def State.SetsLawful (s : State) : Prop :=
  (if s.sets.lineW then s.sets.line.Lawful else s.sets.line = {})
    ∧ (if s.sets.feedW then s.sets.feed.Lawful s.sets.line s.sets.box else s.sets.feed = {})
    ∧ (if s.sets.knifeW then s.sets.knife.Lawful else s.sets.knife = {})
    ∧ (if s.sets.boxW then s.sets.box.Lawful else s.sets.box = {})
    ∧ (if s.sets.standW then s.sets.stand.Lawful else s.sets.stand = {})

/-- A safe state: every promise above. -/
structure State.Safe (s : State) : Prop where
  store : s.StoreCanonical
  latch : s.LatchHolds
  rates : s.RatesLegal
  limits : s.LimitsCurrent
  queues : s.QueuesBounded
  valves : s.ValvesFollow
  drain : s.DrainExclusive
  debts : s.DebtsBounded
  carries : s.OneCarries
  silent : s.SilentStill
  peers : s.OnlyPeersHeard
  correction : s.CorrectionBounded
  counts : s.CountsBounded
  knife : s.KnifeObeys
  config : s.ConfigStill
  sets : s.SetsLawful

/-! ## Frames -/

/-- The part of a state that no announcement, cut, fault, credit or settling touches. -/
structure Still where
  pending : List Instr
  now : Nat
  sets : Sets
  cad : Cadence
  pat : Pattern
  dec : Decoder
  leader : Leader
  follower : Follower
  reg : Registration
  peers : Vector Peer 16
  i : Pos
  k : Pos
  latched : Bool
  latches : Nat
  restDue : Option Nat
  span : List Mark
  received : Byte
  baseline : Bool
  pn : Nat
  discarded : Nat
  response : List Byte
  sdo : List Bool
  ie : BitVec 7
  ius : BitVec 7
  linkMode : LinkMode
  pubDue : Option Nat
  failures : Nat
  rxErrors : Nat
  converterDue : Nat
  secondsDue : Nat
  rampDue : Nat
  dancerLimit : Nat
  standDue : Nat
  dwellDue : Nat
  speedA : Bool
  speedB : Bool
deriving DecidableEq, Repr

/-- The still part of a state. -/
def State.still (s : State) : Still :=
  { pending := s.pending, now := s.now, sets := s.sets, cad := s.cad, pat := s.pat, dec := s.dec, leader := s.leader
    follower := s.follower, reg := s.reg, peers := s.peers, i := s.web.i, k := s.web.k, latched := s.web.latched
    latches := s.web.latches, restDue := s.web.restDue, span := s.web.span, received := s.web.received
    baseline := s.web.baseline, pn := s.web.pn, discarded := s.web.discarded, response := s.port.response
    sdo := s.port.sdo, ie := s.port.ie, ius := s.port.ius, linkMode := s.link.mode, pubDue := s.link.pubDue
    failures := s.link.failures, rxErrors := s.link.rxErrors, converterDue := s.box.converterDue
    secondsDue := s.box.secondsDue, rampDue := s.rate.rampDue, dancerLimit := s.rate.dancerLimit
    standDue := s.stand.standDue, dwellDue := s.dwell.dwellDue, speedA := s.stand.speedA, speedB := s.stand.speedB }

/-- The part of a state that the consequences of a change never touch: the joining test, verdicts, cuts, arming, zones and limits. -/
structure Calm where
  knife : Knife
  web : Web
  dwell : Dwell
  link : Link
  latch : Bool
  cause : Option StopCause
  effective : Nat
  fault : Option FaultRecord
  choices : Nat
deriving DecidableEq, Repr

/-- The calm part of a state. -/
def State.calm (s : State) : Calm :=
  { knife := s.knife, web := s.web, dwell := s.dwell, link := s.link, latch := s.rate.latch, cause := s.rate.cause
    effective := s.rate.effective, fault := s.port.fault, choices := s.choices }

/-! ## Words for claims -/

/-- A command completes: it ends in a next state of which the claim holds. -/
def Completes (c : Instr) (s : State) (claim : State → Prop) : Prop := ∃ t, exec c s = .next t ∧ claim t

/-- The peer condition of keep-warm (R118): a LIVE peer publishes 100 or more, and every LIVE peer that does not has its keep-warm hold flag
set, bit 3 of the ADVANCE flags (11.2). -/
def State.PeersWake (s : State) : Prop :=
  (∃ y : StationId, (s.peer y).presence = .live ∧ 100 ≤ (s.peer y).lastLimit)
    ∧ ∀ y : StationId, (s.peer y).presence = .live → 100 ≤ (s.peer y).lastLimit ∨ (s.peer y).flags.getLsbD 3 = true

/-- Keep-warm, in force in `s`, is left in `t` as R117 states where the Peer View of `t` meets the peer condition, and stays in force where
it does not (R118). -/
def LeftByPeers (s t : State) : Prop :=
  (t.PeersWake →
      t.box.inForce = false ∧ t.box.change = some .keepWarmLeft ∧ t.box.idle = { s with now := t.now }.startedIdle
        ∧ t.port.ip.getLsbD 3 = true
        ∧ ∀ z : Fin 4, (s.isZone z = true → (s.zone z).state = .keepwarm ∨ (s.zone z).state = .off →
              t.zone z = { s.zone z with state := .warming, settle := none })
            ∧ ((s.zone z).state = .fault → t.zone z = s.zone z))
    ∧ (¬t.PeersWake →
      t.box.inForce = true
        ∧ ∀ z : Fin 4, (s.zone z).state = .keepwarm ∨ (s.zone z).state = .off ∨ (s.zone z).state = .fault → t.zone z = s.zone z)

/-- Bit n of the pattern stream: bit 0 is the most significant bit of byte 0 (R26). -/
def Pattern.streamBit (x : Pattern) (n : Nat) : Bool := (readStore x.store (n / 8)).toNat.testBit (7 - n % 8)

/-- The unsigned number that the `len` bits of the stream from a bit on spell, most significant bit first (R29, R30). -/
def Pattern.streamNumber (x : Pattern) (off len : Nat) : Nat :=
  ((List.range len).map fun k => (x.streamBit (off + k)).toNat * 2 ^ (len - 1 - k)).sum

/-- A width or depth field of a FOLD record whose form bit stands at `off` (R30): a 16-bit number, or a 7-bit two's complement delta from
the previous value. -/
def Pattern.streamValue (x : Pattern) (off prev : Nat) : Int :=
  if x.streamBit off then (x.streamNumber (off + 1) 16 : Int)
  else (prev : Int) + (x.streamNumber (off + 1) 7 : Int) - (if x.streamBit (off + 1) then 128 else 0)

/-- The bit after such a field: an absolute one takes 17 bits, a delta 8 (R30). -/
def Pattern.streamPast (x : Pattern) (off : Nat) : Nat := off + if x.streamBit off then 17 else 8

/-- A step record of a pattern stream: the offset of its kind bits, its kind, and its fields as read (R29). -/
structure StreamRecord where
  off : Nat
  kind : StepKind
  fields : RecordFields

/-- The stream from a bit offset on, with a previous width and depth, holds these records one after another, each whole within the loaded
bit length and in range, and goes on at `off'` with previous width and depth `pw'` and `pd'` (R29, R30, R33). -/
def streamHolds (m : List Host.Cell) (bitLen off' pw' pd' : Nat) : List StreamRecord → Nat → Nat → Nat → Prop
  | [], off, pw, pd => off = off' ∧ pw = pw' ∧ pd = pd'
  | x :: xs, off, pw, pd =>
    x.off = off ∧ off + 2 ≤ bitLen ∧ kindOfBits (storeField m off 2) = some x.kind
      ∧ readFields m bitLen off pw pd x.kind = some x.fields ∧ badField x.kind x.fields = false
      ∧ (if x.kind = .flat then streamHolds m bitLen off' pw' pd' xs x.fields.next pw pd
         else streamHolds m bitLen off' pw' pd' xs x.fields.next x.fields.width.toNat x.fields.depth.toNat)

/-- The inlet panel length of a list of records: the sum of their pitches (R32). -/
def streamP (xs : List StreamRecord) : Nat := (xs.map fun x => x.fields.pitch).sum

/-- The outlet panel length of a list of records: the sum of their widths, or lengths at FLAT (R32). -/
def streamQ (xs : List StreamRecord) : Nat := (xs.map fun x => x.fields.width.toNat).sum

/-- A record's panel bound at an inlet panel length (R34). -/
def streamBound (feed : FeedSet) (knife : KnifeSet) (p : Nat) (x : StreamRecord) : Nat :=
  ceilDiv ((ceilDiv (x.fields.pitch * 1000000) feed.vFeed
    + if x.kind = .flat then 0 else 1000 * (knife.tTuck + knife.tPress + knife.tRelease)) * p) x.fields.pitch

/-- The number that the `len` bytes of a string spell from an offset on, most significant byte first (11.4). -/
def spelledAt (bytes : List Byte) (off : Nat) : Nat → Nat
  | 0 => 0
  | len + 1 => 256 * spelledAt bytes off len + ((bytes[off + len]?).getD 0).toNat

/-- A string of bytes is these values one after another, each in its width, cut to it (11.4). -/
def spells (bytes : List Byte) : List (Nat × Nat) → Nat → Prop
  | [], off => bytes.length = off
  | (len, v) :: fields, off => spelledAt bytes off len = v % 256 ^ len ∧ spells bytes fields (off + len)

/-! ## The layouts of 11.4, as the width and the value of each field in order -/

/-- The parameters of a fault, 9 bytes in all, each at the width of its kind, the rest 0. -/
def faultFields : StationFault → List (Nat × Nat)
  | .markGap expected frame sender => [(2, expected.toNat), (2, frame.toNat), (1, sender.val), (4, 0)]
  | .markOverflow kind count => [(1, kind.toNat), (2, count.toNat), (6, 0)]
  | .queueOverflow collection kind origin =>
    [(1, ([.span, .bay, .outlet] : List Collection).idxOf collection), (1, kind.toNat), (1, origin.val), (6, 0)]
  | .patternMismatch own published neighbour => [(4, own), (4, published), (1, neighbour.val)]
  | .registrationLost step expected => [(2, step), (4, expected.toNat), (3, 0)]
  | .dancerTrip level limit => [(2, level), (2, limit), (5, 0)]
  | .runOut spindle roll => [(1, ([.a, .b] : List SpindleId).idxOf spindle), (1, roll.toNat), (7, 0)]
  | .duplicateId kind => [(1, kind.toNat), (8, 0)]

/-- Station state, joining conditions, fault record; event bits and attention line. -/
def State.stationFields (s : State) : List (Nat × Nat) :=
  [(1, ([.config, .joining, .active, .fault, .silent] : List StationState).idxOf s.port.state),
    (1, (s.joiningConditions.zipIdx.map fun x => x.1.toNat * 2 ^ x.2).sum)]
  ++ (match s.port.fault with
      | none => [(11, 0)]
      | some r => (1, r.first.code.toNat) :: (faultFields r.first ++ [(1, r.further.toNat)]))
  ++ [(1, s.port.ip.toNat), (1, s.port.ius.toNat), (1, s.port.ie.toNat), (1, s.attention.toNat)]

/-- The Rate Resolver's limits, rates and component flags; the stop latch and its cause. -/
def State.rateFields (s : State) : List (Nat × Nat) :=
  let r := s.rate
  let least := min r.stationMax (min r.knifeLimit (min r.setLimit (min r.standLimit r.dancerLimit)))
  let holds := fun component : Nat => (decide (component = least ∧ least < r.stationMax)).toNat
  [(2, r.stationMax), (2, r.knifeLimit), (2, r.setLimit), (2, r.standLimit), (2, r.dancerLimit), (2, least), (2, r.own), (2, r.resolved),
    (2, r.effective), (1, holds r.knifeLimit), (1, holds r.setLimit), (1, holds r.standLimit), (1, holds r.dancerLimit),
    (1, r.latch.toNat),
    (1, match r.cause with
      | none => 255
      | some { origin := .peer id, .. } => id.val
      | some { origin := .port, .. } => 16
      | some { origin := .fault, .. } => 17),
    (1, (r.cause.map fun c => c.reason.toNat).getD 255)]

/-- The Cadence Generator, the pattern and the decoder. One presence byte stands for the pattern error record (DESIGN CHOICE, log 16). -/
def State.cadenceFields (s : State) : List (Nat × Nat) :=
  [(1, ([.idle, .stepping, .continuous] : List CadenceMode).idxOf s.shownMode), (4, s.cad.panelPeriod), (4, s.cad.stepPeriod),
    (4, s.cad.carry), (4, (BitVec.ofInt 32 s.cad.trim).toNat), (2, s.level), (2, s.cad.overruns), (2, s.cad.remaining),
    (1, ([.invalid, .checking, .valid] : List PatternStatus).idxOf s.pat.status), (2, s.pat.loaded), (4, s.pat.p), (4, s.pat.q),
    (2, s.pat.steps), (2, s.pat.knifeLimit), (2, s.pat.endOff), (1, s.pat.err.isSome.toNat),
    (1, (s.pat.err.map fun e =>
      ([.badField, .tooLong, .noEnd, .empty, .unrunnable] : List PatternErrorKind).idxOf e.kind).getD 0),
    (2, (s.pat.err.map PatternError.offset).getD 0), (2, (s.pat.err.map PatternError.step).getD 0), (2, s.dec.cursor), (2, s.dec.stepNo)]

/-- The knife and the planner of the station's role. -/
def State.knifeFields (s : State) : List (Nat × Nat) :=
  [(1, ([.idle, .feed, .tuck, .press, .release, .aborting] : List KnifePhase).idxOf s.knife.phase), (1, s.knife.halted.toNat),
    (2, (s.knife.cycle.map Cycle.step).getD 0), (2, s.knife.missed)]
  ++ (if s.sets.line.role = .follower then
        [(1, ([.off, .waiting, .panel] : List FollowerState).idxOf s.follower.state), (2, s.follower.number), (4, s.follower.start.toNat)]
      else
        [(1, ([.off, .pending, .panel, .closing, .bridge] : List LeaderState).idxOf s.leader.state), (2, s.leader.number),
          (4, s.leader.start.toNat)])
  ++ [(4, s.leader.target.toNat), (1, s.leader.targetSet.toNat), (2, s.leader.aborts), (2, s.follower.overruns)]

/-- The Fold Registration Unit and the Web Tracker. An absent open expectation has no presence byte (DESIGN CHOICE, log 16). -/
def State.webFields (s : State) : List (Nat × Nat) :=
  let r := s.reg
  let w := s.web
  [(1, r.filtered.toNat), (1, (matchOf s.sets.knife r.filtered).toNat), (2, r.detections), (2, r.accepted), (4, r.nominal.toNat),
    (2, (r.expect.map Expectation.step).getD 0), (4, (r.expect.map fun e => e.x.toNat).getD 0),
    (4, (r.expect.map fun e => e.deadline.toNat).getD 0), (4, (BitVec.ofInt 32 r.c).toNat), (4, (BitVec.ofInt 32 r.u).toNat),
    (4, (BitVec.ofInt 32 r.lastErr).toNat), (4, (BitVec.ofInt 32 r.lastU).toNat), (2, r.misses),
    (4, w.i.toNat), (4, w.o.toNat), (4, w.k.toNat), (1, (Config.latchStateCode w.latched).toNat), (2, w.latches), (1, w.span.length),
    (1, w.bay.length), (1, w.outlet.length), (2, w.sent.toNat), (2, w.received.toNat), (1, (!w.baseline).toNat), (4, s.inletLength),
    (4, s.outletLength), (2, w.discarded)]

/-- A zone's record; a zone at or above the zone count reads 0. The faulting temperature has no presence byte of its own, and the
purge debt takes 2 bytes, a width 11.4 does not name (DESIGN CHOICE, log 16). -/
def State.zoneFields (s : State) (z : Fin 4) : List (Nat × Nat) :=
  let r := s.zone z
  let event := fun e : ZoneEvent => ([.faulted, .settled, .forcedClose, .keepWarmEntered, .keepWarmLeft] : List ZoneEvent).idxOf e
  let state := fun x : ZoneState => ([.off, .warming, .ready, .open, .purge, .keepwarm, .fault] : List ZoneState).idxOf x
  if z.val < s.sets.box.zoneCount then
    [(2, r.temp), (1, r.sensorFault.toNat), (1, r.heater.toNat), (4, (r.settle.map s.remainingMs).getD 0), (1, r.cause.isSome.toNat),
      (1, (r.cause.map fun c => ([.overtemperature, .sensor] : List ZoneCause).idxOf c).getD 0), (2, r.faultTemp), (2, r.counter),
      (2, r.debt), (1, (decide (r.state = .ready ∧ 1 ≤ r.debt)).toNat), (1, r.change.isSome.toNat),
      (1, (r.change.map fun c => event c.1).getD 0), (1, (r.change.map fun c => state c.2).getD 0)]
  else [(20, 0)]

/-- The zones, the box and the Dwell Table. The keep-warm change is its presence and its event (DESIGN CHOICE, log 16). -/
def State.boxFields (s : State) : List (Nat × Nat) :=
  let b := s.box
  let d := s.dwell
  s.zoneFields 0 ++ s.zoneFields 1 ++ s.zoneFields 2 ++ s.zoneFields 3
  ++ [(2, s.setLimitNow), (1, b.owner.isSome.toNat), (1, (b.owner.map Fin.val).getD 0),
    (1, match b.idle with
      | .running _ => 0
      | .stopped => 1
      | .expired => 2),
    (4, match b.idle with
      | .running due => s.remainingMs due
      | .stopped | .expired => 0),
    (1, (Config.keepWarmCode b.inForce).toNat), (2, b.keepwarms), (2, b.forced), (1, b.change.isSome.toNat),
    (1, (b.change.map fun e =>
      ([.faulted, .settled, .forcedClose, .keepWarmEntered, .keepWarmLeft] : List ZoneEvent).idxOf e).getD 0),
    (4, s.sets.box.cell), (2, s.sets.box.shownCellCount), (2, shownTableSpan s.sets.feed.b s.sets.box.cell), (2, d.cells.length),
    (1, d.range.isSome.toNat), (4, (d.range.map fun r => r.start.toNat).getD 0), (4, (d.range.map UndersetRange.extent).getD 0),
    (2, d.exited), (2, d.underset), (2, d.announced)]

/-- A spindle's record; the names of the two stands share their places, and the remaining length has no presence byte (DESIGN CHOICE,
log 16). -/
def spindleFields (x : Spindle) : List (Nat × Nat) :=
  [(1, match x.state with
      | .empty => 0
      | .loaded => 1
      | .running | .winding => 2
      | .arming => 3
      | .synced => 4
      | .spent | .full => 5),
    (1, x.roll.toNat), (1, x.armFailed.toNat), (4, x.length), (4, x.consumed), (4, x.wound), (2, x.closed), (2, x.good), (2, x.reject),
    (4, if x.state = .running then x.length - x.consumed else 0)]

/-- The roll stand. -/
def State.standFields (s : State) : List (Nat × Nat) :=
  let t := s.stand
  spindleFields t.a ++ spindleFields t.b
  ++ [(2, s.rate.standLimit), (4, t.dStop), (4, t.dTrig), (1, t.runOut.toNat), (1, t.overfill.toNat), (1, s.transferPending.toNat),
    (2, t.pastes), (2, t.splices), (2, t.transfers), (1, t.change.isSome.toNat),
    (1, (t.change.map fun c =>
      ([.spliceDone, .transferDone, .rollLow, .armFailed] : List RollCause).idxOf c.cause).getD 0),
    (1, (t.change.map fun c => ([.a, .b] : List SpindleId).idxOf c.spindle).getD 0), (1, (t.change.map fun c => c.roll.toNat).getD 0)]

/-- The Link Controller. -/
def State.linkFields (s : State) : List (Nat × Nat) :=
  let l := s.link
  [(2, l.failures), (2, l.lost), (2, l.pubOverruns), (1, l.advance.toNat), (1, l.stopResume.isSome.toNat),
    (1, (decide (0 < l.marks.length)).toNat), (1, (decide (1 < l.marks.length)).toNat), (1, (decide (2 < l.marks.length)).toNat),
    (1, (decide (3 < l.marks.length)).toNat), (1, (decide (4 < l.marks.length)).toNat), (1, (decide (5 < l.marks.length)).toNat),
    (2, l.rxErrors), (2, l.foreign), (2, l.unknown),
    (2, ((List.finRange 16).filter fun id => decide ((s.peer id).presence = .live)).length), (1, l.change.isSome.toNat),
    (1, (l.change.map fun c => ([.stale, .recovered, .silent] : List LinkCause).idxOf c.cause).getD 0),
    (1, (l.change.map fun c => c.peer.isSome.toNat).getD 0), (1, (l.change.map fun c => (c.peer.map Fin.val).getD 0).getD 0),
    (2, (l.change.map LinkChange.rxErrors).getD 0)]

/-- The status word, field by field (11.4; its points of inference are those of log 16, its free codes those of log 17). -/
def State.statusFields (s : State) : List (Nat × Nat) :=
  s.stationFields ++ s.rateFields ++ s.cadenceFields ++ s.knifeFields ++ s.webFields ++ s.boxFields ++ s.standFields ++ s.linkFields

/-- A peer's record, 34 bytes (11.4). -/
def State.peerFields (s : State) (id : StationId) : List (Nat × Nat) :=
  let p := s.peer id
  let heard : Option Heard → List (Nat × Nat) := fun h =>
    [(4, (h.map fun x => x.outlet.toNat).getD 0), (2, (h.map fun x => x.rate.toNat).getD 0), (1, h.isSome.toNat)]
  [(1, ([.unheard, .live, .stale] : List Presence).idxOf p.presence), (2, s.age p), (2, p.lastLimit), (2, p.lastRate),
    (1, p.lastState.toNat), (1, p.flags.toNat), (2, p.frames)]
  ++ (if id.val + 1 = s.ownId.val ∨ id.val = s.ownId.val + 1 ∧ id.val < s.sets.line.n then
        heard p.hist0 ++ heard p.hist1 ++ [(4, p.inLen), (4, p.outLen), (1, p.sent.toNat)]
      else [(23, 0)])

/-- A mark's entry in a READ QUEUES response, 10 bytes (11.4). -/
def markFields (state : Nat) (m : Mark) : List (Nat × Nat) :=
  [(1, m.body.code.toNat), (1, m.origin.val), (4, m.pos.toNat),
    (2, match m.body with
      | .panel n | .abort n => n.toNat
      | .underset e => e.toNat
      | .splice _ | .missfold => 0),
    (1, match m.body with
      | .splice roll => roll.toNat
      | .panel _ | .abort _ | .underset _ | .missfold => 0),
    (1, state)]

/-- The data of a READ QUEUES response (11.4). -/
def State.queueFields (s : State) : List (Nat × Nat) :=
  (1, s.web.span.length) :: s.web.span.flatMap (markFields 0)
  ++ (1, s.web.bay.length) :: s.web.bay.flatMap (fun e => markFields (if e.awaiting then 2 else 1) e.mark)
  ++ (1, s.web.outlet.length) :: s.web.outlet.flatMap (markFields 0)
  ++ (1, s.dwell.cells.length) :: s.dwell.cells.flatMap (fun c =>
      [(4, c.start.toNat), (2, c.dwell), (2, (c.panel.map fun n => n.toNat).getD 0)])
  ++ [(1, s.dwell.range.isSome.toNat), (4, (s.dwell.range.map fun r => r.start.toNat).getD 0),
      (2, (s.dwell.range.map UndersetRange.extent).getD 0)]

/-- A panel log entry, 9 bytes (11.4). -/
def logFields (e : LogEntry) : List (Nat × Nat) :=
  [(2, e.number.toNat), (1, e.roll.toNat), (1, if e.reject then 2 else 1),
    (1, 16 * e.reasons.aborted.toNat + 8 * e.reasons.split.toNat + 4 * e.reasons.underset.toNat + 2 * e.reasons.missfold.toNat
      + e.reasons.splice.toNat),
    (4, e.length)]

/-! ## The port -/

/-- The argument count a port command requires (R199); none for the two whose own tables judge it, for an unknown command, and for a row
that is no command of the port. -/
def fixedCount : Instr → Option Nat
  | .checkPattern _ | .start _ | .restart _ | .clearFault _ | .stop _ | .resume _ | .wake _ | .readStatus _ | .readPeerView _
  | .readQueues _ | .eventAcknowledge _ | .eventEnd _ => some 0
  | .unload _ | .clearZone _ | .readPanelLog _ | .eventEnable _ | .eventClear _ => some 1
  | .loadRoll _ => some 6
  | .powerOn _ | .fetch _ | .transactionDiscarded _ | .unknownCommand _ _ | .writeSet _ | .loadPattern _ | .checkPatternEnd
  | .rampTimerExpiry | .dancerSample _ | .runBegin | .panelDecision | .stepStart | .decodeEnd | .stepTimerExpiry | .flatStepPulse
  | .continuousPulse | .feedPulse | .tuckEnd | .pressEnd | .releaseEnd | .abortingEnd | .deskewTimerExpiry _ | .foldSensorChange _ _
  | .restTimerExpiry | .converterTimerExpiry _ _ _ _ | .settleTimerExpiry _ | .secondsTimerExpiry | .purgeTimerExpiry
  | .idleTimerExpiry | .dwellTimerExpiry | .standTimerExpiry | .atSpeedChange _ _ | .armingTimerExpiry | .paste | .pasteTimerExpiry
  | .cutPulseEnd | .publicationTimerExpiry | .linkJoinIdle | .transmissionStart | .arbitrationLost | .transmitFailure
  | .transmissionSuccess | .advanceFrame _ _ | .markFrame _ _ | .stopFrame _ _ | .resumeFrame _ | .badFrame | .foreignFrame _
  | .unknownKindFrame _ _ | .stalenessTimerExpiry _ | .duplicateIdFrame _ => none

/-- The port has answered a request of `args` argument bytes, and nothing else has changed (R180). -/
def State.answered (s : State) (args : List Byte) (response : List Byte) : State :=
  { s with port.response := response, port.sdo := shiftedBits s.port.response (8 * (1 + args.length)) }

/-- The still part once the port has answered a request. -/
def State.stillAnswered (s : State) (args : List Byte) (response : List Byte) : Still :=
  { s.still with response := response, sdo := shiftedBits s.port.response (8 * (1 + args.length)) }

end Sys2Proof.Machine
end

