-- ==== Sys2Proof/Certificates/Slice0/Obligations.lean ====
section
/-! DEFINITION. The statements of the PL-220: what the spec's rules say of each command, of the machine as a whole and of the words on its
wires. -/

open Sys2Proof Sys2Proof.Machine

/-! ## The machine -/

/-- A step takes the command at the front of the queue and runs it on the state with the queue's rest. -/
def Obligations.StepRunsFront : Prop :=
  ∀ (c : Instr) (rest : List Instr) (s : State), s.pending = c :: rest → step s = exec c { s with pending := rest }

/-- No command ends in a fault or a refusal, in any state, and no command touches the queue. Both are the model's choices: that every row
of the table has an effect is log 27 (DEDUCED from R170, R179, R199 and R201), and that exec leaves the queue alone is log 8. -/
def Obligations.EveryCommandCompletes : Prop :=
  ∀ (c : Instr) (s : State), Completes c s fun t => t.pending = s.pending

/-- R193, what power-on leaves: every block at its power-on values, and those the rule names; a pattern check in progress is over. The queue,
the choice counter and the value of a field whose power-on value the spec does not give are the model's own (logs 8 and 9). -/
def Obligations.PowerOnValues : Prop :=
  ∀ s : State, Completes (.powerOn .power) s fun t =>
    t = { State.reset with pending := s.pending, choices := s.choices } ∧ t.port.state = .config ∧ t.sets = {} ∧ (t.sets.lineW || t.sets.feedW || t.sets.knifeW || t.sets.boxW || t.sets.standW) = false
      ∧ (∀ a, readStore t.pat.store a = 0) ∧ t.pat.loaded = 0 ∧ t.pat.status = .invalid ∧ t.port.fault = none
      ∧ t.port.response = [] ∧ t.port.ip = 0 ∧ t.port.ius = 0 ∧ t.port.ie = 0 ∧ t.attention = false ∧ t.link.mode = .off
      ∧ t.box.converterDue = t.now + 100000 ∧ t.rate.rampDue = t.now + 10000 ∧ t.stand.standDue = t.now + 10000
      ∧ t.dwell.dwellDue = t.now + 100000 ∧ t.link.pubDue = none ∧ t.rate.stationMax = 60000

/-- R201: a RESET_N low of 10 microseconds or more, or power applied, gives every block its power-on values; a shorter low is a power-on or
is ignored, never part way. The queue and the choice counter are the model's own (log 8). -/
def Obligations.PowerOnIsWhole : Prop :=
  (∀ (cause : ResetCause) (s : State), cause = .power ∨ (∃ n, cause = .resetLow n ∧ 10 ≤ n) →
      exec (.powerOn cause) s = .next { State.reset with pending := s.pending, choices := s.choices })
    ∧ ∀ (n : Nat) (s : State), n < 10 →
      exec (.powerOn (.resetLow n)) s = .next { State.reset with pending := s.pending, choices := s.choices + 1 }
        ∨ exec (.powerOn (.resetLow n)) s = .next { s with choices := s.choices + 1 }

/-! ## The invariant -/

/-- The state after power-on is safe. -/
def Obligations.ResetIsSafe : Prop :=
  State.reset.Safe

/-- The invariant Safe is kept by every step from every state that meets it. Its promises, each a predicate of Safety.lean: the store's
canonical form (R26, R27); the latch and the rates (R3, R9, R11); the limits as the rules form them (R1, R2, R5, R9, R10); the bounds of
the queues (R68, R82, R153, R154, R163); the valves, the drain and the debts (R98, R104, R108, R111); one carrying spindle (R135); SILENT,
CONFIG and the peers heard (R10, R157, R162, R167, R174, R177, R192); the bounds of C and of the counts (R71, R74, R161); the knife under
the latch (R46, R47); the sets in range (R182 to R185). The form of the store and the order of what follows a change in one step are the
model's (logs 5 and 28). -/
def Obligations.StepKeepsSafe : Prop :=
  ∀ s t : State, s.Safe → step s = .next t → t.Safe

/-! ## The port and the wire formats -/

/-- Every well-formed port command comes back from the bits of its request: its command byte and its arguments, most significant bit first
(R179, R199). -/
def Obligations.RequestRoundTrip : Prop :=
  ∀ (c : Instr) (command : Byte) (args : List Byte), c.wf = true → encodeRequest c = some (command, args) →
    decodeTransaction ((command :: args).flatMap fun b => bitsOf b) = c

/-- Every frame of the part comes back from its bits at a station that takes its sender for a peer, and has the length R158 gives; one
with the own id is a duplicate, one of an id of N or above is foreign, and a lost tail, a broken end field or any one bit turned over
makes it bad. R159, R170, R171, any frame: a wrong CRC, a length above 24, an end field that is not recessive, or a kind of this part with
another kind's class or length is bad; a good one of a kind the part does not know is foreign, a duplicate or unknown, by its sender. That
11 recessive bits inside a frame's length, after which R157 calls the link idle, do not make it bad is the model's choice (log 49): a
frame ended early only where fewer bits than its length were sampled. -/
def Obligations.FrameRoundTrip : Prop :=
  (∀ (c : Instr) (own sender : StationId) (n : Nat) (body : FrameBody), rowFrame c = some (sender, body) → sender.val < n →
      sender ≠ own →
        judgeFrame own n (frameBits sender body) = c ∧ (frameBits sender body).length + 1 = frameLength body)
    ∧ (∀ (own sender : StationId) (n : Nat) (body : FrameBody),
        (n ≤ sender.val → judgeFrame own n (frameBits sender body) = .foreignFrame sender)
          ∧ (own.val < n → judgeFrame own n (frameBits own body) = .duplicateIdFrame (bodyKind body))
          ∧ (∀ k < (frameBits sender body).length, judgeFrame own n ((frameBits sender body).take k) = .badFrame)
          ∧ judgeFrame own n ((frameBits sender body).take ((frameBits sender body).length - 1) ++ [false]) = .badFrame)
    ∧ ((∀ (own sender : StationId) (n k : Nat) (body : FrameBody), k < (frameBits sender body).length →
          judgeFrame own n ((frameBits sender body).modify k fun b => !b) = .badFrame)
        ∧ (∀ (own sender : StationId) (n len : Nat) (cls : BitVec 3) (kind : BitVec 4) (payload : List Bool) (crc : BitVec 16) (tail : BitVec 2),
            len < 32 → payload.length = 8 * len →
              let covered := headerBits cls sender kind len ++ payload
              let frame := covered ++ (bitsOf crc ++ bitsOf tail)
              let kinds : List (BitVec 4 × BitVec 3 × Nat) := [(1, 0, 1), (2, 1, 0), (5, 2, 9), (8, 4, 19)]
              (crc ≠ crc16 covered ∨ 24 < len ∨ tail ≠ 3 → judgeFrame own n frame = .badFrame)
                ∧ (∀ row ∈ kinds, row.1 = kind → row.2 ≠ (cls, len) → judgeFrame own n frame = .badFrame)
                ∧ (crc = crc16 covered → len ≤ 24 → tail = 3 → (∀ row ∈ kinds, row.1 ≠ kind) →
                    (n ≤ sender.val → judgeFrame own n frame = .foreignFrame sender)
                      ∧ (sender.val < n → sender = own → judgeFrame own n frame = .duplicateIdFrame kind)
                      ∧ (sender.val < n → sender ≠ own → judgeFrame own n frame = .unknownKindFrame sender kind))))

/-- A fetch of n bytes reads the response from its first byte on and 00h past its end; a discarded transaction shifts out the same bits as
far as its edges reach; neither changes anything else (R179, R180, R200). During a pattern check every command but READ STATUS, known or unknown and whatever its count, is answered BUSY and has no other effect
(R31). Outside one a known command with another count than it requires, and an unknown command, are answered REFUSED_VALUE and change
nothing else (R179, R199). -/
def Obligations.PortAnswers : Prop :=
  ((∀ (n : Nat) (s : State), exec (.fetch n) s =
        .next { s with port.sdo := ((s.port.response ++ List.replicate n 0).take n).flatMap fun b => bitsOf b })
      ∧ ∀ (edges : Nat) (s : State), exec (.transactionDiscarded edges) s =
        .next { s with port.sdo := ((s.port.response ++ List.replicate edges 0).flatMap fun b => bitsOf b).take edges })
    ∧ (∀ (c : Instr) (command : Byte) (args : List Byte) (s : State), c.wf = true → encodeRequest c = some (command, args) →
        command ≠ fetchByte → command ≠ 0x40 → s.pat.status = .checking → exec c s = .next (s.answered args [0x05]))
    ∧ ((∀ (c : Instr) (command : Byte) (args : List Byte) (n : Nat) (s : State), encodeRequest c = some (command, args) →
          fixedCount c = some n → args.length ≠ n → s.pat.status ≠ .checking → exec c s = .next (s.answered args [0x03]))
        ∧ ∀ (command : Byte) (args : List Byte) (s : State), (Instr.unknownCommand command args).wf = true → s.pat.status ≠ .checking →
          exec (.unknownCommand command args) s = .next (s.answered args [0x03]))

/-! ## Configuration and the pattern -/

/-- R183, a LINE set as its ten bytes carry it, in CONFIG outside a pattern check: taken as it stands when every field is in range, the own id
is below N, an UNWIND stand has own id 0 and a REWIND stand own id N - 1; refused with REFUSED_VALUE and nothing changed otherwise. Where
LEADER and FOLLOWER stand along the line is not judged. -/
def Obligations.LineSetJudged : Prop :=
  ∀ (id n kind role : Byte) (max up down : Nat) (s : State), max < 65536 → up < 65536 → down < 65536 → s.port.state = .config →
    s.pat.status ≠ .checking →
      let args := 1 :: id :: n :: kind :: role :: (toBytes 2 max ++ toBytes 2 up ++ toBytes 2 down)
      let fits := id.toNat ≤ 15 ∧ 2 ≤ n.toNat ∧ n.toNat ≤ 16 ∧ kind.toNat ≤ 2 ∧ role.toNat ≤ 2 ∧ 100 ≤ max ∧ max ≤ 60000
        ∧ 1 ≤ up ∧ up ≤ 1000 ∧ 1 ≤ down ∧ down ≤ 1000 ∧ id.toNat < n.toNat ∧ (kind = 1 → id = 0)
        ∧ (kind = 2 → id.toNat + 1 = n.toNat)
      (fits → Completes (.writeSet args) s fun t =>
          t.port.response = [0x01] ∧ t.sets.lineW = true
            ∧ t.sets.line =
              { id := Fin.ofNat 16 id.toNat, n := n.toNat
                standKind := if kind = 0 then .none else if kind = 1 then .unwind else .rewind
                role := if role = 0 then .none else if role = 1 then .leader else .follower
                stationMax := max, up := up, down := down })
        ∧ (¬fits → exec (.writeSet args) s = .next (s.answered args [0x03]))

/-- R182, R27, the refusals of WRITE SET and of LOAD PATTERN in their order, outside a pattern check: nothing but the response changes. -/
def Obligations.SetAndPatternRefused : Prop :=
  (∀ (args : List Byte) (s : State), s.pat.status ≠ .checking →
      (s.port.state ≠ .config → exec (.writeSet args) s = .next (s.answered args [0x02]))
        ∧ (s.port.state = .config →
            (args = [] → exec (.writeSet args) s = .next (s.answered args [0x03]))
              ∧ ∀ (code : Byte) (f : List Byte), args = code :: f →
                (setLength code ≠ some f.length → exec (.writeSet args) s = .next (s.answered args [0x03]))
                  ∧ (setLength code = some f.length → s.sets.lineW = false → code ≠ 1 →
                      exec (.writeSet args) s = .next (s.answered args [0x04]))
                  ∧ (setLength code = some f.length → (s.sets.lineW = true ∨ code = 1) → s.parseSet code f = none →
                      exec (.writeSet args) s = .next (s.answered args [0x03]))))
    ∧ (∀ (args : List Byte) (s : State), s.pat.status ≠ .checking →
        (s.port.state ≠ .config → exec (.loadPattern args) s = .next (s.answered args [0x02]))
          ∧ (s.port.state = .config → (args.length < 3 ∨ 258 < args.length) →
              exec (.loadPattern args) s = .next (s.answered args [0x03]))
          ∧ ∀ (off : Nat) (data : List Byte), off < 65536 → args = toBytes 2 off ++ data → s.port.state = .config → 1 ≤ data.length →
              data.length ≤ 256 →
                (4096 < off + data.length → exec (.loadPattern args) s = .next (s.answered args [0x03]))
                  ∧ (off + data.length ≤ 4096 → 0 < off → s.pat.loaded < off →
                      exec (.loadPattern args) s = .next (s.answered args [0x04])))

/-- R182, an accepted WRITE SET, set by set: the set is in force whole with its written mark, with the effects of its kind, and the limits
are formed again; nothing else changes. R184, R185, R199, 6.1, 8.1 and 11.3, which bytes of a FEED, KNIFE, SET or STAND set are accepted:
the fields of 11.3 in their order, each most significant byte first (the sent lists of Safety.lean), are in force as sent exactly where
they meet the ranges and conditions of the rules (Lawful), with the registration, match mode and mask codes in range and a SET set
agreeing with a FEED set in force; otherwise REFUSED_VALUE and nothing else. R31, CHECK PATTERN outside a pattern check: its refusals, and
the check's beginning. R32 to R35, the check's end, by the records the stream holds one after another: VALID at the end record with P, Q,
the step count, the end offset and the knife limit of the largest panel bound, or INVALID with results 0 and the error of the first test
that fails: NO_END, EMPTY, UNRUNNABLE at the record of the largest bound, TOO_LONG, BAD_FIELD, each with its offset and step. The model's
choices: the step number of a TOO_LONG at test 6 (log 30), and that a CHECK_PATTERN_END outside a check does nothing (log 1). -/
def Obligations.SetsWrittenPatternChecked : Prop :=
  (∀ (code : Byte) (f : List Byte) (s : State), s.Safe → s.port.state = .config → s.pat.status ≠ .checking →
      setLength code = some f.length → (s.sets.lineW = true ∨ code = 1) →
        (∀ x, s.parseSet code f = some (.line x) →
            exec (.writeSet (code :: f)) s =
              .next (State.answered (State.limits { s with
                sets := { line := x, lineW := true }
                pat := { store := s.pat.store, loaded := s.pat.loaded }
                stand := if s.sets.line.standKind = x.standKind then s.stand else { s.stand with a := {}, b := {} } }) (code :: f) [0x01]))
          ∧ (∀ x, s.parseSet code f = some (.feed x) →
            exec (.writeSet (code :: f)) s =
              .next (State.answered (State.limits { s with
                sets.feed := x, sets.feedW := true, pat := { store := s.pat.store, loaded := s.pat.loaded } }) (code :: f) [0x01]))
          ∧ (∀ x, s.parseSet code f = some (.knife x) →
            exec (.writeSet (code :: f)) s =
              .next (State.answered (State.limits { s with
                sets.knife := x, sets.knifeW := true, pat := { store := s.pat.store, loaded := s.pat.loaded } }) (code :: f) [0x01]))
          ∧ (∀ x, s.parseSet code f = some (.stand x) →
            exec (.writeSet (code :: f)) s =
              .next (State.answered (State.limits { s with sets.stand := x, sets.standW := true }) (code :: f) [0x01]))
          ∧ ∀ x, s.parseSet code f = some (.box x) →
            exec (.writeSet (code :: f)) s =
              .next (State.answered (State.limits { s with
                sets.box := x, sets.boxW := true
                box.zones := tabulate fun z => { s.zone z with
                  state := .off, heater := false, settle := none, debt := 0, temp := 0, sensorFault := false } }) (code :: f) [0x01]))
    ∧ (∀ s : State, s.pat.status ≠ .checking →
        (s.port.state ≠ .config → exec (.checkPattern []) s = .next (s.answered [] [0x02]))
          ∧ (s.port.state = .config →
              (s.sets.lineW = false ∨ s.sets.line.role = .none ∨ s.sets.feedW = false ∨ s.sets.knifeW = false) →
                exec (.checkPattern []) s = .next (s.answered [] [0x04]))
          ∧ (s.Safe → s.port.state = .config → s.sets.lineW = true → s.sets.line.role ≠ .none → s.sets.feedW = true →
              s.sets.knifeW = true →
                exec (.checkPattern []) s = .next (State.answered (State.limits
                  { s with pat := { store := s.pat.store, loaded := s.pat.loaded, status := .checking } }) [] [0x01])))
    ∧ (∀ s : State,
        (s.pat.status ≠ .checking → exec .checkPatternEnd s = .next s)
          ∧ (s.Safe → s.port.state = .config → s.pat.status = .checking → s.sets.feedW = true →
            Completes .checkPatternEnd s fun t =>
              t = State.limits { s with pat := t.pat }
                ∧ ∀ (xs : List StreamRecord) (off pw pd : Nat), streamHolds s.pat.store (8 * s.pat.loaded) off pw pd xs 0 0 0 →
                  xs.length ≤ 1024 → streamP xs ≤ 1000000 →
                    let failed := fun (kind : PatternErrorKind) (offset step : Nat) =>
                      t.pat = { store := s.pat.store, loaded := s.pat.loaded, status := .invalid
                                err := some { kind := kind, offset := offset, step := step } }
                    let bound := streamBound s.sets.feed s.sets.knife (streamP xs)
                    (8 * s.pat.loaded < off + 2 → failed .noEnd off (xs.length + 1))
                      ∧ (off + 2 ≤ 8 * s.pat.loaded → kindOfBits (storeField s.pat.store off 2) = none →
                          (xs = [] → failed .empty off 1)
                            ∧ ∀ (before : List StreamRecord) (x : StreamRecord) (after : List StreamRecord), xs = before ++ x :: after →
                              (∀ y ∈ before, bound y < bound x) → (∀ y ∈ after, bound y ≤ bound x) →
                                (bound x ≤ 600000000 →
                                    t.pat = { store := s.pat.store, loaded := s.pat.loaded, status := .valid, p := streamP xs, q := streamQ xs
                                              steps := xs.length, knifeLimit := min 60000 (60000000000 / bound x), endOff := off + 2 })
                                  ∧ (600000000 < bound x → failed .unrunnable x.off (before.length + 1)))
                      ∧ ∀ kind, off + 2 ≤ 8 * s.pat.loaded → kindOfBits (storeField s.pat.store off 2) = some kind →
                          (xs.length = 1024 → failed .tooLong off 1025)
                            ∧ (xs.length < 1024 →
                                (readFields s.pat.store (8 * s.pat.loaded) off pw pd kind = none → failed .noEnd off (xs.length + 1))
                                  ∧ ∀ r, readFields s.pat.store (8 * s.pat.loaded) off pw pd kind = some r →
                                    (badField kind r = true → failed .badField off (xs.length + 1))
                                      ∧ (badField kind r = false → 1000000 < streamP xs + r.pitch → failed .tooLong off (xs.length + 1)))))
    ∧ (∀ s : State, s.port.state = .config → s.pat.status ≠ .checking → s.sets.lineW = true →
        let refused := fun args : List Byte => exec (.writeSet args) s = .next (s.answered args [0x03])
        let inForce := fun (args : List Byte) (sets : Sets) =>
          Completes (.writeSet args) s fun t => t.port.response = [0x01] ∧ t.sets = sets
        (∀ x : FeedSet, fitsBytes x.sent →
            (x.Lawful s.sets.line s.sets.box → inForce (2 :: bytesSent x.sent) { s.sets with feed := x, feedW := true })
              ∧ (¬x.Lawful s.sets.line s.sets.box → refused (2 :: bytesSent x.sent)))
          ∧ (∀ (x : KnifeSet) (registration mode : Nat), fitsBytes (x.sent registration mode) →
            let args := 3 :: bytesSent (x.sent registration mode)
            let y := { x with
              registration := decide (registration = 1), mode := if mode = 0 then .all else if mode = 1 then .any else .atLeast }
            let fits := registration ≤ 1 ∧ mode ≤ 2 ∧ x.Lawful
            (fits → inForce args { s.sets with knife := y, knifeW := true }) ∧ (¬fits → refused args))
          ∧ (∀ (x : BoxSet) (mask : Nat), fitsBytes (x.sent mask) →
            let args := 4 :: bytesSent (x.sent mask)
            let fits := mask ≤ 15 ∧ x.Lawful
              ∧ (0 < x.zoneCount → s.sets.feedW = true → x.boxLength ≤ s.sets.feed.b ∧ tableSpan s.sets.feed.b x.cell ≤ 128)
            (fits → inForce args { s.sets with box := { x with mask := BitVec.ofNat 4 mask }, boxW := true }) ∧ (¬fits → refused args))
          ∧ ∀ x : StandSet, fitsBytes x.sent →
            (x.Lawful → inForce (5 :: bytesSent x.sent) { s.sets with stand := x, standW := true })
              ∧ (¬x.Lawful → refused (5 :: bytesSent x.sent)))

/-- R27, an accepted chunk: its bytes from the offset on, every other byte as before, the loaded length, the pattern INVALID with its
results cleared (R28), the limits formed again; nothing else changes. -/
def Obligations.LoadPatternAccepted : Prop :=
  ∀ (off : Nat) (data : List Byte) (s : State), s.Safe → s.port.state = .config → s.pat.status ≠ .checking →
    1 ≤ data.length → data.length ≤ 256 → off + data.length ≤ 4096 → off ≤ s.pat.loaded →
      Completes (.loadPattern (toBytes 2 off ++ data)) s fun t =>
        (∀ a, readStore t.pat.store a =
            if off ≤ a ∧ a < off + data.length then data[a - off]?.getD 0 else readStore s.pat.store a)
          ∧ t.pat = { store := t.pat.store, loaded := if off = 0 then data.length else max s.pat.loaded (off + data.length) }
          ∧ t = State.answered (State.limits { s with pat := t.pat }) (toBytes 2 off ++ data) [0x01]

/-- R37, R38: the decoder at work fills the empty next-step record from the record at its cursor: a FLAT step with its length as pitch, a
FOLD with width, depth and pitch w + 2d; the number counts on, the last step is known by the step count, and the cursor moves past the
record, with the width and depth of a FOLD as the previous ones, or back to 0 with both 0. R26, R29, R30, the same by the bits of the
stream: a FLAT record is 01 and a 16-bit length, a FOLD record 10 or 11, the register flag, and a width and a depth, each a form bit and a
16-bit number, or a 7-bit two's complement delta from the previous one; most significant bit first. Where the decoder is not at work
nothing happens (R40). -/
def Obligations.DecodeEndFills : Prop :=
  (∀ (s : State) (kind : StepKind) (r : RecordFields), s.running = true → s.sets.line.role ≠ .none → s.dec.next = none →
      kindOfBits (storeField s.pat.store s.dec.cursor 2) = some kind →
      readFields s.pat.store (8 * s.pat.loaded) s.dec.cursor s.dec.prevW s.dec.prevD kind = some r →
        Completes .decodeEnd s fun t =>
          ∃ st : Step, t.dec.next = some st ∧ st.kind = kind ∧ st.offset = s.dec.cursor
            ∧ st.number = (if s.dec.cursor = 0 then 1 else s.dec.stepNo + 1) ∧ st.last = (st.number == s.pat.steps)
            ∧ st.flag = r.flag ∧ st.pitch = (r.width + 2 * r.depth).toNat
            ∧ (kind = .flat → st.pitch = storeField s.pat.store (s.dec.cursor + 2) 16 ∧ st.width = 0 ∧ st.depth = 0)
            ∧ (kind ≠ .flat → st.width = r.width.toNat ∧ st.depth = r.depth.toNat)
            ∧ t.dec.cursor = (if st.last then 0 else r.next) ∧ t.dec.stepNo = s.dec.stepNo ∧ t = { s with dec := t.dec }
            ∧ t.dec.prevW = (if st.last then 0 else if kind = .flat then s.dec.prevW else st.width)
            ∧ t.dec.prevD = (if st.last then 0 else if kind = .flat then s.dec.prevD else st.depth))
    ∧ (∀ s : State, s.running = true → s.sets.line.role ≠ .none → s.dec.next = none →
        let x := s.pat
        let c := s.dec.cursor
        let number := if c = 0 then 1 else s.dec.stepNo + 1
        let last := decide (number = x.steps)
        let filled := fun (st : Step) (past w d : Nat) =>
          Completes .decodeEnd s fun t =>
            t = { s with dec := if last then { stepNo := s.dec.stepNo, next := some st }
                                else { cursor := past, prevW := w, prevD := d, stepNo := s.dec.stepNo, next := some st } }
        (x.streamNumber c 2 = 1 → c + 18 ≤ 8 * x.loaded →
            filled { kind := .flat, pitch := x.streamNumber (c + 2) 16, width := 0, depth := 0, flag := false, number := number, offset := c
                     last := last } (c + 18) s.dec.prevW s.dec.prevD)
          ∧ (2 ≤ x.streamNumber c 2 →
              let w := x.streamValue (c + 3) s.dec.prevW
              let second := x.streamPast (c + 3)
              let d := x.streamValue second s.dec.prevD
              let past := x.streamPast second
              past ≤ 8 * x.loaded → 0 ≤ w → 0 ≤ d →
                filled { kind := if x.streamNumber c 2 = 2 then .foldLeft else .foldRight, pitch := w.toNat + 2 * d.toNat, width := w.toNat
                         depth := d.toNat, flag := x.streamBit (c + 2), number := number, offset := c, last := last } past w.toNat d.toNat))
    ∧ (∀ s : State, (s.running = false ∨ s.sets.line.role = .none ∨ s.dec.next.isSome = true) → exec .decodeEnd s = .next s)

/-! ## Starting, restarting and clearing the station -/

/-- R186, R6, R7, R117, R136, R137, the refusals of START, STOP, RESUME, WAKE, LOAD ROLL and UNLOAD outside a pattern check, in their
order: nothing but the response changes. A spindle byte that names no spindle is refused with REFUSED_VALUE before the tests of R136 and
R137, by the order of R199. -/
def Obligations.StationCommandsRefused : Prop :=
  (∀ s : State, s.pat.status ≠ .checking →
      (s.port.state ≠ .config → exec (.start []) s = .next (s.answered [] [0x02]))
        ∧ (s.port.state = .config →
            (s.sets.lineW = false
                ∨ s.sets.feedW = false ∧ (s.ownId ≠ 0 ∨ s.sets.line.role ≠ .none ∨ 0 < s.sets.box.zoneCount)
                ∨ s.sets.knifeW = false ∧ s.sets.line.role ≠ .none
                ∨ s.sets.standW = false ∧ s.sets.line.standKind ≠ .none
                ∨ s.pat.status ≠ .valid ∧ s.sets.line.role ≠ .none) →
              exec (.start []) s = .next (s.answered [] [0x04])))
    ∧ (∀ s : State, s.pat.status ≠ .checking →
        (s.port.state = .config ∨ s.port.state = .silent →
            exec (.stop []) s = .next (s.answered [] [0x02]) ∧ exec (.resume []) s = .next (s.answered [] [0x02]))
          ∧ (s.port.state = .config → exec (.wake []) s = .next (s.answered [] [0x02])))
    ∧ (∀ (args : List Byte) (s : State), s.pat.status ≠ .checking →
        (args.length = 6 →
            (spindleArg args = none → exec (.loadRoll args) s = .next (s.answered args [0x03]))
              ∧ ∀ id, spindleArg args = some id →
                (s.sets.lineW = false ∨ s.sets.line.standKind = .none → exec (.loadRoll args) s = .next (s.answered args [0x04]))
                  ∧ (s.sets.lineW = true → s.sets.line.standKind ≠ .none →
                      ((s.stand.spindle id).state ≠ .empty → exec (.loadRoll args) s = .next (s.answered args [0x02]))
                        ∧ ((s.stand.spindle id).state = .empty → s.sets.line.standKind = .unwind → numAt args 2 4 = 0 →
                            exec (.loadRoll args) s = .next (s.answered args [0x03]))))
          ∧ (args.length = 1 →
            (spindleArg args = none → exec (.unload args) s = .next (s.answered args [0x03]))
              ∧ ∀ id, spindleArg args = some id →
                (s.sets.lineW = false ∨ s.sets.line.standKind = .none → exec (.unload args) s = .next (s.answered args [0x04]))
                  ∧ (s.sets.lineW = true → s.sets.line.standKind ≠ .none →
                      (s.stand.spindle id).state ∈ ([.empty, .running, .winding, .arming, .synced] : List SpindleState) →
                        exec (.unload args) s = .next (s.answered args [0x02]))))

/-- R186 and the table after it, an accepted START: JOINING, and each block's entry values, the Dwell Table with its cells from the zone
entry to the outlet point and the next cell start at o + c. R190, CLEAR FAULT: refused with REFUSED_STATE outside FAULT; accepted in FAULT
with each effect of the rule, the station ACTIVE exactly where every joining condition of R187 holds, and in JOINING otherwise. R187, over
every command: a station in JOINING after it has a joining condition that fails, and one that has become ACTIVE meets them all. That the
joining test is made at the end of the same step is the model's choice (log 5). -/
def Obligations.StationJoins : Prop :=
  (∀ s : State, s.Safe → s.port.state = .config → s.pat.status ≠ .checking → s.sets.lineW = true →
      (s.ownId ≠ 0 ∨ s.sets.line.role ≠ .none ∨ 0 < s.sets.box.zoneCount → s.sets.feedW = true) →
      (s.sets.line.role ≠ .none → s.sets.knifeW = true ∧ s.pat.status = .valid) →
      (s.sets.line.standKind ≠ .none → s.sets.standW = true) →
        Completes (.start []) s fun t =>
          t.port.state = .joining ∧ t.port.response = [0x01] ∧ t.sets = s.sets ∧ t.pat = s.pat
            ∧ t.rate.dancerLimit = 60000 ∧ t.rate.latch = false ∧ t.rate.effective = 0
            ∧ t.cad.begun = false ∧ t.cad.sample = none ∧ (s.sets.line.role = .none → t.cad.mode = .continuous ∧ t.cad.pn = s.web.pn)
            ∧ (s.sets.line.role ≠ .none → t.dec = {})
            ∧ (s.sets.line.role = .leader → t.leader.state = .pending ∧ t.leader.number = 1 ∧ t.leader.targetSet = false)
            ∧ (s.sets.line.role = .follower → t.follower.state = .waiting ∧ t.follower.number = 0 ∧ t.follower.matched = false)
            ∧ t.reg = { raw := s.reg.raw, filtered := s.reg.filtered, timers := s.reg.timers }
            ∧ t.web = { s.web with
                baseline := false, latches := 0, seg := { kind := .flow, start := s.knifePoint, outletStart := s.web.o } }
            ∧ (∀ z, s.isZone z = true →
                t.zone z = { s.zone z with
                  state := .warming, settle := none, heater := false, counter := s.sets.box.purgeInterval })
            ∧ t.box.owner = none
            ∧ t.box.idle = (if s.sets.box.zoneCount = 0 ∨ s.sets.box.entry = 0 then .stopped
                else .running (s.now + 1000000 * s.sets.box.entry))
            ∧ t.dwell = { s.dwell with
                range := none, tag := none, nextStart := s.web.o + toPos s.sets.box.cell
                cells := if s.sets.box.zoneCount = 0 then [] else
                  (List.range (tableSpan s.sets.feed.b s.sets.box.cell)).map fun k =>
                    { start := s.web.o - toPos (ceilDiv s.sets.feed.b s.sets.box.cell * s.sets.box.cell) + toPos (k * s.sets.box.cell)
                      dwell := 0, panel := none } }
            ∧ t.link.mode = .waiting ∧ t.link.pubDue = some (s.now + 10000) ∧ t.link.advance = true
            ∧ (∀ id, t.peer id = {})
            ∧ t.stand.runOut = false ∧ t.stand.overfill = false ∧ t.stand.pasteDue = none ∧ t.stand.pastes = 0
            ∧ t.stand.splices = 0 ∧ t.stand.transfers = 0 ∧ t.stand.panel = none ∧ t.stand.reach = none)
    ∧ (∀ s : State, s.pat.status ≠ .checking →
        (s.port.state ≠ .fault → exec (.clearFault []) s = .next (s.answered [] [0x02]))
          ∧ (s.port.state = .fault → s.KnifeObeys →
              Completes (.clearFault []) s fun t =>
                (t.port.state = .joining ∨ t.port.state = .active)
                  ∧ (t.port.state = .active ↔
                    (∀ id, s.isPeer id = true → (s.peer id).presence = .live) ∧ (s.ownId = 0 ∨ s.web.latched = true)
                      ∧ s.inletLength ≠ 0 ∧ s.outletLength ≠ 0 ∧ s.sets.line.role ≠ .follower
                      ∧ (s.sets.line.standKind = .unwind → (s.stand.inState .running).isSome = true)
                      ∧ (s.sets.line.standKind = .rewind → (s.stand.inState .winding).isSome = true))
                  ∧ t.port.response = [0x01]
                  ∧ t.calm = { s.calm with fault := none, web := { s.web with span := [], bay := [], baseline := false } }
                  ∧ t.follower.matched = false
                  ∧ t.reg = { s.reg with history := [], expect := none, misses := 0 }
                  ∧ (s.leader.state = .panel → t.leader = { s.leader with state := .closing, target := 0, targetSet := false })
                  ∧ (s.leader.state ≠ .panel → t.leader = s.leader)
                  ∧ (s.follower.state = .panel → t.follower.state = .waiting ∧ t.cad.mode = .continuous ∧ t.cad.pn = s.pat.p)
                  ∧ (s.follower.state ≠ .panel → t.follower = { s.follower with matched := false } ∧ t.cad = s.cad)
                  ∧ t.still = { s.stillAnswered [] [0x01] with
                      span := [], baseline := false, leader := t.leader, follower := t.follower, cad := t.cad, reg := t.reg }))
    ∧ (∀ (c : Instr) (s t : State), (s.port.state = .joining → s.joiningConditions.all id = false) → exec c s = .next t →
        (t.port.state = .joining → t.joiningConditions.all id = false)
          ∧ (t.port.state = .active → s.port.state = .active ∨ t.joiningConditions.all id = true))

/-- An accepted RESTART (R192), in every station state: what it keeps, what it ends, what it returns to power-on values. A RESTART during
a paste makes the roll change and the cut pulse at once (R144), and that the pulse it makes runs its 100 ms out is the model's choice (log
23, DEDUCED). The panels that wait are judged before the accounting is cleared (R153): logged, in the order of closing by the model's
choice (log 47), in a log of 32 that drops its oldest, and counted where the record holds the roll (EMPTY by log 46; a panel closed while
no spindle was WINDING by log 48). The change records, the holds, the box's and the stand's counts and the discarded marks are back at
power-on values. -/
def Obligations.RestartAccepted : Prop :=
  ∀ s : State, s.pat.status ≠ .checking →
    Completes (.restart []) s fun t =>
      t.port.state = .config ∧ t.port.response = [0x01] ∧ t.sets = s.sets ∧ t.pat = s.pat ∧ t.port.ie = s.port.ie
        ∧ t.port.fault = none ∧ t.port.ip = 0 ∧ t.port.ius = 0 ∧ t.attention = false
        ∧ t.rate.effective = 0 ∧ t.rate.resolved = 0 ∧ t.rate.own = 0 ∧ t.rate.latch = false ∧ t.rate.cause = none
        ∧ t.cad = {} ∧ t.dec = {} ∧ t.knife = {} ∧ t.leader = {} ∧ t.follower = {} ∧ t.link = {} ∧ (∀ id, t.peer id = {})
        ∧ t.web.i = 0 ∧ t.web.o = 0 ∧ t.web.k = 0 ∧ t.web.latched = false ∧ t.web.baseline = false ∧ t.web.pn = 0
        ∧ t.web.span = [] ∧ t.web.bay = [] ∧ t.web.outlet = [] ∧ t.web.sent = 0
        ∧ t.dwell.cells = [] ∧ t.dwell.range = none ∧ t.dwell.exited = 0
        ∧ t.reg = { raw := s.reg.raw, filtered := s.reg.raw }
        ∧ (∀ z, t.zone z = { raw := (s.zone z).raw, temp := (s.zone z).temp, sensorFault := (s.zone z).sensorFault })
        ∧ t.box.owner = none ∧ t.box.inForce = false ∧ t.box.idle = .stopped
        ∧ t.stand.pasteDue = none ∧ t.stand.armDue = none ∧ t.stand.panel = none ∧ t.stand.verdicts = []
        ∧ (s.stand.verdicts = [] → t.stand.log = s.stand.log ∧ t.stand.overflow = s.stand.overflow
            ∧ (s.stand.pasteDue = none → ∀ id, t.stand.spindle id =
                (if (s.stand.spindle id).state = .arming ∨ (s.stand.spindle id).state = .synced then
                  { s.stand.spindle id with state := .loaded } else s.stand.spindle id))
            ∧ (s.stand.pasteDue.isSome = true → ∀ id, s.stand.inState .synced = some id →
                (s.stand.spindle (otherSpindle id)).state = .running →
                  t.stand.spindle id = { s.stand.spindle id with state := .running, consumed := 0 }
                    ∧ t.stand.spindle (otherSpindle id) = { s.stand.spindle (otherSpindle id) with state := .spent }
                    ∧ t.stand.cutDue = some (s.now + 100000)))
        ∧ t.rate.dancerLimit = 60000 ∧ t.web = { seg := t.web.seg } ∧ t.dwell = { dwellDue := t.dwell.dwellDue }
        ∧ t.box = { zones := t.box.zones, converterDue := t.box.converterDue, secondsDue := t.box.secondsDue }
        ∧ t.stand =
          { a := t.stand.a, b := t.stand.b, speedA := s.stand.speedA, speedB := s.stand.speedB, cutDue := t.stand.cutDue
            log := t.stand.log, overflow := t.stand.overflow, standDue := t.stand.standDue }
        ∧ (s.stand.pasteDue = none → t.stand.cutDue = none)
        ∧ (let b := toPos s.sets.feed.b
           let reasons := fun c : ClosedPanel =>
             if s.dwell.range.any (fun r => before (r.start + b) c.stop && beyond (r.start + b + toPos r.extent) c.start) = true then
               { c.reasons with underset := true }
             else c.reasons
           let entries : List LogEntry := s.stand.log ++ s.stand.verdicts.map (fun c =>
             { number := c.number, roll := c.roll, reject := (reasons c).any, reasons := reasons c, length := (c.stop - c.start).toNat })
           (s.stand.log.length ≤ 32 →
               t.stand.log = entries.drop (entries.length - 32)
                 ∧ t.stand.overflow = (s.stand.overflow || decide (32 < entries.length)))
             ∧ ∀ id : SpindleId,
                 let x := s.stand.spindle id
                 let mine := s.stand.verdicts.filter fun c => decide (c.spindle = some id ∧ c.roll = x.roll ∧ x.state ≠ .empty)
                 (t.stand.spindle id).good = x.good + (mine.filter fun c => !(reasons c).any).length
                   ∧ (t.stand.spindle id).reject = x.reject + (mine.filter fun c => (reasons c).any).length
                   ∧ (s.stand.pasteDue = none →
                       t.stand.spindle id = { x with
                         state := if x.state = .arming ∨ x.state = .synced then .loaded else x.state
                         good := (t.stand.spindle id).good, reject := (t.stand.spindle id).reject }))

/-! ## STOP, RESUME, WAKE -/

/-- An accepted STOP (R6): the latch with its cause, the effective rate 0 at once, a STOP frame with reason OPERATOR in its slot, and the
feed halted (R46). Outside TUCK nothing else moves but what settling moves. In TUCK the cycle aborts (R47), and with room in the MARK
slots and in the outlet list for its MISSFOLD mark and for every mark the credit may announce, no fault is raised, so the cause and the
STOP frame stand there too. -/
def Obligations.StopAccepted : Prop :=
  ∀ s : State, s.pat.status ≠ .checking → (s.port.state = .joining ∨ s.port.state = .active ∨ s.port.state = .fault) →
    Completes (.stop []) s fun t =>
      t.rate.latch = true ∧ t.rate.effective = 0 ∧ t.rate.own = 0 ∧ t.port.response = [0x01]
        ∧ t.still = s.stillAnswered [] [0x01]
        ∧ (s.rate.latch = false → t.port.ip.getLsbD 5 = true)
        ∧ (s.knife.phase ≠ .tuck →
            t.calm = { s.calm with
              latch := true, cause := some { origin := .port, reason := 0 }, effective := 0
              knife := if s.knife.phase = .feed then { s.knife with halted := true } else s.knife
              link := { s.link with stopResume := some (.stop 0), onLink := s.link.replacedIn .stopResume } })
        ∧ (s.knife.phase = .tuck →
            t.knife.phase = .aborting ∧ t.knife.due = s.now + 1000 * s.sets.knife.tRelease
              ∧ t.knife.missed = satInc s.knife.missed ∧ t.knife.cycle = s.knife.cycle
              ∧ t.web.o = s.web.o + toPos s.cycleWidth
              ∧ (s.link.marks.length + s.web.bay.length + s.dwell.cells.length < 6 →
                  s.web.outlet.length + s.web.bay.length + s.dwell.cells.length < 16 →
                  t.rate.cause = some { origin := .port, reason := 0 } ∧ t.port.fault = s.port.fault
                    ∧ t.link.stopResume = some (.stop 0) ∧ t.link.onLink = s.link.replacedIn .stopResume))

/-- An accepted RESUME (R7, R117): the latch clear, a RESUME frame in its slot, the effective rate as it was; keep-warm is left, its
KEEPWARM and OFF zones go to WARMING, and a zone in FAULT stays. WAKE leaves keep-warm in the same way. That RESUME keeps the stop cause
is the model's choice (log 10, DEDUCED). -/
def Obligations.ResumeWakeAccepted : Prop :=
  ∀ s : State, s.pat.status ≠ .checking →
    ((s.port.state = .joining ∨ s.port.state = .active ∨ s.port.state = .fault) →
        Completes (.resume []) s fun t =>
          t.calm = { s.calm with
              latch := false
              link := { s.link with stopResume := some .resume, onLink := s.link.replacedIn .stopResume } }
            ∧ t.still = s.stillAnswered [] [0x01] ∧ t.port.response = [0x01]
            ∧ (s.box.inForce = true → t.box.inForce = false ∧ t.box.idle = s.startedIdle ∧ t.port.ip.getLsbD 3 = true
                ∧ ∀ z, (s.isZone z = true → (s.zone z).state = .keepwarm ∨ (s.zone z).state = .off →
                    t.zone z = { s.zone z with state := .warming, settle := none })
                  ∧ ((s.zone z).state = .fault → t.zone z = s.zone z)))
      ∧ (s.port.state ≠ .config → s.KnifeObeys →
        Completes (.wake []) s fun t =>
          t.calm = s.calm ∧ t.still = s.stillAnswered [] [0x01] ∧ t.port.response = [0x01]
            ∧ (s.box.inForce = false → s.zoneSettle.box = s.box → t.box = s.box)
            ∧ (s.box.inForce = true → t.box.inForce = false ∧ t.box.idle = s.startedIdle ∧ t.port.ip.getLsbD 3 = true
                ∧ ∀ z, (s.isZone z = true → (s.zone z).state = .keepwarm ∨ (s.zone z).state = .off →
                    t.zone z = { s.zone z with state := .warming, settle := none })
                  ∧ ((s.zone z).state = .fault → t.zone z = s.zone z)))

/-! ## Rolls and zones from the port -/

/-- R136, an accepted LOAD ROLL: at the unwind the record is filled, RUNNING if no spindle is, LOADED otherwise, and the stand is as
before but for it; at the rewind, where no cut at rest waits for it, it is WINDING if no spindle is, otherwise LOADED, or ARMING at once
when a transfer is pending (R148). R150, R151, R153, R154, at a rewind that stands at rest under the overfill hold the loaded spindle is
cut over to in the same step: it winds the new roll from 0, the old one is FULL, the hold ends, the cut pulse runs, the ROLL source is set
with TRANSFER DONE, and the open panel closes at O as SPLIT, counted on the old roll, rejected and logged. At the rewind the record holds
length 0 whatever the length bytes carry, which is the model's choice (log 23, DEDUCED, of R136). That the transfer count rises at this
cut too is the model's choice (log 31), and that a roll's count of panels has no bound (log 41). R137, an accepted UNLOAD: a LOADED, SPENT
or FULL spindle becomes EMPTY with every field 0. -/
def Obligations.RollsLoaded : Prop :=
  (∀ (args : List Byte) (id : SpindleId) (s : State), s.pat.status ≠ .checking → args.length = 6 → spindleArg args = some id →
      s.sets.lineW = true → (s.stand.spindle id).state = .empty → s.KnifeObeys →
        (s.sets.line.standKind = .unwind → numAt args 2 4 ≠ 0 → s.stand.verdicts = [] →
            Completes (.loadRoll args) s fun t =>
              t.stand = s.stand.setSpindle id
                  { state := if (s.stand.inState .running).isSome then .loaded else .running
                    roll := args[1]?.getD 0, length := numAt args 2 4 }
                ∧ t.calm = s.calm ∧ t.still = s.stillAnswered args [0x01] ∧ t.port.response = [0x01])
          ∧ (s.sets.line.standKind = .rewind →
              (s.stand.overfill = false ∨ s.rate.latch = true ∨ s.web.restDue.isSome = true ∨ 0 < s.rate.effective
                ∨ s.port.state ≠ .joining ∧ s.port.state ≠ .active) →
            Completes (.loadRoll args) s fun t =>
              (t.stand.spindle id).roll = args[1]?.getD 0 ∧ (t.stand.spindle id).armFailed = false
                ∧ (t.stand.spindle id).wound = 0 ∧ (t.stand.spindle id).closed = 0
                ∧ (s.stand.inState .winding = none → (t.stand.spindle id).state = .winding)
                ∧ ((s.stand.inState .winding).isSome = true →
                    (t.stand.spindle id).state = if s.transferPending = true ∧ s.running = true then .arming else .loaded)
                ∧ t.calm = s.calm ∧ t.still = s.stillAnswered args [0x01]))
    ∧ (∀ (args : List Byte) (id : SpindleId) (s : State), s.pat.status ≠ .checking → args.length = 6 → spindleArg args = some id →
        s.sets.lineW = true → (s.stand.spindle id).state = .empty → s.sets.line.standKind = .rewind →
        (s.stand.spindle (otherSpindle id)).state = .winding → s.stand.overfill = true → s.port.state = .active → s.rate.latch = false →
        s.web.restDue = none → s.rate.effective = 0 → s.sets.box.zoneCount = 0 → s.dwell.range = none → s.stand.verdicts = [] →
        s.stand.log.length < 32 → (∀ p, s.stand.panel = some p → atOrBeyond s.web.o p.lengthEnd = false) →
          Completes (.loadRoll args) s fun t =>
            let old := s.stand.spindle (otherSpindle id)
            t.stand.spindle id = { state := .winding, roll := args[1]?.getD 0 }
              ∧ (t.stand.spindle (otherSpindle id)).state = .full ∧ (t.stand.spindle (otherSpindle id)).wound = old.wound
              ∧ (t.stand.spindle (otherSpindle id)).closed = old.closed + (if s.stand.panel.isSome then 1 else 0)
              ∧ t.stand.panel = none ∧ t.stand.verdicts = []
              ∧ t.stand.log = s.stand.log ++ (s.stand.panel.toList.map fun p =>
                  { number := p.number, roll := old.roll, reject := true, reasons := { p.reasons with split := true }
                    length := (s.web.o - p.start).toNat })
              ∧ t.stand.overfill = false ∧ t.stand.armDue = none ∧ t.stand.cutDue = some (s.now + 100000)
              ∧ t.stand.transfers = satInc s.stand.transfers ∧ t.port.ip.getLsbD 4 = true
              ∧ t.stand.change.map RollChange.cause = some .transferDone
              ∧ t.calm = s.calm ∧ t.still = s.stillAnswered args [0x01] ∧ t.port.response = [0x01])
    ∧ (∀ (args : List Byte) (id : SpindleId) (s : State), s.pat.status ≠ .checking → args.length = 1 → spindleArg args = some id →
        s.sets.lineW = true → s.sets.line.standKind ≠ .none →
        (s.stand.spindle id).state = .loaded ∨ (s.stand.spindle id).state = .spent ∨ (s.stand.spindle id).state = .full →
        s.KnifeObeys →
          Completes (.unload args) s fun t =>
            t.stand.spindle id = {} ∧ t.calm = s.calm ∧ t.still = s.stillAnswered args [0x01] ∧ t.port.response = [0x01]
              ∧ (s.sets.line.standKind = .unwind → s.stand.verdicts = [] → t.stand = s.stand.setSpindle id {}))

/-- CLEAR ZONE (R107): its refusals in their order, and its effect: the cause cleared, the settle timer stopped, WARMING, or KEEPWARM or
OFF by the mask while keep-warm is in force. That the recorded temperature of the faulting sample stays is the model's choice (log 51). -/
def Obligations.ClearZoneJudged : Prop :=
  ∀ (b : Byte) (s : State), s.pat.status ≠ .checking →
    (s.port.state = .config → exec (.clearZone [b]) s = .next (s.answered [b] [0x02]))
      ∧ (s.port.state ≠ .config →
          ((4 ≤ b.toNat ∨ s.sets.box.zoneCount ≤ b.toNat) → exec (.clearZone [b]) s = .next (s.answered [b] [0x03]))
            ∧ ∀ z : Fin 4, z.val = b.toNat → z.val < s.sets.box.zoneCount →
              ((s.zone z).state ≠ .fault → exec (.clearZone [b]) s = .next (s.answered [b] [0x02]))
                ∧ ((s.zone z).state = .fault → ((s.zone z).sensorFault = true ∨ s.sets.box.zones[z].setpoint ≤ (s.zone z).temp) →
                    exec (.clearZone [b]) s = .next (s.answered [b] [0x03]))
                ∧ ((s.zone z).state = .fault → (s.zone z).sensorFault = false → (s.zone z).temp < s.sets.box.zones[z].setpoint →
                    s.KnifeObeys → s.box.inForce = false →
                      Completes (.clearZone [b]) s fun t =>
                        t.zone z = { s.zone z with state := .warming, settle := none, cause := none }
                          ∧ t.calm = s.calm ∧ t.still = s.stillAnswered [b] [0x01] ∧ t.port.response = [0x01])
                ∧ ((s.zone z).state = .fault → (s.zone z).sensorFault = false → (s.zone z).temp < s.sets.box.zones[z].setpoint →
                    s.KnifeObeys → s.box.inForce = true →
                      Completes (.clearZone [b]) s fun t =>
                        t.zone z = { s.zone z with
                            state := if s.sets.box.mask.getLsbD z.val then .keepwarm else .off
                            heater := s.sets.box.mask.getLsbD z.val && (s.zone z).heater, settle := none, cause := none }
                          ∧ t.calm = s.calm ∧ t.still = s.stillAnswered [b] [0x01] ∧ t.port.response = [0x01]))

/-! ## Reads and the Event Unit -/

/-- R181, the reads: READ STATUS, during a pattern check as well, READ PEER VIEW and READ QUEUES answer with one snapshot of the state and
change nothing else. R200, their lengths. R154, READ PANEL LOG: a count of 0 or above 32 is refused; otherwise the oldest entries up to
the count are returned with the overflow flag and removed, and the flag is cleared. The bytes are named by the model's functions, whose
layout ResponsesLaidOut states; the length 408 of the status response and the codes in it rest on the model's choices of logs 16 (DEDUCED;
in the box's change record and the presence of the pattern error record and other absent values DESIGN CHOICE) and 17. -/
def Obligations.ReadsAnswer : Prop :=
  (∀ s : State, exec (.readStatus []) s = .next (s.answered [] (0x01 :: s.statusWord))
      ∧ (s.pat.status ≠ .checking →
          exec (.readPeerView []) s = .next (s.answered [] (0x01 :: s.peerView))
            ∧ exec (.readQueues []) s = .next (s.answered [] (0x01 :: s.queueBytes))))
    ∧ (∀ s : State, (0x01 :: s.statusWord).length = 408 ∧ ((0x01 : Byte) :: s.peerView).length = 545
        ∧ ((0x01 : Byte) :: s.queueBytes).length =
            5 + 10 * (s.web.span.length + s.web.bay.length + s.web.outlet.length) + 8 * s.dwell.cells.length + 7)
    ∧ (∀ (b : Byte) (s : State), s.pat.status ≠ .checking →
        (b.toNat = 0 ∨ 32 < b.toNat → exec (.readPanelLog [b]) s = .next (s.answered [b] [0x03]))
          ∧ (1 ≤ b.toNat → b.toNat ≤ 32 →
              Completes (.readPanelLog [b]) s fun t =>
                t.port.response = 0x01 :: (if s.stand.overflow then 1 else 0) :: BitVec.ofNat 8 (s.stand.log.take b.toNat).length
                    :: (s.stand.log.take b.toNat).flatMap logBytes
                  ∧ t.port.response.length = 3 + 9 * min b.toNat s.stand.log.length
                  ∧ t = { s.answered [b] t.port.response with stand.log := s.stand.log.drop b.toNat, stand.overflow := false }))

/-- R200 and 11.4, the responses byte by byte: the status word, the peer view, the queues and a panel log entry spell, most significant
byte first, the fields of 11.4 in their order, each at its width, over the state's own registers (statusFields, peerFields, queueFields
and logFields of Safety.lean list them). R201 and 11.5, the output pins: off while RESET_N is low, and otherwise each as the register that
drives it stands. The model's choices: the points 11.4 leaves to inference (log 16, DEDUCED) and those it leaves open, the box's keep-warm
change without a state one presence byte for the pattern error record, and none for the open expectation, a zone's faulting temperature
and the other absent values that log 16 names, and the 2 bytes of a zone's purge debt (log 16, DESIGN CHOICE), the low 16 bits of a roll's
counts (log 41), the codes and the rounding it does not give (log 17), the cell count and table span shown while no cell length is set
(log 36), and the level of RESET_N as an argument of the pins (log 37, DEDUCED). -/
def Obligations.ResponsesLaidOut : Prop :=
  (∀ s : State, spells s.statusWord s.statusFields 0 ∧ spells s.peerView ((List.finRange 16).flatMap s.peerFields) 0
      ∧ (s.QueuesBounded → s.dwell.cells.length ≤ 255 → spells s.queueBytes s.queueFields 0) ∧ ∀ e : LogEntry, spells (logBytes e) (logFields e) 0)
    ∧ ∀ s : State,
      (s.pins true = { attentionLow := false, ltx := none, sdo := none, nipStep := false, knifeOut := false, knifeDir := none
                       pressClose := false, heat := #v[false, false, false, false], valve := #v[false, false, false, false]
                       drain := false, drvA := false, drvB := false, paste := false, cut := false })
        ∧ ((s.pins false).attentionLow = true ↔ s.attention = true)
        ∧ ((s.pins false).ltx = none ↔ s.link.onLink = none)
        ∧ (∀ f, s.link.onLink = some f → (s.pins false).ltx = some (false :: frameBits s.ownId f.body))
        ∧ ((s.pins false).knifeOut = true ↔ s.knife.phase = .tuck ∨ s.knife.phase = .press)
        ∧ ((s.pins false).pressClose = true ↔ s.knife.phase = .press) ∧ (s.pins false).knifeDir = s.knife.cycle.map Cycle.dir
        ∧ (∀ z : Fin 4, ((s.pins false).heat[z] = true ↔ (s.zone z).heater = true)
            ∧ ((s.pins false).valve[z] = true ↔ (s.zone z).state = .open))
        ∧ ((s.pins false).drain = true ↔ s.box.owner.isSome = true)
        ∧ ((s.pins false).drvA = true ↔ s.stand.a.state ∈ ([.running, .winding, .arming, .synced] : List SpindleState))
        ∧ ((s.pins false).drvB = true ↔ s.stand.b.state ∈ ([.running, .winding, .arming, .synced] : List SpindleState))
        ∧ ((s.pins false).paste = true ↔ s.stand.pasteDue.isSome = true) ∧ ((s.pins false).cut = true ↔ s.stand.cutDue.isSome = true)

/-- R195, the attention line and the source an acknowledgement takes: the highest-priority source with IP and IE set, above every source
under service. R196, R197, EVENT ACKNOWLEDGE, EVENT END, EVENT CLEAR and EVENT ENABLE, bit by bit; nothing else changes. -/
def Obligations.EventCommands : Prop :=
  (∀ s : State,
      (s.attention = true ↔ ∃ x : Source, s.port.ip.getLsbD x.bit = true ∧ s.port.ie.getLsbD x.bit = true
          ∧ ∀ y : Source, s.port.ius.getLsbD y.bit = true → y.bit < x.bit)
        ∧ ∀ x : Source, s.eligibleSource = some x ↔
            (s.port.ip.getLsbD x.bit = true ∧ s.port.ie.getLsbD x.bit = true
              ∧ (∀ y : Source, s.port.ius.getLsbD y.bit = true → y.bit < x.bit)
              ∧ ∀ y : Source, s.port.ip.getLsbD y.bit = true → s.port.ie.getLsbD y.bit = true → y.bit ≤ x.bit))
    ∧ (∀ (b : Byte) (s : State), s.pat.status ≠ .checking →
        (s.eligibleSource = none → exec (.eventAcknowledge []) s = .next (s.answered [] [0x01, 0x00]))
          ∧ (∀ x, s.eligibleSource = some x →
              Completes (.eventAcknowledge []) s fun t =>
                t = { s.answered [] [0x01, BitVec.ofNat 8 (7 - x.bit)] with port.ip := t.port.ip, port.ius := t.port.ius }
                  ∧ ∀ k < 7, t.port.ip.getLsbD k = (s.port.ip.getLsbD k && k != x.bit)
                      ∧ t.port.ius.getLsbD k = (s.port.ius.getLsbD k || k == x.bit))
          ∧ (s.port.ius = 0 → exec (.eventEnd []) s = .next (s.answered [] [0x01]))
          ∧ (∀ x : Source, s.port.ius.getLsbD x.bit = true → (∀ y : Source, s.port.ius.getLsbD y.bit = true → y.bit ≤ x.bit) →
              Completes (.eventEnd []) s fun t =>
                t = { s.answered [] [0x01] with port.ius := t.port.ius }
                  ∧ ∀ k < 7, t.port.ius.getLsbD k = (s.port.ius.getLsbD k && k != x.bit))
          ∧ (Completes (.eventClear [b]) s fun t =>
              t = { s.answered [b] [0x01] with port.ip := t.port.ip } ∧ ∀ k < 7, t.port.ip.getLsbD k = (s.port.ip.getLsbD k && !b.getLsbD k))
          ∧ Completes (.eventEnable [b]) s fun t =>
              t = { s.answered [b] [0x01] with port.ie := t.port.ie } ∧ ∀ k < 7, t.port.ie.getLsbD k = b.getLsbD k)

/-! ## Rates -/

/-- R1, R5, R9 on every state whose limits are current: the own limit is the component minimum in ACTIVE with the latch clear and 0
otherwise; the resolved rate is the least of the own limit and the last limits of the LIVE peers, 0 when that is below 100 and 0 while an
expected peer is not LIVE. R2, R28, R119, R138, the components of such a state but the dancer's: the station maximum of the LINE set; the
knife limit of a VALID pattern, 0 without one, 60000 at role NONE; the set limit, 60000 without zones, 0 while no zone is READY or OPEN or
the outlet panel length is 0, else the rate of the shortest panel period that dwells long enough, 60000 at most, 0 below 100; the stand
limit, 0 under a hold, the splice cap during an unwind's splice or paste sequence, 60000 otherwise. -/
def Obligations.ResolvedRate : Prop :=
  (∀ s : State, s.LimitsCurrent →
      (s.port.state ≠ .active ∨ s.rate.latch = true → s.rate.own = 0)
        ∧ (s.port.state = .active → s.rate.latch = false →
            s.rate.own = min s.rate.stationMax (min s.rate.knifeLimit (min s.rate.setLimit (min s.rate.standLimit s.rate.dancerLimit))))
        ∧ s.rate.resolved ≤ s.rate.own
        ∧ (∀ id, s.isPeer id = true → (s.peer id).presence = .live → s.rate.resolved ≤ (s.peer id).lastLimit)
        ∧ (∀ id, s.isPeer id = true → (s.peer id).presence ≠ .live → s.rate.resolved = 0)
        ∧ (s.rate.resolved = 0 ∨ 100 ≤ s.rate.resolved)
        ∧ ((∀ id, s.isPeer id = true → (s.peer id).presence = .live ∧ 100 ≤ (s.peer id).lastLimit) → 100 ≤ s.rate.own →
            s.rate.resolved = s.rate.own ∨ ∃ id, s.isPeer id = true ∧ s.rate.resolved = (s.peer id).lastLimit))
    ∧ (∀ s : State, s.LimitsCurrent →
        let r := s.rate
        let q := if s.sets.line.role = .none then s.web.pn else s.pat.q
        let ready := ((List.finRange 4).map fun z =>
          if z.val < s.sets.box.zoneCount ∧ ((s.zone z).state = .ready ∨ (s.zone z).state = .open) then s.sets.box.zones[z].length else 0).sum
        let shortest := (s.sets.box.dwell * 100000 * q + ready - 1) / ready
        let limit := min 60000 (60000000000 / shortest)
        let held := s.stand.runOut = true ∨ s.stand.overfill = true
        let sequence := s.stand.a.state = .arming ∨ s.stand.a.state = .synced ∨ s.stand.b.state = .arming ∨ s.stand.b.state = .synced
          ∨ s.stand.pasteDue.isSome = true
        r.stationMax = (if s.sets.lineW = true then s.sets.line.stationMax else 60000)
          ∧ (s.sets.line.role = .none → r.knifeLimit = 60000)
          ∧ (s.sets.line.role ≠ .none → s.pat.status = .valid → r.knifeLimit = s.pat.knifeLimit)
          ∧ (s.sets.line.role ≠ .none → s.pat.status ≠ .valid → r.knifeLimit = 0)
          ∧ (s.sets.box.zoneCount = 0 → r.setLimit = 60000)
          ∧ (s.sets.box.zoneCount ≠ 0 → ready = 0 ∨ q = 0 → r.setLimit = 0)
          ∧ (s.sets.box.zoneCount ≠ 0 → ready ≠ 0 → q ≠ 0 → r.setLimit = if limit < 100 then 0 else limit)
          ∧ (s.sets.line.standKind = .none → r.standLimit = 60000)
          ∧ (s.sets.line.standKind ≠ .none → held → r.standLimit = 0)
          ∧ (s.sets.line.standKind = .unwind → ¬held → r.standLimit = if sequence then s.sets.stand.cap else 60000)
          ∧ (s.sets.line.standKind = .rewind → ¬held → r.standLimit = 60000))

/-- R11, R12, R20, R22, R46, R114, a ramp timer expiry: the effective rate by the table of R11, legal if it was, 0 under the latch; a
halted feed resumes from a new base when the rate rises from 0 (R46), a halted FLAT step takes a new base (R20), the idle timer starts at
a fall to 0 and stops at a rise from 0 (R114); nothing else that settling does not move. R22, a continuous run through a change of its
rate: one that restarts from 0 takes the instant of the change as its base, a running one the instant of its last pulse, or its last base
when it has issued none, and the panel period follows the new rate (R12). That the clock goes to the due instant is the model's choice
(log 3). -/
def Obligations.RampExpiry : Prop :=
  (∀ s : State, s.KnifeObeys →
      Completes .rampTimerExpiry s fun t =>
        t.now = max s.now s.rate.rampDue ∧ t.rate.rampDue = s.rate.rampDue + 10000
          ∧ (s.rate.latch = true → t.rate.effective = 0)
          ∧ (s.RatesLegal → t.rate.effective = 0 ∨ 100 ≤ t.rate.effective ∧ t.rate.effective ≤ 60000)
          ∧ (s.rate.latch = false →
              (s.rate.effective = s.rate.resolved → t.rate.effective = s.rate.effective)
                ∧ (s.rate.effective = 0 → s.rate.resolved ≠ 0 →
                    t.rate.effective = min s.rate.resolved (max 100 s.sets.line.up))
                ∧ (0 < s.rate.effective → s.rate.effective < s.rate.resolved →
                    t.rate.effective = min s.rate.resolved (s.rate.effective + s.sets.line.up))
                ∧ (s.rate.resolved < s.rate.effective →
                    t.rate.effective =
                      if max s.rate.resolved (s.rate.effective - s.sets.line.down) < 100 then 0
                      else max s.rate.resolved (s.rate.effective - s.sets.line.down)))
          ∧ t.calm = { s.calm with
              effective := t.rate.effective
              knife := if s.knife.halted = true ∧ s.rate.effective = 0 ∧ 0 < t.rate.effective then
                  { s.knife with halted := false, base := t.now, idx := 0 } else s.knife }
          ∧ t.still = { s.still with now := t.now, rampDue := t.rate.rampDue, cad := t.cad }
          ∧ (t.rate.effective = s.rate.effective → t.cad = s.cad ∧ t.box.idle = s.box.idle)
          ∧ (t.rate.effective = 0 → t.cad = s.cad)
          ∧ (s.cad.mode = .stepping → s.cad.begun = true → 0 < s.cad.remaining → s.rate.effective = 0 → 0 < t.rate.effective →
              t.cad = { s.cad with base := t.now, idx := 0 })
          ∧ (s.cad.mode = .stepping → 0 < s.rate.effective → t.cad = s.cad)
          ∧ (0 < s.rate.effective → t.rate.effective = 0 →
              t.box.idle = if s.sets.box.zoneCount = 0 ∨ s.sets.box.entry = 0 then .stopped
                else .running (t.now + 1000000 * s.sets.box.entry))
          ∧ (s.rate.effective = 0 → 0 < t.rate.effective → t.box.idle = .stopped))
    ∧ (∀ s : State, s.cad.mode = .continuous → s.cad.begun = true → s.cad.pn ≠ 0 →
        Completes .rampTimerExpiry s fun t =>
          t.rate.effective ≠ s.rate.effective → 0 < t.rate.effective →
            t.cad = { s.cad with
              panelPeriod := 60000000000 / t.rate.effective
              base := if s.rate.effective = 0 then t.now else s.cad.lastPulse.getD s.cad.base
              idx := 0, lastPulse := none })

/-- R3 and R4, a dancer sample: none at id 0 or in CONFIG; else the sample, the dancer limit by the hold band with its release band, and
beyond a trip limit the fault in JOINING and ACTIVE, a further fault in FAULT, nothing in SILENT. The instant of the first sample, and so
the field sampleDue, is the model's choice (log 21). -/
def Obligations.DancerSampled : Prop :=
  ∀ (level : BitVec 10) (s : State),
    (s.ownId = 0 ∨ s.port.state = .config → exec (.dancerSample level) s = .next s)
      ∧ (s.ownId ≠ 0 → s.port.state ≠ .config → s.KnifeObeys →
        Completes (.dancerSample level) s fun t =>
          let feed := s.sets.feed
          let trip := level.toNat < feed.tripLo ∨ feed.tripHi < level.toNat
          t.cad = { s.cad with sample := some level.toNat, sampleDue := max s.now s.cad.sampleDue + 1000 }
            ∧ t.now = max s.now s.cad.sampleDue
            ∧ (s.rate.dancerLimit = 60000 →
                t.rate.dancerLimit = if level.toNat < feed.holdLo ∨ feed.holdHi < level.toNat then 0 else 60000)
            ∧ (s.rate.dancerLimit = 0 →
                t.rate.dancerLimit =
                  if feed.setpoint - (feed.setpoint - feed.holdLo) / 2 ≤ level.toNat
                      ∧ level.toNat ≤ feed.setpoint + (feed.holdHi - feed.setpoint) / 2 then 60000 else 0)
            ∧ t.still = { s.still with now := t.now, cad := t.cad, dancerLimit := t.rate.dancerLimit }
            ∧ (¬trip ∨ s.port.state = .silent → t.calm = s.calm)
            ∧ (trip → s.port.state = .joining ∨ s.port.state = .active →
                t.port.state = .fault ∧ t.rate.latch = true ∧ t.rate.effective = 0
                  ∧ t.rate.cause = some { origin := .fault, reason := 6 }
                  ∧ t.port.fault.map FaultRecord.first =
                      some (.dancerTrip level.toNat (if level.toNat < feed.tripLo then feed.tripLo else feed.tripHi)))
            ∧ (trip → s.port.state = .fault → t.port.state = .fault ∧ t.rate.cause = s.rate.cause
                ∧ (s.port.fault.isSome = true → t.port.fault = s.port.fault.map fun r => { r with further := true })))

/-! ## Steps and panels -/

/-- R16, the step periods: T_i is the floor of (T_panel times the pitch, plus the carry) by P, and the carry the rest, below P; the numerator
is below 2^46; a stepping run begins with carry 0; and over any steps whose pitches sum to P, started one after another from a carry of 0
at one effective rate, the step periods before trim sum to exactly the panel period and the carry ends at 0. -/
def Obligations.PanelPeriodsSum : Prop :=
  (∀ (st : Step) (s : State),
    let num := 60000000000 / s.rate.effective * st.pitch + s.cad.carry
    let t := s.startCadenceStep st
    t.cad.stepPeriod = num / s.pat.p ∧ t.cad.carry = num % s.pat.p ∧ (0 < s.pat.p → t.cad.carry < s.pat.p)
      ∧ (100 ≤ s.rate.effective → st.pitch ≤ 65535 → s.cad.carry < 1000000 → num < 2 ^ 46))
    ∧ (∀ s : State, s.cad.mode = .stepping → s.cad.begun = false → s.knife.phase = .idle → 0 < s.rate.effective →
        s.leader.state ≠ .pending → s.leader.state ≠ .bridge → Completes .runBegin s fun t => t.cad.carry = 0 ∧ t.cad.begun = true)
    ∧ ∀ (steps : List Step) (s : State), s.cad.carry = 0 → 0 < s.pat.p → (steps.map Step.pitch).sum = s.pat.p →
      let run := steps.foldl (fun (x : Nat × State) st => (x.1 + (x.2.startCadenceStep st).cad.stepPeriod, x.2.startCadenceStep st)) (0, s)
      run.1 = 60000000000 / s.rate.effective ∧ run.2.cad.carry = 0

/-- R14 to R17, R38, R42, R61, R69, R77, a step start that is taken, where no registration acts and no guard is hit: the panel period, the
step period with its carry, the trim at ids above 0, the step in progress, the emptied next-step record, at a FOLLOWER the nominal point
and the panel's start; a FOLD starts its knife cycle with a feed of its pitch, a FLAT schedules its pulses. A step start waits while a
condition of R14 fails: no run of stepping mode in progress, the knife not IDLE, the rate 0, the cadence before it incomplete, or no step
decoded. That the nominal point moves with registration off as well is the model's choice (log 13, DEDUCED). -/
def Obligations.StepStartTaken : Prop :=
  (∀ (st : Step) (s : State), s.LatchHolds → s.dec.next = some st → s.cad.mode = .stepping → s.cad.begun = true →
      s.knife.phase = .idle → 0 < s.rate.effective → (s.cad.cur.map StepInfo.complete).getD true = true → s.registering = false →
      s.leader.state ≠ .closing → (s.leader.state = .panel → s.guardsOver s.knifePoint st.pitch = []) →
        Completes .stepStart s fun t =>
          let panel := 60000000000 / s.rate.effective
          let num := panel * st.pitch + s.cad.carry
          let ti := num / s.pat.p
          t.cad.panelPeriod = panel ∧ t.cad.stepPeriod = ti ∧ t.cad.carry = num % s.pat.p
            ∧ (s.ownId = 0 → t.cad.trim = 0)
            ∧ (s.ownId ≠ 0 →
                t.cad.trim = max (-((ti / 8 : Nat) : Int)) (min ((ti / 8 : Nat) : Int)
                  (((ti : Int) * ((s.level : Int) - (s.sets.feed.setpoint : Int)) * (s.sets.feed.gain : Int)).fdiv 262144)))
            ∧ (t.cad.trimmed : Int) = (ti : Int) - t.cad.trim
            ∧ t.cad.cur = some
                { number := st.number, kind := st.kind, pitch := st.pitch, start := s.knifePoint, outletStart := s.web.o
                  yield := if st.kind = .flat then st.pitch else st.width, last := st.last, complete := false
                  due := s.now + t.cad.trimmed }
            ∧ t.dec = { s.dec with next := none, stepNo := st.number }
            ∧ (st.kind = .flat →
                t.cad.base = s.now ∧ t.cad.idx = 0 ∧ t.cad.remaining = st.pitch
                  ∧ t.calm = { s.calm with
                      web := { s.web with seg := { kind := .flow, start := s.knifePoint, outletStart := s.web.o } } })
            ∧ (st.kind ≠ .flat →
                t.cad.remaining = 0
                  ∧ t.calm = { s.calm with
                      web := { s.web with
                        seg := { kind := .fold st.width false, start := s.knifePoint, outletStart := s.web.o } }
                      knife := { s.knife with
                        phase := .feed, halted := false, base := s.now, idx := 0
                        cycle := some
                          { step := st.number, dir := if st.kind = .foldRight then .right else .left, w := st.width
                            f := st.pitch, start := s.knifePoint, outletStart := s.web.o, remaining := st.pitch } } })
            ∧ t.still = { s.still with cad := t.cad, dec := t.dec, reg := t.reg, follower := t.follower }
            ∧ (s.sets.line.role = .follower →
                t.reg.nominal = (if s.cad.cur = none then s.knifePoint else s.reg.nominal) + toPos st.pitch
                  ∧ t.follower.start = if s.cad.cur = none then s.knifePoint else s.follower.start)
            ∧ (s.sets.line.role ≠ .follower → t.reg = s.reg ∧ t.follower = s.follower))
    ∧ (∀ s : State,
        (s.cad.mode ≠ .stepping ∨ s.cad.begun = false ∨ s.knife.phase ≠ .idle ∨ s.rate.effective = 0
            ∨ (s.cad.cur.map StepInfo.complete).getD true = false ∨ s.dec.next = none) →
          exec .stepStart s = .next s)

/-- R73, the feed length of a FOLD at a FOLLOWER with registration on: the pitch and the part u of U, clamped to the max step trim and
never below a feed of 1; u is taken out of U. That a registered FOLD's cycle begins so also where its step start's own miss is the fourth
and raises REGISTRATION_LOST, which sets the latch, is the model's choice (log 32). -/
def Obligations.FoldFeedLength : Prop :=
  ∀ (st : Step) (s : State), s.dec.next = some st → s.cad.mode = .stepping → s.cad.begun = true → s.knife.phase = .idle →
    0 < s.rate.effective → (s.cad.cur.map StepInfo.complete).getD true = true → s.registering = true → s.leader.state = .off →
    st.kind ≠ .flat → 1 ≤ st.pitch →
      Completes .stepStart s fun t =>
        t.knife.phase = .feed ∧ (t.knife.cycle.map fun c => (c.step, c.w, c.remaining, c.start, c.outletStart)) =
            some (st.number, st.width, (t.knife.cycle.map Cycle.f).getD 0, s.knifePoint, s.web.o)
          ∧ (((t.knife.cycle.map Cycle.f).getD 0 : Nat) : Int) = (st.pitch : Int) + t.reg.lastU
          ∧ 1 ≤ (t.knife.cycle.map Cycle.f).getD 0
          ∧ t.reg.lastU = max (1 - (st.pitch : Int))
              (max (-(s.sets.knife.maxTrim : Int)) (min (t.reg.u + t.reg.lastU) (s.sets.knife.maxTrim : Int)))
          ∧ (st.flag = false → t.reg.u + t.reg.lastU = if s.cad.cur = none then s.reg.c else s.reg.u)

/-- R54, the leader's promise: it never starts a step whose pitch overlaps the guard interval of a splice it knows. R54, R56, R58, the
boundary that aborts: in CLOSING, or in PANEL with a known splice over the step about to be taken, the abort mark is announced, the panel
number advances, the abort count rises, the decoder is rewound, and the planner goes to its bridge or to PENDING; no step is taken. That
the boundary before a panel's first step is tested too is the model's choice (log 11, DEDUCED). The mark's position and number and the
bridge target are stated in PanelDecided. -/
def Obligations.GuardsSpared : Prop :=
  (∀ (st : Step) (s t : State), s.leader.state = .panel → s.dec.next = some st → s.knife.phase = .idle →
      exec .stepStart s = .next t → t.knife.phase ≠ .idle →
        ∀ p ∈ s.knownSplices, guardHit s.knifePoint st.pitch p s.sets.knife.g = false)
    ∧ (∀ (st : Step) (s : State), s.LatchHolds → s.dec.next = some st → s.cad.mode = .stepping → s.cad.begun = true →
        s.knife.phase = .idle → 0 < s.rate.effective → (s.cad.cur.map StepInfo.complete).getD true = true →
        (s.leader.state = .closing ∨ s.leader.state = .panel ∧ s.guardsOver s.knifePoint st.pitch ≠ []) →
          Completes .stepStart s fun t =>
            (t.leader.state = .bridge ∨ t.leader.state = .pending) ∧ t.leader.aborts = satInc s.leader.aborts
              ∧ t.leader.number = (if s.leader.number = 65535 then 1 else s.leader.number + 1)
              ∧ t.dec = {} ∧ t.knife.phase = .idle ∧ t.web.sent = s.web.sent + 1 ∧ t.dwell.tag = none
              ∧ t.cad.begun = false ∧ t.cad.cur = none ∧ t.web.i = s.web.i ∧ t.web.o = s.web.o
              ∧ (s.leader.state = .closing → s.leader.targetSet = false → t.leader.state = .pending))

/-- R50, R52, the panel decision: it waits for the knife and the rate; without an overlapping known splice the panel starts with its PANEL
mark at O + b, also where that announcement raises a fault (the model's choice, log 39); with one the planner goes to a bridge past the
farthest guard end, or to PENDING exactly where the knife point is at or beyond it. R54, R56, R58, the boundary that aborts: the ABORT
mark with the panel's number stands b beyond the outlet position at the step's end (at O before the first step, log 11, DEDUCED), and the
planner bridges to the target that CLOSING holds, or past the farthest guard end over the step about to be taken, with the continuous run
at its own P, or goes to PENDING where it has no target or the target is not ahead. -/
def Obligations.PanelDecided : Prop :=
  (∀ s : State,
      (s.leader.state ≠ .pending ∨ s.knife.phase ≠ .idle ∨ s.rate.effective = 0 → exec .panelDecision s = .next s)
        ∧ (s.LatchHolds → s.leader.state = .pending → s.knife.phase = .idle → 0 < s.rate.effective →
            (s.guardsOver s.knifePoint s.pat.p = [] →
              Completes .panelDecision s fun t =>
                t.leader = { s.leader with
                    state := .panel, start := s.knifePoint, outlet := s.web.o, target := 0, targetSet := false }
                  ∧ t.dec = {} ∧ t.cad = { s.cad with begun := true, carry := 0, cur := none }
                  ∧ t.web.sent = s.web.sent + 1 ∧ t.dwell.tag = some (BitVec.ofNat 16 s.leader.number)
                  ∧ (s.link.marks.length < 6 → s.ownId.val + 1 ≠ s.sets.line.n → s.port.state ≠ .silent →
                      t.link.marks = s.link.marks ++
                        [{ count := s.web.sent + 1, kind := 2, spare := false, origin := BitVec.ofNat 4 s.ownId.val
                           position := s.web.o + toPos s.sets.feed.b, value := BitVec.ofNat 16 s.leader.number, roll := 0 }])
                  ∧ t.web.i = s.web.i ∧ t.web.o = s.web.o)
              ∧ (s.guardsOver s.knifePoint s.pat.p ≠ [] →
                Completes .panelDecision s fun t =>
                  t.calm = s.calm ∧ t.still = { s.still with leader := t.leader, cad := t.cad }
                    ∧ (s.sets.knife.g ≤ 100000 → s.pat.p ≤ 1000000 → ∀ p ∈ s.guardsOver s.knifePoint s.pat.p,
                        (∀ q ∈ s.guardsOver s.knifePoint s.pat.p, atOrBeyond p q = true) →
                          let target := p + toPos s.sets.knife.g + 1
                          if atOrBeyond s.knifePoint target = true then
                            t.leader = { s.leader with state := .pending, target := 0, targetSet := false } ∧ t.cad.mode = .stepping
                          else t.leader = { s.leader with state := .bridge, target := target, targetSet := true }
                            ∧ t.cad.mode = .continuous ∧ t.cad.pn = s.pat.p ∧ t.cad.begun = false))))
    ∧ (∀ (st : Step) (s : State), s.LatchHolds → s.dec.next = some st → s.cad.mode = .stepping → s.cad.begun = true →
        s.knife.phase = .idle → 0 < s.rate.effective → (s.cad.cur.map StepInfo.complete).getD true = true →
        (s.leader.state = .closing ∨ s.leader.state = .panel ∧ s.guardsOver s.knifePoint st.pitch ≠ []) →
          Completes .stepStart s fun t =>
            let placed := (s.cad.cur.map fun c => c.outletStart + toPos c.yield).getD s.web.o + toPos s.sets.feed.b
            let number := BitVec.ofNat 16 s.leader.number
            let after := { s.leader with
              aborts := satInc s.leader.aborts, number := if s.leader.number = 65535 then 1 else s.leader.number + 1 }
            let pending := t.leader = { after with state := .pending, target := 0, targetSet := false } ∧ t.cad.mode = .stepping
            let bridged := fun target : Pos =>
              if atOrBeyond s.knifePoint target = true then pending
              else t.leader = { after with state := .bridge, target := target, targetSet := true } ∧ t.cad.mode = .continuous
                ∧ t.cad.pn = s.pat.p
            (s.link.marks.length < 6 → s.ownId.val + 1 ≠ s.sets.line.n → s.port.state ≠ .silent →
                t.link.marks = s.link.marks ++
                  [{ count := s.web.sent + 1, kind := 3, spare := false, origin := BitVec.ofNat 4 s.ownId.val
                     position := placed, value := number, roll := 0 }])
              ∧ (s.web.outlet = [] → atOrBeyond s.web.o placed = false →
                  t.web.outlet = [{ body := .abort number, origin := s.ownId, pos := placed }])
              ∧ (s.leader.state = .closing → s.leader.targetSet = true → bridged s.leader.target)
              ∧ (s.leader.state = .closing → s.leader.targetSet = false → pending)
              ∧ (s.leader.state = .panel → s.sets.knife.g ≤ 100000 → st.pitch ≤ 65535 → ∀ p ∈ s.guardsOver s.knifePoint st.pitch,
                  (∀ q ∈ s.guardsOver s.knifePoint st.pitch, atOrBeyond p q = true) → bridged (p + toPos s.sets.knife.g + 1)))

/-- R13, R16, R21, R77, a requested run begins when the knife is IDLE and the rate above 0: a stepping run with carry 0, a continuous run
with carry 0, a new base, index 0, the panel period and a FLOW segment; otherwise it waits. R52, a bridge whose run could begin only when
the knife point is at or beyond its target is empty: the planner is PENDING without a target and asks for a stepping run, and nothing else
changes. That this is so at the run's beginning, where R52 says it of the bridge's entry, is the model's choice (log 12, DEDUCED). -/
def Obligations.RunBegins : Prop :=
  ∀ s : State,
    (s.cad.mode = .idle ∨ s.cad.begun = true ∨ s.knife.phase ≠ .idle ∨ s.rate.effective = 0
        ∨ s.cad.mode = .continuous ∧ s.cad.pn = 0 → exec .runBegin s = .next s)
      ∧ (s.cad.begun = false → s.knife.phase = .idle → 0 < s.rate.effective → s.leader.state ≠ .pending →
          s.leader.state ≠ .bridge ∨ atOrBeyond s.knifePoint s.leader.target = false →
            (s.cad.mode = .stepping →
                exec .runBegin s = .next { s with cad.begun := true, cad.carry := 0, cad.cur := none })
              ∧ (s.cad.mode = .continuous → s.cad.pn ≠ 0 →
                  exec .runBegin s = .next { s with
                    cad.begun := true, cad.carry := 0, cad.base := s.now, cad.idx := 0, cad.lastPulse := none
                    cad.panelPeriod := 60000000000 / s.rate.effective
                    web.seg := { kind := .flow, start := s.knifePoint, outletStart := s.web.o } }))
      ∧ (s.cad.begun = false → s.knife.phase = .idle → 0 < s.rate.effective → s.leader.state = .bridge →
          atOrBeyond s.knifePoint s.leader.target = true → s.cad.mode = .stepping ∨ s.cad.mode = .continuous ∧ s.cad.pn ≠ 0 →
            exec .runBegin s = .next { s with
              leader.state := .pending, leader.target := 0, leader.targetSet := false
              cad.mode := .stepping, cad.pn := 0, cad.cur := none, cad.remaining := 0, cad.idx := 0, cad.lastPulse := none })

/-- R18, R49, R53, R62, the step timer of a FOLD: its cadence is complete, and the overrun count rises when the knife is not IDLE; inside
a panel nothing else moves, and at a panel's last step the planner goes on. R53, R55 to R58, a panel that ends in CLOSING is aborted at
that expiry: the ABORT mark with its number stands b beyond the step's outlet end, the decoder is rewound, the abort count and the number
go on, and the planner bridges to the target it holds, with a continuous run at its own P, or goes to PENDING where it holds none or the
target is not ahead. That this abort is taken at the expiry at any rate and under the latch too is the model's choice (log 38). Without a
FOLD under way there is no timer, and that the row then does nothing is the model's choice (log 1). -/
def Obligations.StepTimerExpires : Prop :=
  ∀ s : State,
    ((s.cad.cur.map fun c => decide (c.kind ≠ .flat) && !c.complete).getD false = false → exec .stepTimerExpiry s = .next s)
      ∧ ∀ c, s.cad.cur = some c → c.kind ≠ .flat → c.complete = false →
          Completes .stepTimerExpiry s fun t =>
            t.now = max s.now c.due
              ∧ t.cad.overruns = (if s.knife.phase = .idle then s.cad.overruns else satInc s.cad.overruns)
              ∧ (c.last = false → s.KnifeObeys →
                  t.cad = { s.cad with cur := some { c with complete := true }, overruns := t.cad.overruns }
                    ∧ t.calm = s.calm ∧ t.still = { s.still with now := t.now, cad := t.cad })
              ∧ (c.last = true → s.leader.state = .panel →
                  t.leader = { s.leader with
                      state := .pending, target := 0, targetSet := false
                      number := if s.leader.number = 65535 then 1 else s.leader.number + 1 }
                    ∧ t.cad.mode = .stepping ∧ t.cad.begun = false)
              ∧ (c.last = true → s.leader.state = .off → s.follower.state = .panel →
                  t.follower.state = .waiting ∧ t.cad.mode = .continuous ∧ t.cad.pn = s.pat.p)
              ∧ (c.last = true → s.leader.state = .closing →
                  let placed := c.outletStart + toPos c.yield + toPos s.sets.feed.b
                  let number := BitVec.ofNat 16 s.leader.number
                  let after := { s.leader with
                    aborts := satInc s.leader.aborts, number := if s.leader.number = 65535 then 1 else s.leader.number + 1 }
                  t.dec = {} ∧ t.cad.begun = false ∧ t.cad.cur = none
                    ∧ (if s.leader.targetSet = true ∧ atOrBeyond s.knifePoint s.leader.target = false then
                        t.leader = { after with state := .bridge } ∧ t.cad.mode = .continuous ∧ t.cad.pn = s.pat.p
                      else t.leader = { after with state := .pending, target := 0, targetSet := false } ∧ t.cad.mode = .stepping)
                    ∧ (s.KnifeObeys → s.link.marks.length < 6 → s.web.outlet.length < 16 → s.ownId.val + 1 ≠ s.sets.line.n →
                        s.port.state ≠ .silent →
                          t.link.marks = s.link.marks ++
                            [{ count := s.web.sent + 1, kind := 3, spare := false, origin := BitVec.ofNat 4 s.ownId.val
                               position := placed, value := number, roll := 0 }])
                    ∧ (s.KnifeObeys → s.link.marks.length < 6 → s.web.outlet = [] → atOrBeyond s.web.o placed = false →
                        t.web.outlet = [{ body := .abort number, origin := s.ownId, pos := placed }]))

/-! ## The web at a pulse -/

/-- R60 to R63, R85 to R88, a bay queue mark that a pulse brings to the knife line, where nothing else is due. In a FLOW segment it is
announced b after the outlet position at the knife and leaves the queue; inside a FOLD not yet credited it awaits the credit. A FOLLOWER
opens a panel at a PANEL mark and drops to waiting at an ABORT; a LEADER discards both and holds the guard of a SPLICE. R68, R70, R71,
R72, R74, a FOLD with the register flag at a FOLLOWER's step start: the oldest unused detection of the history within the window is taken
at once, else the expectation opens with its deadline, or is missed at once where I is already past it; an expectation that stands is
missed first. R74, a deadline that a feed pulse passes is a miss, and the fourth in a row raises REGISTRATION_LOST. R47, R82, R83, R88, a
STOP taken in TUCK: O takes the credit of w, the MISSFOLD mark stands b beyond the fold's outlet start and is announced and listed, and
the missed count rises. The model's choices: the cycle of a step start whose own miss raises REGISTRATION_LOST begins and is halted (log
32), a PANEL mark that crosses in PANEL is an overrun whatever is left of the panel (log 44), and the order of one pulse's effects (log
7). -/
def Obligations.MarksAndMisses : Prop :=
  (∀ (m : Mark) (s : State), s.KnifeObeys → s.web.bay = [{ mark := m, awaiting := false }] → s.web.span = [] → s.reg.expect = none →
      s.sets.line.standKind = .none → m.pos + toPos s.sets.feed.a = s.web.i + 1 → atOrBeyond m.pos s.web.seg.start = true →
        (s.cad.mode = .continuous → s.cad.begun = true → s.cad.pn ≠ 0 → 0 < s.rate.effective → s.knife.phase = .idle →
            s.web.seg.kind = .flow → s.sets.box.zoneCount = 0 → s.web.outlet = [] → s.link.marks.length < 6 → 0 < s.sets.feed.b →
            s.sets.feed.b < 2147483648 → s.sets.line.role ≠ .leader → s.leader.state = .off →
              Completes .continuousPulse s fun t =>
                t.web.bay = [] ∧ t.web.sent = s.web.sent + 1
                  ∧ t.web.outlet = [{ m with pos := s.web.o + 1 + toPos s.sets.feed.b }]
                  ∧ (s.ownId.val + 1 ≠ s.sets.line.n → s.port.state ≠ .silent →
                      t.link.marks = s.link.marks ++
                        [Mark.payload { m with pos := s.web.o + 1 + toPos s.sets.feed.b } (s.web.sent + 1)])
                  ∧ (s.sets.line.role = .follower → s.follower.state = .waiting → ∀ number, m.body = .panel number →
                      t.follower = { s.follower with state := .panel, number := number.toNat } ∧ t.dec = {}
                        ∧ t.cad.mode = .stepping ∧ t.cad.begun = false)
                  ∧ (s.sets.line.role = .none → t.follower = s.follower ∧ t.dec = s.dec ∧ t.cad.mode = .continuous))
          ∧ (∀ c, s.knife.cycle = some c → s.knife.phase = .feed → s.knife.halted = false → 0 < c.remaining →
              (∃ w, s.web.seg.kind = .fold w false) →
                (s.sets.line.role = .follower →
                    Completes .feedPulse s fun t =>
                      t.web.bay = [{ mark := m, awaiting := true }] ∧ t.web.sent = s.web.sent ∧ t.web.outlet = s.web.outlet
                        ∧ (∀ number, m.body = .abort number → s.follower.state = .panel →
                            t.follower = { s.follower with state := .waiting } ∧ t.cad.mode = .continuous ∧ t.cad.pn = s.pat.p)
                        ∧ (∀ number, m.body = .panel number → s.follower.state = .panel →
                            t.follower = { s.follower with number := number.toNat, overruns := satInc s.follower.overruns }
                              ∧ t.dec = {} ∧ t.cad.mode = .stepping))
                  ∧ (s.sets.line.role = .leader →
                    Completes .feedPulse s fun t =>
                      t.web.sent = s.web.sent ∧ t.web.outlet = s.web.outlet
                        ∧ (∀ number, m.body = .panel number ∨ m.body = .abort number →
                            t.web.bay = [] ∧ t.web.discarded = satInc s.web.discarded ∧ t.leader = s.leader)
                        ∧ (∀ roll, m.body = .splice roll →
                            t.web.bay = [{ mark := m, awaiting := true }] ∧ t.leader.held = some m.pos))))
    ∧ (∀ (st : Step) (s : State), s.dec.next = some st → s.cad.mode = .stepping → s.cad.begun = true → s.knife.phase = .idle →
        0 < s.rate.effective → (s.cad.cur.map StepInfo.complete).getD true = true → s.registering = true → s.leader.state = .off →
        st.kind ≠ .flat → st.flag = true →
          Completes .stepStart s fun t =>
            let x := if s.cad.cur = none then s.knifePoint else s.reg.nominal
            let window := (s.sets.knife.window : Int)
            let fits := fun d : Detection => d.used = false ∧ -window ≤ (d.x - x).toInt ∧ (d.x - x).toInt ≤ window
            let deadline := x + toPos (s.sets.feed.aS + s.sets.knife.window)
            let lost := fun (step : Nat) (expected : Pos) => s.port.state = .joining ∨ s.port.state = .active →
              t.port.state = .fault ∧ t.rate.latch = true ∧ t.rate.effective = 0
                ∧ t.port.fault.map FaultRecord.first = some (.registrationLost step expected) ∧ t.knife.phase = .feed ∧ t.knife.halted = true
            (s.reg.expect = none →
                (∀ (older : List Detection) (d : Detection) (newer : List Detection), s.reg.history = older ++ d :: newer →
                    (∀ y ∈ older, ¬fits y) → fits d →
                      let c := (s.reg.c + (d.x - x).toInt).fdiv 2
                      t.reg.expect = none ∧ t.reg.history = older ++ { d with used := true } :: newer ∧ t.reg.c = c ∧ t.reg.misses = 0
                        ∧ t.reg.lastErr = (d.x - x).toInt ∧ t.reg.accepted = satInc s.reg.accepted
                        ∧ t.reg.u + t.reg.lastU = (if s.cad.cur = none then s.reg.c else s.reg.u) + (c - s.reg.c)
                        ∧ (0 < s.reg.misses → t.port.ip.getLsbD 2 = true))
                  ∧ ((∀ y ∈ s.reg.history, ¬fits y) → t.reg.history = s.reg.history ∧ t.reg.c = s.reg.c
                    ∧ (beyond s.web.i deadline = false →
                        t.reg.expect = some { step := st.number, x := x, deadline := deadline } ∧ t.reg.misses = s.reg.misses)
                    ∧ (beyond s.web.i deadline = true →
                        t.reg.expect = none ∧ t.reg.misses = min (s.reg.misses + 1) 4 ∧ t.port.ip.getLsbD 2 = true
                          ∧ (s.reg.misses = 3 → lost st.number x))))
              ∧ ∀ e, s.reg.expect = some e → (∀ y ∈ s.reg.history, ¬fits y) → beyond s.web.i deadline = false →
                  t.reg.expect = some { step := st.number, x := x, deadline := deadline } ∧ t.reg.history = s.reg.history
                    ∧ t.reg.misses = min (s.reg.misses + 1) 4 ∧ t.port.ip.getLsbD 2 = true ∧ (s.reg.misses = 3 → lost e.step e.x))
    ∧ (∀ (e : Expectation) (c : Cycle) (s : State), s.reg.expect = some e → s.KnifeObeys → s.web.bay = [] → s.web.span = [] →
        s.sets.line.standKind = .none → s.knife.cycle = some c → s.knife.phase = .feed → s.knife.halted = false → 0 < c.remaining →
          Completes .feedPulse s fun t =>
            (beyond (s.web.i + 1) e.deadline = false → t.reg = s.reg ∧ t.port.fault = s.port.fault)
              ∧ (beyond (s.web.i + 1) e.deadline = true →
                  t.reg = { s.reg with expect := none, misses := min (s.reg.misses + 1) 4 } ∧ t.port.ip.getLsbD 2 = true
                    ∧ (s.reg.misses ≠ 3 → t.port.fault = s.port.fault)
                    ∧ (s.reg.misses = 3 → s.port.state = .joining ∨ s.port.state = .active →
                        t.port.state = .fault ∧ t.rate.latch = true ∧ t.rate.effective = 0
                          ∧ t.rate.cause = some { origin := .fault, reason := 5 }
                          ∧ t.port.fault.map FaultRecord.first = some (.registrationLost e.step e.x))))
    ∧ (∀ (c : Cycle) (s : State), s.pat.status ≠ .checking →
        s.port.state = .joining ∨ s.port.state = .active ∨ s.port.state = .fault → s.knife.phase = .tuck → s.knife.cycle = some c →
        s.sets.box.zoneCount = 0 → s.web.bay = [] →
          Completes (.stop []) s fun t =>
            let placed := c.outletStart + toPos s.sets.feed.b
            t.web.o = s.web.o + toPos c.w ∧ t.web.seg = s.web.seg.credit ∧ t.web.sent = s.web.sent + 1
              ∧ t.knife.missed = satInc s.knife.missed ∧ t.knife.phase = .aborting
              ∧ (s.link.marks.length < 6 → s.ownId.val + 1 ≠ s.sets.line.n →
                  t.link.marks = s.link.marks ++
                    [{ count := s.web.sent + 1, kind := 5, spare := false, origin := BitVec.ofNat 4 s.ownId.val
                       position := placed, value := 0, roll := 0 }])
              ∧ (s.web.outlet = [] → atOrBeyond (s.web.o + toPos c.w) placed = false →
                  t.web.outlet = [{ body := .missfold, origin := s.ownId, pos := placed }]))

/-- R125, R129 to R131, the Dwell Table at a pulse of a bay that announces nothing else: a cell of the table's head that O has carried
past the outlet point exits with its verdict, also where a cell enters at the same pulse, an underset one opens or extends the range, one
that met its dwell closes it with an UNDERSET mark; and a cell enters as O reaches its start. The same at the credit of w at the end of
PRESS: every cell at the head that is due exits, in order, and is counted; every cell whose start the credit reaches enters behind the
rest with the panel tag; cells that are underset and follow on each other make one range, or go on with the open one, and a cell that met
its dwell behind them closes it with one UNDERSET mark of the whole extent. -/
def Obligations.CellsPass : Prop :=
  (∀ s : State, s.cad.mode = .continuous → s.cad.begun = true → s.cad.pn ≠ 0 → 0 < s.rate.effective → s.knife.phase = .idle →
      s.web.bay = [] → s.web.span = [] → s.reg.expect = none → s.sets.line.standKind = .none → s.web.outlet = [] →
      0 < s.sets.box.zoneCount → 0 < s.sets.box.cell → s.sets.box.cell ≤ 4000 →
        (∀ c cs, s.dwell.cells = c :: cs →
            atOrBeyond (s.web.o + 1) (c.start + toPos (s.sets.box.cell + s.sets.feed.b)) = true →
            (cs.head?.map fun d => atOrBeyond (s.web.o + 1) (d.start + toPos (s.sets.box.cell + s.sets.feed.b))).getD false = false →
            atOrBeyond (s.web.o + 1) s.dwell.nextStart = false ∨ s.dwell.nextStart = s.web.o + 1 →
              Completes .continuousPulse s fun t =>
                t.dwell.exited = satInc s.dwell.exited
                  ∧ (atOrBeyond (s.web.o + 1) s.dwell.nextStart = false →
                      t.dwell.cells = cs ∧ t.dwell.nextStart = s.dwell.nextStart)
                  ∧ (s.dwell.nextStart = s.web.o + 1 →
                      t.dwell.cells = cs ++ [{ start := s.web.o + 1, dwell := 0, panel := s.dwell.tag }]
                        ∧ t.dwell.nextStart = s.dwell.nextStart + toPos s.sets.box.cell)
                  ∧ (100 * s.sets.box.dwell ≤ c.dwell →
                      t.dwell.range = none ∧ t.dwell.underset = s.dwell.underset
                        ∧ (s.dwell.range = none → t.web.sent = s.web.sent ∧ t.dwell.announced = s.dwell.announced)
                        ∧ (∀ r, s.dwell.range = some r → t.web.sent = s.web.sent + 1 ∧ t.dwell.announced = satInc s.dwell.announced
                            ∧ (s.link.marks.length < 6 → s.ownId.val + 1 ≠ s.sets.line.n → s.port.state ≠ .silent →
                                t.link.marks = s.link.marks ++
                                  [{ count := s.web.sent + 1, kind := 4, spare := false, origin := BitVec.ofNat 4 s.ownId.val
                                     position := r.start + toPos s.sets.feed.b, value := BitVec.ofNat 16 r.extent, roll := 0 }])))
                  ∧ (c.dwell < 100 * s.sets.box.dwell →
                      t.dwell.underset = satInc s.dwell.underset
                        ∧ (s.dwell.range = none →
                            t.dwell.range = some { start := c.start, extent := s.sets.box.cell } ∧ t.web.sent = s.web.sent)
                        ∧ (∀ r, s.dwell.range = some r → c.start = r.start + toPos r.extent → r.extent + s.sets.box.cell ≤ 65535 →
                            t.dwell.range = some { r with extent := r.extent + s.sets.box.cell } ∧ t.web.sent = s.web.sent)
                        ∧ (∀ r, s.dwell.range = some r → c.start ≠ r.start + toPos r.extent ∨ 65535 < r.extent + s.sets.box.cell →
                            t.dwell.range = some { start := c.start, extent := s.sets.box.cell }
                              ∧ t.web.sent = s.web.sent + 1 ∧ t.dwell.announced = satInc s.dwell.announced)))
          ∧ ((s.dwell.cells.head?.map fun c =>
                  atOrBeyond (s.web.o + 1) (c.start + toPos (s.sets.box.cell + s.sets.feed.b))).getD false = false →
              s.dwell.nextStart = s.web.o + 1 →
                Completes .continuousPulse s fun t =>
                  t.dwell = { s.dwell with
                    cells := s.dwell.cells ++ [{ start := s.web.o + 1, dwell := 0, panel := s.dwell.tag }]
                    nextStart := s.dwell.nextStart + toPos s.sets.box.cell }))
    ∧ (∀ (gone stay : List DwellCell) (n : Nat) (s : State), s.knife.phase = .press → s.web.bay = [] → s.web.outlet = [] →
        s.sets.line.standKind = .none → 0 < s.sets.box.zoneCount → 0 < s.sets.box.cell → s.sets.box.cell ≤ 4000 →
        s.dwell.cells = gone ++ stay →
          let o := s.web.o + toPos s.cycleWidth
          let cell := s.sets.box.cell
          let threshold := 100 * s.sets.box.dwell
          let due := fun c : DwellCell => atOrBeyond o (c.start + toPos (cell + s.sets.feed.b)) = true
          (∀ c ∈ gone, due c) → (∀ c, stay.head? = some c → ¬due c) →
          (∀ k < n, atOrBeyond o (s.dwell.nextStart + toPos (k * cell)) = true) →
          atOrBeyond o (s.dwell.nextStart + toPos (n * cell)) = false →
            Completes .pressEnd s fun t =>
              t.dwell.cells = stay ++ (List.range n).map (fun k =>
                    { start := s.dwell.nextStart + toPos (k * cell), dwell := 0, panel := s.dwell.tag })
                ∧ t.dwell.nextStart = s.dwell.nextStart + toPos (n * cell)
                ∧ t.dwell.exited = Nat.repeat satInc gone.length s.dwell.exited
                ∧ t.dwell.underset = Nat.repeat satInc (gone.countP fun c => decide (c.dwell < threshold)) s.dwell.underset
                ∧ (s.dwell.range = none → (∀ c ∈ gone, threshold ≤ c.dwell) →
                    t.dwell.range = none ∧ t.web.sent = s.web.sent ∧ t.dwell.announced = s.dwell.announced)
                ∧ ∀ (under met : List DwellCell) (first : UndersetRange), gone = under ++ met → (∀ c ∈ under, c.dwell < threshold) →
                  (∀ c ∈ met, threshold ≤ c.dwell) →
                  (match s.dwell.range with
                    | some r => first = r
                    | none => ∃ c, under.head? = some c ∧ first = { start := c.start, extent := 0 }) →
                  (∀ k c, under[k]? = some c → c.start = first.start + toPos (first.extent + k * cell)) →
                  first.extent + under.length * cell ≤ 65535 →
                    let whole := first.extent + under.length * cell
                    (met = [] →
                        t.dwell.range = some { start := first.start, extent := whole } ∧ t.web.sent = s.web.sent
                          ∧ t.dwell.announced = s.dwell.announced)
                      ∧ (met ≠ [] →
                        t.dwell.range = none ∧ t.web.sent = s.web.sent + 1 ∧ t.dwell.announced = satInc s.dwell.announced
                          ∧ (s.link.marks.length < 6 → s.ownId.val + 1 ≠ s.sets.line.n → s.port.state ≠ .silent →
                              t.link.marks = s.link.marks ++
                                [{ count := s.web.sent + 1, kind := 4, spare := false, origin := BitVec.ofNat 4 s.ownId.val
                                   position := first.start + toPos s.sets.feed.b, value := BitVec.ofNat 16 whole, roll := 0 }])))

/-- R90, R147, R151 to R154, the rewind's accounting at a pulse of O, without a spindle ready to cut to: the open panel closes at its
length end, or at an ABORT mark that leaves, is counted on the winding roll, and with no cells to wait for gets its verdict at once, GOOD
or REJECT, with its log entry; a PANEL mark that leaves opens a panel. That the counts of a roll go on past 65535 is the model's choice
(log 41). The same at a credit of w is stated in KnifePhases. R153, R154, the panels that wait, at a pulse whose web brings no exit and no
mark: each whose end + h O has reached gets its verdict, UNDERSET where the Dwell Table's open range overlaps it, is counted good or
reject on its roll where that record still holds the roll, and is logged; the others wait on. The model's choices: panels due at one pulse
are judged in the order of closing (log 47), an EMPTY record holds no roll, not even number 0 (log 46), and a panel that closed while no
spindle was WINDING is counted on no record (log 48). -/
def Obligations.PanelsAccounted : Prop :=
  (∀ (w : SpindleId) (s : State), s.cad.mode = .continuous → s.cad.begun = true → s.cad.pn ≠ 0 → 0 < s.rate.effective →
      s.knife.phase = .idle → s.KnifeObeys → s.web.bay = [] → s.web.span = [] → s.reg.expect = none →
      s.sets.line.standKind = .rewind → s.sets.line.role = .none → s.web.pn ≠ 0 → s.sets.box.zoneCount = 0 →
      s.stand.inState .winding = some w → s.stand.inState .synced = none → s.stand.overfill = false → s.stand.verdicts = [] →
      s.stand.log.length < 32 →
        let x := s.stand.spindle w
        let o := s.web.o + 1
        let closed := fun (t : State) (p : OpenPanel) (reasons : Reasons) =>
          (t.stand.spindle w).closed = x.closed + 1 ∧ (t.stand.spindle w).wound = satAdd32 x.wound 1 ∧ t.stand.verdicts = []
            ∧ (t.stand.spindle w).good = (if reasons.any then x.good else x.good + 1)
            ∧ (t.stand.spindle w).reject = (if reasons.any then x.reject + 1 else x.reject)
            ∧ t.stand.log = s.stand.log ++
              [{ number := p.number, roll := x.roll, reject := reasons.any, reasons := reasons, length := (o - p.start).toNat }]
            ∧ t.port.ip.getLsbD 1 = true
        (∀ p, s.stand.panel = some p → p.lengthEnd = o → s.web.outlet = [] → s.dwell.range = none →
            Completes .continuousPulse s fun t => t.stand.panel = none ∧ closed t p p.reasons)
          ∧ (∀ p m number, s.stand.panel = some p → s.web.outlet = [m] → m.body = .abort number → m.pos = o →
              atOrBeyond o p.lengthEnd = false → s.dwell.range = none →
                Completes .continuousPulse s fun t =>
                  t.stand.panel = none ∧ t.web.outlet = [] ∧ closed t p { p.reasons with aborted := true })
          ∧ (∀ m number, s.stand.panel = none → s.web.outlet = [m] → m.body = .panel number → m.pos = o → s.stand.reach = none →
              o ∉ s.stand.splicesLeft → s.web.pn < 2147483648 →
                Completes .continuousPulse s fun t =>
                  t.web.outlet = [] ∧ t.stand.log = s.stand.log
                    ∧ t.stand.panel = some
                      { number := number, start := o, lengthEnd := o + toPos s.web.pn, roll := x.roll, reasons := {} }))
    ∧ (∀ s : State, s.cad.mode = .continuous → s.cad.begun = true → s.cad.pn ≠ 0 → 0 < s.rate.effective → s.KnifeObeys → s.web.bay = [] →
        s.web.span = [] → s.web.outlet = [] → s.reg.expect = none → s.sets.line.standKind = .rewind → s.stand.inState .synced = none →
        s.stand.overfill = false →
          let o := s.web.o + 1
          let b := toPos s.sets.feed.b
          let h := if 0 < s.sets.box.zoneCount then s.sets.box.cell else 0
          (∀ p, s.stand.panel = some p → atOrBeyond o p.lengthEnd = false) →
          (∀ c, s.dwell.cells.head? = some c → atOrBeyond o (c.start + toPos (s.sets.box.cell + s.sets.feed.b)) = false) →
            Completes .continuousPulse s fun t =>
              let due := s.stand.verdicts.filter fun c => atOrBeyond o (c.stop + toPos h)
              let reasons := fun c : ClosedPanel =>
                if s.dwell.range.any (fun r => before (r.start + b) c.stop && beyond (r.start + b + toPos r.extent) c.start) = true then
                  { c.reasons with underset := true }
                else c.reasons
              t.stand.panel = s.stand.panel
                ∧ t.stand.verdicts = (s.stand.verdicts.filter fun c => !atOrBeyond o (c.stop + toPos h))
                ∧ (due ≠ [] → t.port.ip.getLsbD 1 = true)
                ∧ (s.stand.log.length + due.length ≤ 32 →
                    t.stand.log = s.stand.log ++ due.map (fun c =>
                      { number := c.number, roll := c.roll, reject := (reasons c).any, reasons := reasons c
                        length := (c.stop - c.start).toNat }))
                ∧ ∀ id : SpindleId,
                    let x := s.stand.spindle id
                    let mine := due.filter fun c => decide (c.spindle = some id ∧ c.roll = x.roll ∧ x.state ≠ .empty)
                    (t.stand.spindle id).good = x.good + (mine.filter fun c => !(reasons c).any).length
                      ∧ (t.stand.spindle id).reject = x.reject + (mine.filter fun c => (reasons c).any).length)

/-! ## Pulses and the knife -/

/-- R19, R21, R43, R45, R76, R78, the nip pulses: at its instant each, a feed pulse as well, advances I by 1 and, at an id above 0, starts
the rest timer; a FLAT step's and a continuous run's advance O by 1 as well, a feed pulse does not, unless its station comes to a set
latch. Where none is due nothing happens, which is the model's choice (log 1). R19, the pulses of a FLAT step at a station whose knife-
line crossings ask for no run: one fewer remains, and the last completes the cadence; where a panel ends there the planner goes on: that
the last pulse leaves the planner in PENDING where a SPLICE crosses at that very pulse is the model's choice (log 7, the step ends before
the crossings). R52, R57, a bridge: the pulse of its continuous run that brings the knife point to the bridge target, or past it, ends it,
and the planner is PENDING without a target and asks for a stepping run; any other pulse leaves the bridge, its target and the run as they
are. -/
def Obligations.PulsesAdvance : Prop :=
  (∀ s : State,
      (∀ c, s.cad.cur = some c → c.kind = .flat → c.complete = false → 0 < s.cad.remaining → 0 < s.rate.effective →
          Completes .flatStepPulse s fun t =>
            t.web.i = s.web.i + 1 ∧ (s.knife.phase = .idle → t.web.o = s.web.o + 1)
              ∧ t.now = max s.now (s.cad.base + (s.cad.idx + 1) * s.cad.trimmed / c.pitch)
              ∧ (s.ownId.val ≠ 0 → t.web.restDue = some (t.now + 200000)))
        ∧ (s.cad.mode = .continuous → s.cad.begun = true → s.cad.pn ≠ 0 → 0 < s.rate.effective →
          Completes .continuousPulse s fun t =>
            t.web.i = s.web.i + 1 ∧ (s.knife.phase = .idle → t.web.o = s.web.o + 1)
              ∧ t.now = max s.now (s.cad.base + (s.cad.idx + 1) * s.cad.panelPeriod / s.cad.pn)
              ∧ (s.ownId.val ≠ 0 → t.web.restDue = some (t.now + 200000)))
        ∧ (∀ c, s.knife.cycle = some c → s.knife.phase = .feed → s.knife.halted = false → 0 < c.remaining →
          Completes .feedPulse s fun t =>
            t.web.i = s.web.i + 1 ∧ t.now = max s.now (s.knife.base + (s.knife.idx + 1) * 1000000 / s.sets.feed.vFeed)
              ∧ t.knife.cycle = some { c with remaining := c.remaining - 1 }
              ∧ (s.ownId.val ≠ 0 → t.web.restDue = some (t.now + 200000))
              ∧ (t.rate.latch = false →
                  t.web.o = s.web.o
                    ∧ t.knife.phase = (if c.remaining = 1 then .tuck else .feed)
                    ∧ (c.remaining = 1 → t.knife.due = t.now + 1000 * s.sets.knife.tTuck)))
        ∧ ((s.cad.cur = none ∨ s.cad.remaining = 0 ∨ s.rate.effective = 0) → exec .flatStepPulse s = .next s)
        ∧ ((s.cad.mode ≠ .continuous ∨ s.cad.begun = false ∨ s.cad.pn = 0 ∨ s.rate.effective = 0) →
            exec .continuousPulse s = .next s)
        ∧ ((s.knife.phase ≠ .feed ∨ s.knife.halted = true ∨ s.knife.cycle = none) → exec .feedPulse s = .next s))
    ∧ (∀ (c : StepInfo) (s : State), s.cad.cur = some c → c.kind = .flat → c.complete = false → 0 < s.cad.remaining → 0 < s.rate.effective →
        s.sets.line.role ≠ .follower →
          Completes .flatStepPulse s fun t =>
            (1 < s.cad.remaining →
                t.cad = { s.cad with remaining := s.cad.remaining - 1, idx := s.cad.idx + 1, lastPulse := some t.now })
              ∧ (s.cad.remaining = 1 → c.last = false →
                  t.cad = { s.cad with
                    remaining := 0, idx := s.cad.idx + 1, lastPulse := some t.now, cur := some { c with complete := true } })
              ∧ (s.cad.remaining = 1 → c.last = true → s.leader.state = .panel →
                  t.leader.state = .pending ∧ t.leader.number = if s.leader.number = 65535 then 1 else s.leader.number + 1))
    ∧ (∀ s : State, s.cad.mode = .continuous → s.cad.begun = true → s.cad.pn ≠ 0 → 0 < s.rate.effective → s.leader.state = .bridge →
        s.sets.line.role = .leader →
          Completes .continuousPulse s fun t =>
            t.leader.number = s.leader.number
              ∧ (atOrBeyond (s.web.i + 1 - toPos s.sets.feed.a) s.leader.target = true →
                  t.leader.state = .pending ∧ t.leader.target = 0 ∧ t.leader.targetSet = false ∧ t.cad.mode = .stepping
                    ∧ t.cad.begun = false)
              ∧ (atOrBeyond (s.web.i + 1 - toPos s.sets.feed.a) s.leader.target = false →
                  t.leader.state = .bridge ∧ t.leader.target = s.leader.target ∧ t.leader.targetSet = s.leader.targetSet
                    ∧ t.cad = { s.cad with idx := s.cad.idx + 1, lastPulse := some t.now }))

/-- R44, R45, R47, the knife's timed phases: TUCK to PRESS; PRESS to RELEASE with O credited with w and the segment credited; RELEASE and
ABORTING to IDLE with the cycle record cleared. R90, R147, R151, R153, R154, the credit of w at the end of PRESS, where no mark awaits it
and there are no zones: the marks it makes due leave the outlet list in order, the later ones stay, and other stands than a rewind take
nothing of them. At a rewind that is LEADER or FOLLOWER the winding roll's wound length rises by w; the open panel closes at its length
end, or earlier at an ABORT or PANEL mark that leaves, is counted, judged and logged with that end; a PANEL mark that leaves opens its
panel, also behind an ABORT of the same credit. The model's choices: marks and a length end that one credit reaches are taken by their
positions (log 43, DEDUCED), and the counts of a roll go on past 65535 (log 41). That a row of another phase does nothing is the model's
choice (log 1). -/
def Obligations.KnifePhases : Prop :=
  (∀ s : State,
      (s.knife.phase = .tuck → exec .tuckEnd s = .next { s with
          now := max s.now s.knife.due, knife.phase := .press
          knife.due := max s.now s.knife.due + 1000 * s.sets.knife.tPress })
        ∧ (s.knife.phase = .press → Completes .pressEnd s fun t =>
            t.knife.phase = .release ∧ t.now = max s.now s.knife.due
              ∧ t.knife.due = max s.now s.knife.due + 1000 * s.sets.knife.tRelease ∧ t.knife.cycle = s.knife.cycle
              ∧ t.web.o = s.web.o + toPos s.cycleWidth ∧ t.web.seg = s.web.seg.credit ∧ t.web.i = s.web.i
              ∧ t.still = { s.still with now := t.now }
              ∧ (t.rate.latch = false → ∀ e ∈ t.web.bay, e.awaiting = false))
        ∧ (s.knife.phase = .release → exec .releaseEnd s = .next { s with
            now := max s.now s.knife.due, knife.phase := .idle, knife.cycle := none })
        ∧ (s.knife.phase = .aborting → exec .abortingEnd s = .next { s with
            now := max s.now s.knife.due, knife.phase := .idle, knife.cycle := none })
        ∧ (s.knife.phase ≠ .tuck → exec .tuckEnd s = .next s) ∧ (s.knife.phase ≠ .press → exec .pressEnd s = .next s)
        ∧ (s.knife.phase ≠ .release → exec .releaseEnd s = .next s)
        ∧ (s.knife.phase ≠ .aborting → exec .abortingEnd s = .next s))
    ∧ (∀ (gone stay : List Mark) (s : State), s.knife.phase = .press → s.web.bay = [] → s.sets.box.zoneCount = 0 →
        s.sets.line.standKind ≠ .rewind → s.web.outlet = gone ++ stay →
          let o := s.web.o + toPos s.cycleWidth
          (∀ m ∈ gone, atOrBeyond o m.pos = true) → (∀ m, stay.head? = some m → atOrBeyond o m.pos = false) →
            Completes .pressEnd s fun t => t.web.outlet = stay ∧ t.stand.panel = s.stand.panel ∧ t.stand.log = s.stand.log)
    ∧ (∀ (w : SpindleId) (s : State), s.knife.phase = .press → s.web.bay = [] → s.sets.box.zoneCount = 0 →
        s.sets.line.standKind = .rewind → s.sets.line.role ≠ .none → s.pat.q ≠ 0 → s.stand.inState .winding = some w →
        s.stand.inState .synced = none → s.stand.overfill = false → s.stand.verdicts = [] → s.stand.log.length < 32 →
        s.dwell.range = none →
          let o := s.web.o + toPos s.cycleWidth
          let x := s.stand.spindle w
          let wound := satAdd32 x.wound s.cycleWidth
          let logged := fun (t : State) (p : OpenPanel) (stop : Pos) (reasons : Reasons) =>
            (t.stand.spindle w).closed = x.closed + 1 ∧ (t.stand.spindle w).wound = wound ∧ t.stand.verdicts = [] ∧ t.web.outlet = []
              ∧ (t.stand.spindle w).good = (if reasons.any then x.good else x.good + 1)
              ∧ (t.stand.spindle w).reject = (if reasons.any then x.reject + 1 else x.reject)
              ∧ t.stand.log = s.stand.log ++
                [{ number := p.number, roll := x.roll, reject := reasons.any, reasons := reasons, length := (stop - p.start).toNat }]
              ∧ t.port.ip.getLsbD 1 = true
          let opens := fun (m : Mark) (number : BitVec 16) =>
            m.body = .panel number ∧ atOrBeyond o m.pos = true ∧ atOrBeyond o (m.pos + toPos s.pat.q) = false ∧ s.stand.reach = none
              ∧ m.pos ∉ s.stand.splicesLeft
          let opened := fun (m : Mark) (number : BitVec 16) => some
            ({ number := number, start := m.pos, lengthEnd := m.pos + toPos s.pat.q, roll := x.roll, reasons := {} } : OpenPanel)
          (s.stand.panel = none → s.web.outlet = [] →
              Completes .pressEnd s fun t =>
                t.stand.panel = none ∧ t.stand.log = s.stand.log ∧ t.stand.spindle w = { x with wound := wound })
            ∧ (∀ m number, s.stand.panel = none → s.web.outlet = [m] → opens m number →
              Completes .pressEnd s fun t =>
                t.stand.panel = opened m number ∧ t.stand.log = s.stand.log ∧ t.stand.spindle w = { x with wound := wound }
                  ∧ t.web.outlet = [])
            ∧ ∀ p, s.stand.panel = some p →
              (s.web.outlet = [] → atOrBeyond o p.lengthEnd = false →
                  Completes .pressEnd s fun t =>
                    t.stand.panel = some p ∧ t.stand.log = s.stand.log ∧ t.stand.spindle w = { x with wound := wound })
                ∧ (s.web.outlet = [] → atOrBeyond o p.lengthEnd = true →
                  Completes .pressEnd s fun t => t.stand.panel = none ∧ logged t p p.lengthEnd p.reasons)
                ∧ (∀ m number, s.web.outlet = [m] → m.body = .abort number → atOrBeyond o m.pos = true →
                    atOrBeyond m.pos p.lengthEnd = false →
                      Completes .pressEnd s fun t => t.stand.panel = none ∧ logged t p m.pos { p.reasons with aborted := true })
                ∧ (∀ m number, s.web.outlet = [m] → opens m number → atOrBeyond o p.lengthEnd = true →
                    atOrBeyond m.pos p.lengthEnd = true →
                      Completes .pressEnd s fun t => t.stand.panel = opened m number ∧ logged t p p.lengthEnd p.reasons)
                ∧ (∀ m number, s.web.outlet = [m] → opens m number → atOrBeyond m.pos p.lengthEnd = false →
                      Completes .pressEnd s fun t => t.stand.panel = opened m number ∧ logged t p m.pos p.reasons)
                ∧ ∀ m n m' number, s.web.outlet = [m, m'] → m.body = .abort n → atOrBeyond o m.pos = true → opens m' number →
                    atOrBeyond m.pos p.lengthEnd = false →
                      Completes .pressEnd s fun t =>
                        t.stand.panel = opened m' number ∧ logged t p m.pos { p.reasons with aborted := true })

/-! ## Fold registration -/

/-- R66, the fold sensor's filter: a raw change back to the filtered level cancels the channel's stability timer; one away from it starts
the timer, unless it runs, or changes the filtered level at once with a deskew time of 0; at the timer's expiry the filtered level takes
the raw one. Without a rise of the match nothing else moves; with a deskew time of 0 only the filtered level is said. The model's choices:
the match before the change is formed with the KNIFE set in force (log 40); a report of the level that stands, and the expiry of a timer
that does not run, do nothing (log 1). -/
def Obligations.FoldSensorFilters : Prop :=
  ∀ (ch : Fin 8) (level : Bool) (s : State),
    (level = s.reg.raw.getLsbD ch.val → exec (.foldSensorChange ch level) s = .next s)
      ∧ (level ≠ s.reg.raw.getLsbD ch.val → s.KnifeObeys →
        Completes (.foldSensorChange ch level) s fun t =>
          (∀ k : Fin 8, t.reg.raw.getLsbD k.val = if k = ch then level else s.reg.raw.getLsbD k.val)
            ∧ (level = s.reg.filtered.getLsbD ch.val →
                t.reg = { s.reg with raw := t.reg.raw, timers := s.reg.timers.set ch none })
            ∧ (level ≠ s.reg.filtered.getLsbD ch.val → 0 < s.sets.knife.deskew →
                t.reg = { s.reg with
                  raw := t.reg.raw
                  timers := s.reg.timers.set ch (some (s.reg.timers[ch].getD (s.now + 100 * s.sets.knife.deskew))) })
            ∧ (level ≠ s.reg.filtered.getLsbD ch.val → s.sets.knife.deskew = 0 →
                (∀ k : Fin 8, t.reg.filtered.getLsbD k.val = if k = ch then level else s.reg.filtered.getLsbD k.val)
                  ∧ t.reg.timers = s.reg.timers.set ch none)
            ∧ t.calm = s.calm ∧ t.still = { s.still with reg := t.reg })
      ∧ (s.reg.timers[ch] = none → exec (.deskewTimerExpiry ch) s = .next s)
      ∧ ∀ due, s.reg.timers[ch] = some due → s.KnifeObeys →
        Completes (.deskewTimerExpiry ch) s fun t =>
          t.now = max s.now due ∧ t.reg.timers = s.reg.timers.set ch none
            ∧ (∀ k : Fin 8, t.reg.filtered.getLsbD k.val = if k = ch then s.reg.raw.getLsbD ch.val else s.reg.filtered.getLsbD k.val)
            ∧ (matchOf s.sets.knife t.reg.filtered = false ∨ matchOf s.sets.knife s.reg.filtered = true →
                t.reg = { s.reg with filtered := t.reg.filtered, timers := t.reg.timers })
            ∧ t.calm = s.calm ∧ t.still = { s.still with now := t.now, reg := t.reg }

/-- R66, R67, R68, R71, a detection at a FOLLOWER with registration on, outside CONFIG, at a rise of the match, whether at a deskew
timer's expiry or, with a deskew time of 0, at the raw change itself: its record at I - aS enters the history, the oldest of eight going
first; an open expectation within the window takes it: the new correction is floor((C + e)/2), its change goes to U, and the miss count
returns to 0, with the REGISTRATION source when it was above 0. Anywhere else, and at no rise, nothing is detected. That the match before
the rise is formed with the KNIFE set in force is the model's choice (log 40). -/
def Obligations.DetectionCorrects : Prop :=
  (∀ (ch : Fin 8) (due : Nat) (s : State), s.reg.timers[ch] = some due → s.sets.line.role = .follower →
      s.sets.knife.registration = true → s.port.state ≠ .config → s.KnifeObeys → matchOf s.sets.knife s.reg.filtered = false →
        Completes (.deskewTimerExpiry ch) s fun t =>
          matchOf s.sets.knife t.reg.filtered = true →
            t.reg.detections = min (s.reg.detections + 1) 65535
              ∧ t.reg.history.map Detection.x =
                  (if s.reg.history.length < 8 then s.reg.history else s.reg.history.drop 1).map Detection.x
                    ++ [s.web.i - toPos s.sets.feed.aS]
              ∧ (∀ j, s.reg.expect = some j →
                  let e := (s.web.i - toPos s.sets.feed.aS - j.x).toInt
                  (-(s.sets.knife.window : Int) ≤ e ∧ e ≤ (s.sets.knife.window : Int) →
                      t.reg.expect = none ∧ t.reg.c = (s.reg.c + e).fdiv 2
                        ∧ t.reg.u = s.reg.u + ((s.reg.c + e).fdiv 2 - s.reg.c) ∧ t.reg.misses = 0 ∧ t.reg.lastErr = e
                        ∧ t.reg.accepted = min (s.reg.accepted + 1) 65535
                        ∧ t.reg.history.getLast?.map Detection.used = some true
                        ∧ (0 < s.reg.misses → t.port.ip.getLsbD 2 = true))
                    ∧ (¬(-(s.sets.knife.window : Int) ≤ e ∧ e ≤ (s.sets.knife.window : Int)) →
                      t.reg = { s.reg with
                        filtered := t.reg.filtered, timers := t.reg.timers, history := t.reg.history
                        detections := t.reg.detections }))
              ∧ (s.reg.expect = none →
                  t.reg = { s.reg with
                    filtered := t.reg.filtered, timers := t.reg.timers, history := t.reg.history, detections := t.reg.detections }
                    ∧ t.reg.history.getLast?.map Detection.used = some false))
    ∧ (∀ (ch : Fin 8) (level : Bool) (s : State), level ≠ s.reg.raw.getLsbD ch.val → level ≠ s.reg.filtered.getLsbD ch.val →
        s.sets.knife.deskew = 0 → s.KnifeObeys →
          Completes (.foldSensorChange ch level) s fun t =>
            let rises := matchOf s.sets.knife s.reg.filtered = false ∧ matchOf s.sets.knife t.reg.filtered = true
            let takes := s.sets.line.role = .follower ∧ s.sets.knife.registration = true ∧ s.port.state ≠ .config
            (¬(rises ∧ takes) → t.reg = { s.reg with raw := t.reg.raw, filtered := t.reg.filtered, timers := t.reg.timers })
              ∧ (rises → takes →
                  t.reg.detections = min (s.reg.detections + 1) 65535
                    ∧ t.reg.history.map Detection.x =
                        (if s.reg.history.length < 8 then s.reg.history else s.reg.history.drop 1).map Detection.x
                          ++ [s.web.i - toPos s.sets.feed.aS]
                    ∧ (∀ j, s.reg.expect = some j →
                        let e := (s.web.i - toPos s.sets.feed.aS - j.x).toInt
                        (-(s.sets.knife.window : Int) ≤ e ∧ e ≤ (s.sets.knife.window : Int) →
                            t.reg.expect = none ∧ t.reg.c = (s.reg.c + e).fdiv 2
                              ∧ t.reg.u = s.reg.u + ((s.reg.c + e).fdiv 2 - s.reg.c) ∧ t.reg.misses = 0 ∧ t.reg.lastErr = e
                              ∧ t.reg.accepted = min (s.reg.accepted + 1) 65535
                              ∧ t.reg.history.getLast?.map Detection.used = some true
                              ∧ (0 < s.reg.misses → t.port.ip.getLsbD 2 = true))
                          ∧ (¬(-(s.sets.knife.window : Int) ≤ e ∧ e ≤ (s.sets.knife.window : Int)) →
                            t.reg = { s.reg with
                              raw := t.reg.raw, filtered := t.reg.filtered, timers := t.reg.timers, history := t.reg.history
                              detections := t.reg.detections }))
                    ∧ (s.reg.expect = none →
                        t.reg = { s.reg with
                          raw := t.reg.raw, filtered := t.reg.filtered, timers := t.reg.timers, history := t.reg.history
                          detections := t.reg.detections }
                          ∧ t.reg.history.getLast?.map Detection.used = some false)))
    ∧ (∀ (ch : Fin 8) (due : Nat) (s : State), s.reg.timers[ch] = some due → s.KnifeObeys →
        s.sets.line.role ≠ .follower ∨ s.sets.knife.registration = false ∨ s.port.state = .config →
          Completes (.deskewTimerExpiry ch) s fun t => t.reg = { s.reg with filtered := t.reg.filtered, timers := t.reg.timers })

/-! ## The steam box -/

/-- R99, R100, R103, R105, R106, a converter expiry: each zone of the station takes its reading, temperature and sensor fault flag; a
heated zone over temperature or with a sensor fault goes to FAULT and gives up the drain; else its heater follows its target, a WARMING
zone's settle timer runs while it is in band, and a READY or OPEN zone out of band goes to WARMING. An OFF or FAULT zone only shows the
sample. That the four samples are taken together, before the Drain Arbiter could give a zone the drain that another has freed, is the
model's choice (log 34). -/
def Obligations.ZonesSampled : Prop :=
  ∀ (r0 r1 r2 r3 : BitVec 12) (s : State), s.KnifeObeys →
    Completes (.converterTimerExpiry r0 r1 r2 r3) s fun t =>
      t.now = max s.now s.box.converterDue ∧ t.box.converterDue = s.box.converterDue + 100000
        ∧ t.calm = { s.calm with choices := t.choices }
        ∧ t.still = { s.still with now := t.now, converterDue := t.box.converterDue }
        ∧ ∀ z : Fin 4, s.isZone z = true →
          let raw := (#v[r0, r1, r2, r3])[z]
          let b := s.sets.box
          let temp := b.base + raw.toNat * b.span / 4096
          let bad := raw = 0 ∨ raw = 4095
          let shown := { s.zone z with raw := raw, temp := temp, sensorFault := decide bad }
          let hot := b.zones[z].setpoint + b.margin < temp
          let inside := b.zones[z].setpoint ≤ temp + b.band ∧ temp ≤ b.zones[z].setpoint + b.band
          (t.zone z).raw = raw ∧ (t.zone z).temp = temp ∧ (t.zone z).sensorFault = decide bad
            ∧ ((s.zone z).state = .off ∨ (s.zone z).state = .fault → t.zone z = shown)
            ∧ ((s.zone z).state ≠ .off → (s.zone z).state ≠ .fault → hot ∨ bad →
                (t.zone z).state = .fault ∧ (t.zone z).heater = false ∧ (t.zone z).settle = none ∧ (t.zone z).faultTemp = temp
                  ∧ (¬bad → (t.zone z).cause = some .overtemperature) ∧ (¬hot → (t.zone z).cause = some .sensor)
                  ∧ (t.zone z).debt = (s.zone z).debt ∧ (t.zone z).counter = (s.zone z).counter
                  ∧ (t.zone z).change = some (.faulted, .fault) ∧ t.port.ip.getLsbD 3 = true ∧ t.box.owner ≠ some z)
            ∧ (¬hot → ¬bad →
                ((s.zone z).state = .warming →
                    t.zone z = { shown with
                      heater := if temp + b.hyst < b.zones[z].setpoint then true
                        else if b.zones[z].setpoint ≤ temp then false else (s.zone z).heater
                      settle := if inside then some ((s.zone z).settle.getD (t.now + 1000000 * b.settle)) else none })
                  ∧ ((s.zone z).state = .keepwarm →
                    t.zone z = { shown with
                      heater := if temp + b.hyst < b.zones[z].setpoint - b.drop then true
                        else if b.zones[z].setpoint - b.drop ≤ temp then false else (s.zone z).heater })
                  ∧ ((s.zone z).state = .purge →
                    t.zone z = { shown with
                      heater := if temp + b.hyst < b.zones[z].setpoint then true
                        else if b.zones[z].setpoint ≤ temp then false else (s.zone z).heater })
                  ∧ ((s.zone z).state = .ready ∨ (s.zone z).state = .open →
                    (¬inside → (t.zone z).state = .warming ∧ (t.zone z).settle = none)
                      ∧ (inside → (t.zone z).state ≠ .warming ∧ (t.zone z).state ≠ .fault)
                      ∧ (s.box.idle ≠ .expired →
                          (t.zone z).heater = if temp + b.hyst < b.zones[z].setpoint then true
                            else if b.zones[z].setpoint ≤ temp then false else (s.zone z).heater)))

/-- R103, R104, R110, R111, a settle timer expiry in WARMING: the zone is settled, with the ZONE source; it goes to OPEN with a debt below
3 while the rate is above 0, to READY at rate 0 without a debt, and to PURGE with a debt it may not open with when no other zone could ask
for the free drain. R110 names two outcomes where a zone with a debt of 1 or 2 enters READY at a rate above 0 with the drain free, and
that it is OPEN is the model's order (log 5, valves before the drain). That the row does nothing where no settle timer runs is the model's
choice (log 1). -/
def Obligations.ZoneSettles : Prop :=
  ∀ (z : Fin 4) (s : State),
    ((s.zone z).settle = none ∨ (s.zone z).state ≠ .warming → exec (.settleTimerExpiry z) s = .next s)
      ∧ ∀ due, (s.zone z).settle = some due → (s.zone z).state = .warming → s.KnifeObeys →
        Completes (.settleTimerExpiry z) s fun t =>
          let settled := { s.zone z with settle := none, change := some (.settled, .ready) }
          t.now = max s.now due ∧ t.calm = s.calm ∧ t.still = { s.still with now := t.now } ∧ t.port.ip.getLsbD 3 = true
            ∧ (0 < s.rate.effective → (s.zone z).debt < 3 → t.zone z = { settled with state := .open })
            ∧ (s.rate.effective = 0 → (s.zone z).debt = 0 → s.box.idle ≠ .expired → t.zone z = { settled with state := .ready })
            ∧ ((s.rate.effective = 0 ∧ 1 ≤ (s.zone z).debt ∨ 3 ≤ (s.zone z).debt) → s.box.owner = none →
                (∀ y : Fin 4, y ≠ z → (s.zone y).state ≠ .ready ∧ (s.zone y).state ≠ .open) →
                  t.zone z = { settled with state := .purge } ∧ t.box.owner = some z
                    ∧ t.box.purgeDue = t.now + 1000000 * s.sets.box.purgeTime)

/-- R108, R109, a seconds timer expiry: only an OPEN zone's counter falls; at 0 it is loaded again and the debt rises to at most 3, and a debt
that rises to 3 forces the zone to close, with the ZONE source and the forced-purge count. -/
def Obligations.SecondsPass : Prop :=
  ∀ s : State, s.KnifeObeys → s.ValvesFollow → s.DebtsBounded →
    Completes .secondsTimerExpiry s fun t =>
      t.now = max s.now s.box.secondsDue ∧ t.box.secondsDue = s.box.secondsDue + 1000000 ∧ t.calm = s.calm
        ∧ t.still = { s.still with now := t.now, secondsDue := t.box.secondsDue }
        ∧ ((∀ z : Fin 4, (s.zone z).state = .open → 1 < (s.zone z).counter) → t.box.forced = s.box.forced)
        ∧ ∀ z : Fin 4,
          ((s.zone z).state ≠ .open → (t.zone z).counter = (s.zone z).counter ∧ (t.zone z).debt = (s.zone z).debt)
            ∧ ((s.zone z).state = .open →
                (1 < (s.zone z).counter → t.zone z = { s.zone z with counter := (s.zone z).counter - 1 })
                  ∧ ((s.zone z).counter ≤ 1 →
                    (t.zone z).counter = s.sets.box.purgeInterval ∧ (t.zone z).debt = min ((s.zone z).debt + 1) 3
                      ∧ ((s.zone z).debt < 2 → (t.zone z).state = .open ∧ (t.zone z).change = (s.zone z).change)
                      ∧ ((s.zone z).debt = 2 →
                          (t.zone z).state ≠ .open ∧ (t.zone z).change = some (.forcedClose, .ready)
                            ∧ t.port.ip.getLsbD 3 = true ∧ (s.box.forced < 65535 → s.box.forced < t.box.forced)
                            ∧ (s.box.idle ≠ .expired → (t.zone z).state = .ready ∨ (t.zone z).state = .purge))))

/-- R110, R111, R112, a purge's end: the owner's debt is 0 and its counter loaded; in band at its latest sample it is READY, or OPEN while
the rate is above 0, else WARMING; and the drain goes to the requesting zone of the highest debt, the lowest number among equals, or stays
free exactly where no zone requests it. That the row does nothing where no purge runs is the model's choice (log 1), and so is that the
grant follows in the same step (log 5). -/
def Obligations.PurgeEnds : Prop :=
  ∀ s : State,
    (s.box.owner = none → exec .purgeTimerExpiry s = .next s)
      ∧ ∀ z : Fin 4, s.box.owner = some z → s.KnifeObeys →
        Completes .purgeTimerExpiry s fun t =>
          let b := s.sets.box
          let inside := b.zones[z].setpoint ≤ (s.zone z).temp + b.band ∧ (s.zone z).temp ≤ b.zones[z].setpoint + b.band
            ∧ (s.zone z).sensorFault = false
          t.now = max s.now s.box.purgeDue ∧ t.calm = s.calm ∧ t.still = { s.still with now := t.now }
            ∧ (¬inside → t.zone z = { s.zone z with debt := 0, counter := b.purgeInterval, state := .warming, settle := none })
            ∧ (inside → 0 < s.rate.effective → t.zone z = { s.zone z with debt := 0, counter := b.purgeInterval, state := .open })
            ∧ (inside → s.rate.effective = 0 → s.box.idle ≠ .expired →
                t.zone z = { s.zone z with debt := 0, counter := b.purgeInterval, state := .ready })
            ∧ t.box.owner ≠ some z
            ∧ (let asks := fun y : Fin 4 => y ≠ z ∧ 1 ≤ (s.zone y).debt
                ∧ ((s.zone y).state = .ready ∧ (s.rate.effective = 0 ∨ 3 ≤ (s.zone y).debt) ∨ (s.zone y).state = .open ∧ s.rate.effective = 0)
              ((∀ y : Fin 4, ¬asks y) → t.box.owner = none)
                ∧ ∀ y : Fin 4, asks y →
                  (∀ x : Fin 4, asks x → (s.zone x).debt < (s.zone y).debt ∨ (s.zone x).debt = (s.zone y).debt ∧ y ≤ x) →
                    t.box.owner = some y)
            ∧ (∀ y : Fin 4, t.box.owner = some y →
                (t.zone y).state = .purge ∧ 1 ≤ (t.zone y).debt ∧ t.box.purgeDue = t.now + 1000000 * b.purgeTime
                  ∧ ∀ x : Fin 4, (t.zone x).state = .ready → 1 ≤ (t.zone x).debt →
                      (t.zone x).debt < (t.zone y).debt ∨ (t.zone x).debt = (t.zone y).debt ∧ y < x)

/-- R114, R115, the idle timer's expiry: with every zone of the station off the steam and settled, keep-warm comes in force, and each
READY zone goes to KEEPWARM if its mask flag is set and OFF with its heater off if not; while a zone is WARMING or in PURGE it is not
entered. That the row does nothing where no idle timer runs is the model's choice (log 1). -/
def Obligations.KeepWarmEntered : Prop :=
  ∀ s : State,
    (s.box.idle = .stopped ∨ s.box.idle = .expired → exec .idleTimerExpiry s = .next s)
      ∧ ∀ due, s.box.idle = .running due → s.KnifeObeys →
        Completes .idleTimerExpiry s fun t =>
          t.now = max s.now due ∧ t.box.idle = .expired ∧ t.calm = s.calm ∧ t.still = { s.still with now := t.now }
            ∧ ((∃ z : Fin 4, s.isZone z = true ∧ ((s.zone z).state = .warming ∨ (s.zone z).state = .purge)) →
                t.box.inForce = s.box.inForce ∧ t.box.keepwarms = s.box.keepwarms)
            ∧ (s.port.state ≠ .config → s.box.inForce = false → 0 < s.sets.box.zoneCount → s.rate.effective = 0 →
                (∀ z : Fin 4, s.isZone z = true → (s.zone z).state ≠ .open ∧ (s.zone z).state ≠ .purge ∧ (s.zone z).state ≠ .warming
                  ∧ ((s.zone z).state = .ready → (s.zone z).debt = 0)) →
                  t.box.inForce = true ∧ t.box.keepwarms = satInc s.box.keepwarms ∧ t.box.change = some .keepWarmEntered
                    ∧ t.port.ip.getLsbD 3 = true
                    ∧ ∀ z : Fin 4, s.isZone z = true →
                      t.zone z = (if (s.zone z).state ≠ .ready then s.zone z
                        else if s.sets.box.mask.getLsbD z.val then { s.zone z with state := .keepwarm, settle := none }
                        else { s.zone z with state := .off, settle := none, heater := false }))

/-- R127, R128, a dwell timer expiry: outside CONFIG each cell whose midpoint lies in a zone that is OPEN gains 100 ms, up to 65535; nothing
else changes. -/
def Obligations.DwellAccrues : Prop :=
  ∀ s : State,
    let t := { s with now := max s.now s.dwell.dwellDue, dwell.dwellDue := s.dwell.dwellDue + 100000 }
    (s.port.state = .config → exec .dwellTimerExpiry s = .next t)
      ∧ (s.port.state ≠ .config → exec .dwellTimerExpiry s = .next { t with
          dwell.cells := s.dwell.cells.map fun c =>
            let depth := s.web.o - (c.start + toPos (s.sets.box.cell / 2))
            if ∃ z : Fin 4, s.isZone z = true ∧ (s.zone z).state = .open ∧ depth.toNat < 2147483648
                ∧ s.sets.box.lengthBelow z.val ≤ depth.toNat
                ∧ depth.toNat < s.sets.box.lengthBelow z.val + s.sets.box.zones[z].length then
              { c with dwell := min (c.dwell + 100) 65535 }
            else c })

/-! ## The roll stand -/

/-- R138, R140, R141, R145, R149, a stand timer expiry outside CONFIG: the distances from the effective rate; at the unwind a usable
spindle is armed when the remaining length is within the trigger distance, or to end a run-out hold, and without one the run-out hold is
set at the trigger and stopping distances together; at the rewind the overfill hold is set ahead of the maximum wound length. That the
change record of a ROLL LOW names the RUNNING or the WINDING spindle is the model's choice (log 15). -/
def Obligations.StandTested : Prop :=
  ∀ s : State, s.KnifeObeys → s.stand.verdicts = [] →
    Completes .standTimerExpiry s fun t =>
      t.now = max s.now s.stand.standDue ∧ t.stand.standDue = s.stand.standDue + 10000 ∧ t.calm = s.calm
        ∧ t.still = { s.still with now := t.now, standDue := t.stand.standDue }
        ∧ (s.port.state = .config ∨ s.sets.line.standKind = .none → t.stand = { s.stand with standDue := t.stand.standDue })
        ∧ (s.port.state ≠ .config → s.sets.line.standKind = .unwind →
            let e := s.rate.effective
            let l := s.inletLength
            let stop := e * l * e / (12000000 * s.sets.line.down)
            let trig := e * l * (1000 * s.sets.stand.tArm + s.sets.stand.tPaste) / 60000000 + stop + s.sets.stand.margin
            let base := { s.stand with standDue := t.stand.standDue, dStop := stop, dTrig := trig }
            ∀ id, s.stand.inState .running = some id →
              let x := s.stand.spindle id
              let other := s.stand.spindle (otherSpindle id)
              let usable := other.state = .loaded ∧ other.armFailed = false
              let left := x.length - x.consumed
              (usable → left ≤ trig ∨ s.stand.runOut = true →
                  t.stand = { base.setSpindle (otherSpindle id) { other with state := .arming } with
                    armDue := some (t.now + 1000000 * s.sets.stand.tArm), runOut := false })
                ∧ (¬usable → left ≤ trig + stop → other.state ≠ .arming → other.state ≠ .synced → s.stand.pasteDue = none →
                    s.stand.runOut = false →
                      t.stand = { base with
                          runOut := true, change := some { cause := .rollLow, spindle := id, roll := x.roll } }
                        ∧ t.port.ip.getLsbD 4 = true)
                ∧ (trig + stop < left → s.stand.runOut = false → t.stand = base))
        ∧ (s.port.state ≠ .config → s.sets.line.standKind = .rewind → 0 < s.rate.effective →
            let stop := s.rate.effective * s.outletLength * s.rate.effective / (12000000 * s.sets.line.down)
            t.stand.dStop = stop
              ∧ ∀ id, s.stand.inState .winding = some id →
                (s.sets.stand.target ≤ (s.stand.spindle id).closed → s.stand.inState .synced = none → s.stand.overfill = false →
                    s.sets.stand.maxWound ≤ (s.stand.spindle id).wound + stop →
                      t.stand.overfill = true ∧ t.port.ip.getLsbD 4 = true
                        ∧ t.stand.change = some { cause := .rollLow, spindle := id, roll := (s.stand.spindle id).roll })
                  ∧ ((s.stand.spindle id).closed < s.sets.stand.target →
                    t.stand = { s.stand with standDue := t.stand.standDue, dStop := stop }))

/-- R142, the at-speed inputs and the arming timer, while no overfill hold stands: a rise takes an ARMING spindle to SYNCED and stops the
timer; a fall takes a SYNCED one back to ARMING with the timer afresh, but not between a paste and its cut; the timer's expiry leaves the
spindle LOADED and arm-failed, with the ROLL source. That a change without such a spindle and the expiry of a timer that does not run do
nothing else is the model's choice (log 1). -/
def Obligations.ArmingEnds : Prop :=
  ∀ (id : SpindleId) (s : State), s.KnifeObeys → s.stand.verdicts = [] → s.stand.overfill = false →
    let x := s.stand.spindle id
    (∀ level, level = s.stand.speed id → exec (.atSpeedChange id level) s = .next s)
      ∧ (s.stand.speed id = false →
          Completes (.atSpeedChange id true) s fun t =>
            t.stand.speed id = true ∧ t.stand.speed (otherSpindle id) = s.stand.speed (otherSpindle id) ∧ t.calm = s.calm
              ∧ t.still = { s.still with speedA := t.stand.speedA, speedB := t.stand.speedB }
              ∧ (x.state = .arming → t.stand.spindle id = { x with state := .synced })
              ∧ (x.state = .arming → (s.stand.spindle (otherSpindle id)).state ≠ .loaded → t.stand.armDue = none)
              ∧ (x.state = .synced → t.stand.spindle id = x))
      ∧ (s.stand.speed id = true →
          Completes (.atSpeedChange id false) s fun t =>
            t.stand.speed id = false ∧ t.stand.speed (otherSpindle id) = s.stand.speed (otherSpindle id) ∧ t.calm = s.calm
              ∧ t.still = { s.still with speedA := t.stand.speedA, speedB := t.stand.speedB }
              ∧ (x.state = .synced → s.stand.pasteDue = none →
                  t.stand.spindle id = { x with state := .arming }
                    ∧ t.stand.armDue = some (s.now + 1000000 * s.sets.stand.tArm))
              ∧ (x.state = .synced → s.stand.pasteDue.isSome = true → t.stand.spindle id = x)
              ∧ (x.state = .arming → t.stand.spindle id = x))
      ∧ (s.stand.armDue = none ∨ s.stand.inState .arming = none → exec .armingTimerExpiry s = .next s)
      ∧ ∀ due, s.stand.armDue = some due → s.stand.inState .arming = some id →
          Completes .armingTimerExpiry s fun t =>
            t.now = max s.now due ∧ t.stand.spindle id = { x with state := .loaded, armFailed := true }
              ∧ t.stand.change = some { cause := .armFailed, spindle := id, roll := x.roll } ∧ t.port.ip.getLsbD 4 = true
              ∧ t.calm = s.calm ∧ t.still = { s.still with now := t.now }
              ∧ (s.sets.line.standKind = .unwind → t.stand.armDue = none)

/-- R143, the paste: it waits for a SYNCED spindle at an ACTIVE unwind at or below the cap with the latch clear; then the joint is at I +
dP and the paste timer runs; at role NONE the SPLICE mark is announced at once, else it waits in the bay queue, and a LEADER holds its
guard. R139, R146, an unwind's advance of I: the RUNNING spindle's consumed length rises by 1, and a pulse taken with no length remaining
raises RUN_OUT, with the latch and the stop cause, or a further fault in FAULT. That a PASTE row that must wait does nothing is the
model's choice (logs 1 and 4), and so is that a consumed length stays at its bound (log 28). -/
def Obligations.UnwindPastesAndConsumes : Prop :=
  (∀ s : State,
      (s.sets.line.standKind ≠ .unwind ∨ s.stand.inState .synced = none ∨ s.stand.pasteDue.isSome = true
          ∨ s.sets.stand.cap < s.rate.effective ∨ s.port.state ≠ .active ∨ s.rate.latch = true → exec .paste s = .next s)
        ∧ ∀ id, s.sets.line.standKind = .unwind → s.stand.inState .synced = some id → s.stand.pasteDue = none →
            s.rate.effective ≤ s.sets.stand.cap → s.port.state = .active → s.rate.latch = false → s.stand.verdicts = [] →
              Completes .paste s fun t =>
                let joint := s.web.i + toPos s.sets.stand.dP
                let roll := (s.stand.spindle id).roll
                t.stand.joint = joint ∧ t.stand.pasteDue = some (s.now + 1000 * s.sets.stand.tPaste) ∧ t.web.i = s.web.i
                  ∧ t.stand.spindle id = s.stand.spindle id ∧ (s.knife.phase ≠ .tuck → t.web.o = s.web.o) ∧ t.now = s.now
                  ∧ (s.sets.line.role = .none → s.knife.phase = .idle →
                      t.stand.pastes = satInc s.stand.pastes ∧ t.web.sent = s.web.sent + 1 ∧ t.web.bay = s.web.bay
                        ∧ (s.ownId.val + 1 ≠ s.sets.line.n → s.link.marks.length < 6 →
                            t.link.marks = s.link.marks ++
                              [{ count := s.web.sent + 1, kind := 1, spare := false, origin := BitVec.ofNat 4 s.ownId.val
                                 position := joint + toPos s.sets.feed.b, value := 0, roll := roll }]))
                  ∧ (s.sets.line.role ≠ .none → s.web.bay = [] → 0 < s.sets.stand.dP + s.sets.feed.a →
                      s.sets.stand.dP + s.sets.feed.a < 2147483648 →
                        t.web.bay = [{ mark := { body := .splice roll, origin := 0, pos := joint }, awaiting := false }]
                          ∧ t.stand.pastes = s.stand.pastes ∧ t.link.marks = s.link.marks
                          ∧ (s.sets.line.role = .leader → t.leader.held = some joint)
                          ∧ (s.sets.line.role = .follower → s.leader.state = .off → t.leader = s.leader)))
    ∧ (∀ (id : SpindleId) (s : State), s.cad.mode = .continuous → s.cad.begun = true → s.cad.pn ≠ 0 → 0 < s.rate.effective →
        s.knife.phase = .idle → s.web.bay = [] → s.web.span = [] → s.reg.expect = none → s.sets.box.zoneCount = 0 →
        s.sets.line.standKind = .unwind → s.stand.inState .running = some id → s.stand.verdicts = [] →
          Completes .continuousPulse s fun t =>
            let x := s.stand.spindle id
            t.stand.spindle id = { x with consumed := min (x.consumed + 1) 4294967295 }
              ∧ t.stand.spindle (otherSpindle id) = s.stand.spindle (otherSpindle id)
              ∧ (x.consumed < x.length → t.port.fault = s.port.fault ∧ t.rate.latch = s.rate.latch)
              ∧ (x.length ≤ x.consumed → s.port.state = .joining ∨ s.port.state = .active →
                  t.port.state = .fault ∧ t.rate.latch = true ∧ t.rate.effective = 0
                    ∧ t.rate.cause = some { origin := .fault, reason := 7 }
                    ∧ t.port.fault.map FaultRecord.first = some (.runOut id x.roll))
              ∧ (x.length ≤ x.consumed → s.port.state = .fault → s.port.fault.isSome = true →
                  t.port.fault = s.port.fault.map fun r => { r with further := true }))

/-- R144, the roll change at the paste timer's expiry: the SYNCED spindle runs with a consumed length of 0, the RUNNING one is SPENT, the
splice count rises, the cut actuator pulses for 100 ms, and the ROLL source is set with SPLICE DONE; the pulse ends by itself. That the
rows do nothing where no paste timer and no cut pulse runs is the model's choice (log 1). -/
def Obligations.RollChanges : Prop :=
  ∀ s : State,
    (s.stand.pasteDue = none → exec .pasteTimerExpiry s = .next s)
      ∧ (∀ due id, s.stand.pasteDue = some due → s.stand.inState .synced = some id → s.KnifeObeys → s.stand.verdicts = [] →
          s.sets.line.standKind = .unwind → (s.stand.spindle (otherSpindle id)).state = .running →
            Completes .pasteTimerExpiry s fun t =>
              t.now = max s.now due ∧ t.stand.spindle id = { s.stand.spindle id with state := .running, consumed := 0 }
                ∧ t.stand.spindle (otherSpindle id) = { s.stand.spindle (otherSpindle id) with state := .spent }
                ∧ t.stand.pasteDue = none ∧ t.stand.splices = satInc s.stand.splices ∧ t.stand.cutDue = some (t.now + 100000)
                ∧ t.stand.change.map RollChange.cause = some .spliceDone ∧ t.port.ip.getLsbD 4 = true
                ∧ t.stand.joint = s.stand.joint ∧ t.calm = s.calm ∧ t.still = { s.still with now := t.now })
      ∧ (s.stand.cutDue = none → exec .cutPulseEnd s = .next s)
      ∧ ∀ due, s.stand.cutDue = some due →
          exec .cutPulseEnd s = .next { s with now := max s.now due, stand.cutDue := none }

/-- R147, R148, R150, R151, R153, R154, the rewind's cut: at a PANEL mark that leaves while a spindle is SYNCED, at the maximum wound
length, and at rest under the overfill hold the winding spindle is FULL, the other winds from 0 with its counts at 0, the cut pulse runs,
the ROLL source is set with TRANSFER DONE, and the open panel closes at the mark, or as SPLIT, counted on the old roll, judged at once
where no cells stand, and logged. R150, R152, the reasons: a MISSFOLD or SPLICE mark that leaves inside an open panel flags it, an
UNDERSET mark flags every panel its extent overlaps, those that wait included, and reaches on to panels that open later; a panel that
opens is flagged by the extent that reaches past its start and by a splice that left at its own position, whatever has left in between, a
late PANEL mark included. The model's choices: the transfer count rises at every cut (log 31), a spindle's arm-failed flag stays through a
cut (log 23, DEDUCED), the positions of the splices that have left are held while O is at or beyond them (log 14), the cut at maximum is
made also where the length was there before the spindle was SYNCED (log 45), and the counts of a roll have no bound (log 41). -/
def Obligations.RewindCutsAndFlags : Prop :=
  (∀ (w : SpindleId) (s : State), s.sets.line.standKind = .rewind → s.sets.line.role = .none → s.web.pn ≠ 0 → s.web.pn < 2147483648 →
      s.sets.box.zoneCount = 0 → s.dwell.range = none → s.stand.verdicts = [] → s.stand.log.length < 32 → s.rate.latch = false →
      s.stand.inState .winding = some w →
        let x := s.stand.spindle w
        let y := s.stand.spindle (otherSpindle w)
        let cut := fun t : State =>
          (t.stand.spindle w).state = .full
            ∧ t.stand.spindle (otherSpindle w) = { y with state := .winding, wound := 0, closed := 0, good := 0, reject := 0 }
            ∧ t.stand.transfers = satInc s.stand.transfers ∧ t.stand.overfill = false ∧ t.stand.armDue = none
            ∧ t.stand.cutDue = some (t.now + 100000) ∧ t.port.ip.getLsbD 4 = true
            ∧ t.stand.change.map RollChange.cause = some .transferDone
        let ends := fun (t : State) (stop : Pos) (flag : Reasons → Reasons) =>
          (t.stand.spindle w).closed = x.closed + (if s.stand.panel.isSome then 1 else 0) ∧ t.stand.verdicts = []
            ∧ t.stand.log = s.stand.log ++ (s.stand.panel.toList.map fun p =>
                { number := p.number, roll := x.roll, reject := (flag p.reasons).any, reasons := flag p.reasons
                  length := (stop - p.start).toNat })
        (s.cad.mode = .continuous → s.cad.begun = true → s.cad.pn ≠ 0 → 0 < s.rate.effective → s.knife.phase = .idle →
          s.web.bay = [] → s.web.span = [] → s.reg.expect = none → y.state = .synced →
          (∀ p, s.stand.panel = some p → atOrBeyond (s.web.o + 1) p.lengthEnd = false) →
            (∀ m number, s.web.outlet = [m] → m.body = .panel number → m.pos = s.web.o + 1 →
                min (x.wound + 1) 4294967295 < s.sets.stand.maxWound → s.stand.reach = none → m.pos ∉ s.stand.splicesLeft →
                  Completes .continuousPulse s fun t =>
                    cut t ∧ ends t m.pos id ∧ (t.stand.spindle w).wound = min (x.wound + 1) 4294967295 ∧ t.web.outlet = []
                      ∧ t.stand.panel = some
                        { number := number, start := m.pos, lengthEnd := m.pos + toPos s.web.pn, roll := y.roll, reasons := {} })
              ∧ (s.web.outlet = [] → s.sets.stand.maxWound ≤ min (x.wound + 1) 4294967295 →
                  Completes .continuousPulse s fun t =>
                    cut t ∧ ends t (s.web.o + 1) (fun r => { r with split := true }) ∧ t.stand.panel = none))
          ∧ (∀ due, s.web.restDue = some due → s.stand.overfill = true → s.port.state = .active → s.rate.effective = 0 →
              y.state = .loaded ∨ y.state = .arming ∨ y.state = .synced →
              (∀ p, s.stand.panel = some p → atOrBeyond s.web.o p.lengthEnd = false) →
                Completes .restTimerExpiry s fun t =>
                  cut t ∧ ends t s.web.o (fun r => { r with split := true }) ∧ t.stand.panel = none))
    ∧ (∀ (m : Mark) (s : State), s.cad.mode = .continuous → s.cad.begun = true → s.cad.pn ≠ 0 → 0 < s.rate.effective →
        s.knife.phase = .idle → s.web.bay = [] → s.web.span = [] → s.reg.expect = none → s.sets.line.standKind = .rewind →
        s.sets.line.role = .none → s.web.pn ≠ 0 → s.web.pn < 2147483648 → s.stand.inState .synced = none →
        s.sets.box.zoneCount = 0 ∨ s.dwell.cells = [] ∧ atOrBeyond (s.web.o + 1) s.dwell.nextStart = false →
        (∀ c ∈ s.stand.verdicts, atOrBeyond (s.web.o + 1) (c.stop + toPos s.verdictWait) = false) → s.web.outlet = [m] →
          let held := fun t : State => ∀ q ∈ s.stand.splicesLeft, atOrBeyond (s.web.o + 1) q = true → q ∈ t.stand.splicesLeft
          (∀ p, s.stand.panel = some p → atOrBeyond (s.web.o + 1) m.pos = true → before m.pos p.lengthEnd = true →
            atOrBeyond (s.web.o + 1) p.lengthEnd = false →
              (m.body = .missfold → Completes .continuousPulse s fun t =>
                  t.web.outlet = [] ∧ t.stand.panel = some { p with reasons := { p.reasons with missfold := true } })
                ∧ (∀ roll, m.body = .splice roll → Completes .continuousPulse s fun t =>
                    t.web.outlet = [] ∧ t.stand.panel = some { p with reasons := { p.reasons with splice := true } })
                ∧ (∀ extent, m.body = .underset extent → Completes .continuousPulse s fun t =>
                    let past := m.pos + toPos extent.toNat
                    t.web.outlet = []
                      ∧ t.stand.panel = some
                        (if beyond past p.start = true then { p with reasons := { p.reasons with underset := true } } else p)
                      ∧ t.stand.verdicts = s.stand.verdicts.map (fun c =>
                        if before m.pos c.stop = true ∧ beyond past c.start = true then
                          { c with reasons := { c.reasons with underset := true } } else c)
                      ∧ t.stand.reach = some (match s.stand.reach with
                        | none => past
                        | some r => if beyond past r = true then past else r)))
            ∧ (∀ roll, m.body = .splice roll → atOrBeyond (s.web.o + 1) m.pos = true → Completes .continuousPulse s fun t =>
                m.pos ∈ t.stand.splicesLeft ∧ held t)
            ∧ (∀ number, s.stand.panel = none → m.body = .panel number → atOrBeyond (s.web.o + 1) m.pos = true →
              atOrBeyond (s.web.o + 1) (m.pos + toPos s.web.pn) = false →
                Completes .continuousPulse s fun t =>
                  t.web.outlet = [] ∧ held t ∧ (t.stand.panel.map fun p => (p.number, p.start)) = some (number, m.pos)
                    ∧ (t.stand.panel.map OpenPanel.reasons) = some
                      { underset := (s.stand.reach.map fun r => before m.pos r).getD false
                        splice := decide (m.pos ∈ s.stand.splicesLeft) }))

/-! ## The line link -/

/-- R157, R160, R163, R164, R167, R168, what is sent: a Link Controller that is on sends in JOINING, ACTIVE and FAULT, one frame at a
time, the STOP or RESUME first, then the oldest MARK, then an ADVANCE with its fields as they stand at its start; R1, R116, R168, its
flags bit by bit: a component's flag is set where the component is the least of the five and below the station maximum, and the other four
are keep-warm, FAULT, JOINING and the stop latch; a publication expiry hands an ADVANCE request, and the first idle turns the Link
Controller on. R160 to R162, R164, how a transmission ends: lost, the frame stays in its slot; failed, it stays and the failure count
rises, and the 16th in a row silences the station: the buffer is emptied, the publication timer stops, the LINK source is set; sent, it
leaves its slot unless a newer frame has replaced it there, and the failure count is 0. The model's choices: a publication expiry counts
an overrun while an ADVANCE is on the link as well (log 20, DEDUCED), and the rows without a frame or a timer do nothing (log 1). -/
def Obligations.TransmissionsRun : Prop :=
  (∀ s : State,
      (s.link.mode ≠ .on ∨ s.port.state = .config ∨ s.port.state = .silent ∨ s.link.onLink.isSome = true
          ∨ (s.link.stopResume = none ∧ s.link.marks = [] ∧ s.link.advance = false) → exec .transmissionStart s = .next s)
        ∧ (s.link.mode = .on → s.port.state = .joining ∨ s.port.state = .active ∨ s.port.state = .fault → s.link.onLink = none →
            (∀ reason, s.link.stopResume = some (.stop reason) → exec .transmissionStart s = .next { s with
                link.onLink := some { slot := .stopResume, body := .stop reason, began := s.now, replaced := false } })
              ∧ (s.link.stopResume = some .resume → exec .transmissionStart s = .next { s with
                link.onLink := some { slot := .stopResume, body := .resume, began := s.now, replaced := false } })
              ∧ (∀ m ms, s.link.stopResume = none → s.link.marks = m :: ms → exec .transmissionStart s = .next { s with
                link.onLink := some { slot := .mark, body := .mark m, began := s.now, replaced := false } })
              ∧ (s.link.stopResume = none → s.link.marks = [] → s.link.advance = true → exec .transmissionStart s = .next { s with
                link.onLink := some
                  { slot := .advance
                    body := .advance
                      { state := BitVec.ofNat 8 (stationCode s.port.state), limit := BitVec.ofNat 16 s.rate.own
                        rate := BitVec.ofNat 16 s.rate.effective, outlet := s.web.o, inLen := BitVec.ofNat 32 s.inletLength
                        outLen := BitVec.ofNat 32 s.outletLength, sent := s.web.sent, flags := s.advanceFlags }
                    began := s.now, replaced := false } }))
        ∧ (s.link.pubDue = none → exec .publicationTimerExpiry s = .next s)
        ∧ (∀ due, s.link.pubDue = some due → s.port.state ≠ .silent → exec .publicationTimerExpiry s = .next { s with
            now := max s.now due, link.pubDue := some (due + 10000), link.advance := true
            link.onLink := s.link.replacedIn .advance
            link.pubOverruns := if s.link.advance then satInc s.link.pubOverruns else s.link.pubOverruns })
        ∧ exec .linkJoinIdle s = .next { s with link.mode := if s.link.mode = .waiting then .on else s.link.mode })
    ∧ (∀ s : State, s.link.mode = .on → s.port.state = .joining ∨ s.port.state = .active ∨ s.port.state = .fault → s.link.onLink = none →
        s.link.stopResume = none → s.link.marks = [] → s.link.advance = true →
          Completes .transmissionStart s fun t =>
            let r := s.rate
            let least := min r.stationMax (min r.knifeLimit (min r.setLimit (min r.standLimit r.dancerLimit)))
            let flagged := fun component : Nat => decide (component = least ∧ least < r.stationMax)
            ∃ a : AdvancePayload,
              t.link.onLink = some { slot := .advance, body := .advance a, began := s.now, replaced := false }
                ∧ a.flags.getLsbD 7 = flagged r.knifeLimit ∧ a.flags.getLsbD 6 = flagged r.setLimit
                ∧ a.flags.getLsbD 5 = flagged r.standLimit ∧ a.flags.getLsbD 4 = flagged r.dancerLimit
                ∧ a.flags.getLsbD 3 = s.box.inForce ∧ a.flags.getLsbD 2 = decide (s.port.state = .fault)
                ∧ a.flags.getLsbD 1 = decide (s.port.state = .joining) ∧ a.flags.getLsbD 0 = r.latch
                ∧ (s.port.state = .joining → a.state = 1) ∧ (s.port.state = .active → a.state = 2) ∧ (s.port.state = .fault → a.state = 3))
    ∧ (∀ s : State,
        (s.link.onLink = none →
            exec .arbitrationLost s = .next s ∧ exec .transmitFailure s = .next s ∧ exec .transmissionSuccess s = .next s)
          ∧ ∀ f, s.link.onLink = some f →
            exec .arbitrationLost s = .next { s with link.onLink := none, link.lost := satInc s.link.lost }
              ∧ (s.link.failures < 15 →
                  exec .transmitFailure s = .next { s with link.onLink := none, link.failures := s.link.failures + 1 })
              ∧ (15 ≤ s.link.failures → s.KnifeObeys →
                  Completes .transmitFailure s fun t =>
                    t.port.state = .silent ∧ t.port.ip.getLsbD 0 = true ∧ t.rate.own = 0
                      ∧ t.calm = { s.calm with
                          link := { s.link with
                            onLink := none, failures := 16, advance := false, stopResume := none, marks := [], pubDue := none
                            change := some { cause := .silent, peer := none, rxErrors := s.link.rxErrors } } }
                      ∧ t.still = { s.still with failures := 16, pubDue := none })
              ∧ exec .transmissionSuccess s = .next { s with
                  now := max s.now (f.began + frameLength f.body)
                  link := { s.link with
                    onLink := none, failures := 0
                    stopResume := if f.slot = .stopResume ∧ f.replaced = false then none else s.link.stopResume
                    advance := if f.slot = .advance ∧ f.replaced = false then false else s.link.advance
                    marks := if f.slot = .mark then s.link.marks.drop 1 else s.link.marks } })

/-- R173, R174, R175, R178, an ADVANCE of a peer in its record: LIVE with its age and staleness timer afresh and its frame counted, the
fields of every peer and the further fields of a neighbour, a record that was not LIVE emptied first; a return from STALE sets the LINK
source; no other record changes. R91, R93, from the upstream neighbour: its count becomes the marks-received count with the baseline set,
and a count that differs from a set baseline is MARK_GAP in JOINING and ACTIVE; that the gap is the first fault of the record, also where
the same ADVANCE shows a mismatched panel length, is the model's choice (log 35, the count checked first). R117, R118, keep-warm in force:
it is left at an ADVANCE after which the LIVE records meet the peer condition, with its KEEPWARM and OFF zones WARMING, a zone in FAULT as
it was, the idle timer afresh and the ZONE source, and stays in force at one after which they do not. -/
def Obligations.AdvanceEntered : Prop :=
  (∀ (id : StationId) (a : AdvancePayload) (s : State), s.link.mode = .on → id.val < s.sets.line.n → id ≠ s.ownId →
      Completes (.advanceFrame id a) s fun t =>
        let old := if (s.peer id).presence = .live then s.peer id else { frames := (s.peer id).frames }
        let heard := { old with
          presence := .live, heardAt := s.now, staleDue := some (s.now + 50000), frames := satInc (s.peer id).frames
          lastLimit := a.limit.toNat, lastRate := a.rate.toNat, lastState := a.state, flags := a.flags }
        t.peer id =
            (if id.val + 1 = s.ownId.val ∨ id.val = s.ownId.val + 1 then
              { heard with
                hist0 := some { outlet := a.outlet, rate := a.rate }, hist1 := old.hist0
                inLen := a.inLen.toNat, outLen := a.outLen.toNat, sent := a.sent }
            else heard)
          ∧ (∀ y : StationId, y ≠ id → t.peer y = s.peer y) ∧ t.now = s.now
          ∧ ((s.peer id).presence = .stale → t.port.ip.getLsbD 0 = true
              ∧ t.link.change = some { cause := .recovered, peer := some id, rxErrors := s.link.rxErrors })
          ∧ ((s.peer id).presence ≠ .stale → t.link.change = s.link.change)
          ∧ (id.val + 1 ≠ s.ownId.val →
              t.web.received = s.web.received ∧ t.web.baseline = s.web.baseline ∧ t.web.k = s.web.k)
          ∧ (id.val + 1 = s.ownId.val →
              t.web.received = a.sent ∧ t.web.baseline = true
                ∧ (s.web.baseline = true → a.sent ≠ s.web.received → s.port.state = .joining ∨ s.port.state = .active →
                    t.port.state = .fault ∧ t.rate.latch = true
                      ∧ t.port.fault.map FaultRecord.first = some (.markGap s.web.received a.sent id))))
    ∧ (∀ (id : StationId) (a : AdvancePayload) (s : State), s.link.mode = .on → id.val < s.sets.line.n → id ≠ s.ownId →
        s.box.inForce = true → Completes (.advanceFrame id a) s fun t => LeftByPeers s t)

/-- R78, R79, R150, rest: the rest timer's expiry makes the station quiet, and at a rewind whose overfill hold waits for it cuts over at
rest; an ADVANCE of the upstream neighbour at rest latches K at U - I - L_span. The model's choices: the transfer count rises at the cut
at rest too (log 31), the rest test comes before the panel lengths are compared, whose fault could set the rate 0 (log 35), and the row
does nothing where no rest timer runs (log 1). -/
def Obligations.RestLatchesK : Prop :=
  (∀ s : State,
    (s.web.restDue = none → exec .restTimerExpiry s = .next s)
      ∧ ∀ due, s.web.restDue = some due → s.KnifeObeys →
        Completes .restTimerExpiry s fun t =>
          t.now = max s.now due ∧ t.calm = { s.calm with web := { s.web with restDue := none } }
            ∧ t.still = { s.still with now := t.now, restDue := none }
            ∧ (s.sets.line.standKind = .rewind → s.stand.overfill = true → s.port.state = .active → s.rate.latch = false →
                s.rate.effective = 0 → ∀ id, s.stand.inState .winding = some id →
                  (s.stand.spindle (otherSpindle id)).state = .loaded ∨ (s.stand.spindle (otherSpindle id)).state = .arming
                    ∨ (s.stand.spindle (otherSpindle id)).state = .synced →
                      (t.stand.spindle id).state = .full ∧ (t.stand.spindle (otherSpindle id)).state = .winding
                        ∧ (t.stand.spindle (otherSpindle id)).wound = 0 ∧ t.stand.overfill = false ∧ t.stand.panel = none
                        ∧ t.stand.transfers = satInc s.stand.transfers ∧ t.stand.cutDue = some (t.now + 100000)))
    ∧ ∀ (id : StationId) (a : AdvancePayload) (s : State), s.link.mode = .on → id.val + 1 = s.ownId.val → id.val < s.sets.line.n →
      Completes (.advanceFrame id a) s fun t =>
        ((s.rate.effective = 0 ∧ s.web.restDue = none ∧ a.rate = 0 ∧ (s.peer id).presence = .live
              ∧ (s.peer id).hist0 = some { outlet := a.outlet, rate := 0 }) →
            t.web.latched = true ∧ t.web.latches = satInc s.web.latches
              ∧ t.web.k = a.outlet - s.web.i
                  - toPos (s.sets.feed.s0 + s.cad.sample.getD s.sets.feed.setpoint * s.sets.feed.scale))
          ∧ ((s.web.restDue ≠ none ∨ a.rate ≠ 0 ∨ (s.peer id).presence ≠ .live ∨ (s.peer id).hist0 = none
                ∨ (s.peer id).hist0.any (fun h => decide (h.outlet ≠ a.outlet ∨ h.rate ≠ 0)) = true
                ∨ 0 < s.rate.effective ∧ (s.web.baseline = false ∨ a.sent = s.web.received)) →
            t.web.k = s.web.k ∧ t.web.latched = s.web.latched ∧ t.web.latches = s.web.latches)

/-- R64, R95, R96, the panel lengths a neighbour publishes: a FOLLOWER in JOINING is matched by its own P and faulted by another; a role
NONE station adopts the upstream outlet length, or at id 0 the downstream inlet length, and is faulted by a later upstream length that
differs. That a FOLLOWER is unmatched by 0 is the model's choice (log 25, DEDUCED). A mismatch with the downstream neighbour and the
downstream adoption of an interior station are left out. -/
def Obligations.PanelLengthsMatch : Prop :=
  ∀ (id : StationId) (a : AdvancePayload) (s : State), s.link.mode = .on → id.val < s.sets.line.n → id ≠ s.ownId →
    (s.web.baseline = true → s.web.received = a.sent) →
      Completes (.advanceFrame id a) s fun t =>
        (s.sets.line.role = .follower → s.port.state = .joining → id.val + 1 = s.ownId.val → s.web.span = [] →
            (a.outLen.toNat = 0 → t.follower.matched = false)
              ∧ (a.outLen.toNat ≠ 0 → a.outLen.toNat = s.pat.p → t.follower.matched = true)
              ∧ (a.outLen.toNat ≠ 0 → a.outLen.toNat ≠ s.pat.p →
                  t.port.state = .fault ∧ t.rate.latch = true
                    ∧ t.port.fault.map FaultRecord.first = some (.patternMismatch s.pat.p a.outLen.toNat id)))
          ∧ (s.sets.line.role = .none →
            (id.val + 1 = s.ownId.val → s.web.pn = 0 → a.outLen ≠ 0 → t.web.pn = a.outLen.toNat ∧ t.cad.pn = a.outLen.toNat)
              ∧ (s.ownId.val = 0 → id.val = 1 → s.web.pn = 0 → t.web.pn = a.inLen.toNat ∧ t.cad.pn = a.inLen.toNat)
              ∧ (s.web.pn ≠ 0 → t.web.pn = s.web.pn)
              ∧ (id.val + 1 = s.ownId.val → s.web.pn ≠ 0 → a.outLen ≠ 0 → a.outLen.toNat ≠ s.web.pn → s.web.span = [] →
                  s.port.state = .joining ∨ s.port.state = .active →
                  t.port.state = .fault ∧ t.rate.latch = true
                    ∧ t.port.fault.map FaultRecord.first = some (.patternMismatch s.web.pn a.outLen.toNat id)))

/-- R82, R83, R92, R173, R198, a MARK of a peer: from the upstream neighbour its count is checked and kept, a mark of the part is inserted
in the span queue behind the marks at or before its position, one into a full queue is dropped with QUEUE_OVERFLOW, one that is no mark of
the part is counted as discarded, and a gap faults the station; from any other peer the web is not touched. R84, R51, R55, a pulse of I
under a latched K: a span queue mark whose position less K it reaches leaves for the bay queue at that web point, the others stay; a
SPLICE that a LEADER so learns of moves the planner from PANEL to CLOSING where its guard overlaps the step in progress, and moves the
target of a planner in CLOSING to the later guard end. That a splice is tested here as it enters the bay queue is the model's choice (log
24, DEDUCED). -/
def Obligations.SpanQueueRuns : Prop :=
  (∀ (id : StationId) (p : MarkPayload) (s : State), s.link.mode = .on → id.val < s.sets.line.n → id ≠ s.ownId →
      Completes (.markFrame id p) s fun t =>
        (t.peer id).presence = .live ∧ (t.peer id).staleDue = some (s.now + 50000)
          ∧ (t.peer id).frames = satInc (s.peer id).frames
          ∧ (id.val + 1 = s.ownId.val ∨ id.val = s.ownId.val + 1 → (t.peer id).sent = p.count)
          ∧ (∀ y : StationId, y ≠ id → t.peer y = s.peer y)
          ∧ (id.val + 1 ≠ s.ownId.val → s.KnifeObeys → t.web = s.web)
          ∧ (id.val + 1 = s.ownId.val →
              t.web.received = p.count ∧ t.web.baseline = true
                ∧ (s.web.baseline = true → p.count ≠ s.web.received + 1 → s.port.state = .joining ∨ s.port.state = .active →
                    t.port.state = .fault ∧ t.rate.latch = true
                      ∧ t.port.fault.map FaultRecord.first = some (.markGap (s.web.received + 1) p.count id))
                ∧ (p.kind = 0 ∨ 5 < p.kind.toNat ∨ 2 ≤ p.kind.toNat ∧ p.kind.toNat ≤ 4 ∧ p.value = 0 →
                    t.web.discarded = satInc s.web.discarded ∧ t.web.span = s.web.span)
                ∧ (∀ body : MarkBody,
                    (p.kind = 1 ∧ body = .splice p.roll ∨ p.kind = 2 ∧ p.value ≠ 0 ∧ body = .panel p.value
                        ∨ p.kind = 3 ∧ p.value ≠ 0 ∧ body = .abort p.value ∨ p.kind = 4 ∧ p.value ≠ 0 ∧ body = .underset p.value
                        ∨ p.kind = 5 ∧ body = .missfold) →
                      let m : Mark := { body := body, origin := Fin.ofNat 16 p.origin.toNat, pos := p.position }
                      (s.web.latched = true → ∀ y ∈ m :: s.web.span, atOrBeyond (s.web.i + s.web.k) y.pos = false) →
                        t.web.discarded = s.web.discarded
                          ∧ (s.web.span.length < 16 → ∃ n < s.web.span.length + 1,
                              t.web.span = s.web.span.take n ++ m :: s.web.span.drop n
                                ∧ (∀ y ∈ s.web.span.drop n, atOrBeyond p.position y.pos = false)
                                ∧ ∀ y, (s.web.span.take n).getLast? = some y → atOrBeyond p.position y.pos = true)
                          ∧ (16 ≤ s.web.span.length →
                              t.web.span = s.web.span
                                ∧ (s.web.baseline = false ∨ p.count = s.web.received + 1 →
                                  s.port.state = .joining ∨ s.port.state = .active →
                                    t.port.state = .fault ∧ t.rate.latch = true
                                      ∧ t.port.fault.map FaultRecord.first = some (.queueOverflow .span p.kind m.origin))))))
    ∧ (∀ (m : Mark) (ms : List Mark) (c : Cycle) (s : State), s.web.span = m :: ms → s.web.latched = true → s.web.bay = [] →
        s.reg.expect = none → s.sets.line.standKind = .none → s.KnifeObeys → s.knife.cycle = some c → s.knife.phase = .feed →
        s.knife.halted = false → 0 < c.remaining → 0 < s.sets.feed.a → s.sets.feed.a ≤ 200000 →
          (atOrBeyond (s.web.i + 1 + s.web.k) m.pos = false →
              Completes .feedPulse s fun t => t.web.span = m :: ms ∧ t.web.bay = [] ∧ t.leader = s.leader)
            ∧ (m.pos = s.web.i + 1 + s.web.k → (ms.head?.map fun x => atOrBeyond m.pos x.pos).getD false = false →
              Completes .feedPulse s fun t =>
                let x := s.web.i + 1
                let target := x + toPos s.sets.knife.g + 1
                t.web.span = ms ∧ t.web.bay = [{ mark := { m with pos := x }, awaiting := false }] ∧ t.web.sent = s.web.sent
                  ∧ (s.sets.line.role = .leader → ∀ roll, m.body = .splice roll →
                      (s.leader.state = .panel → ∀ step, s.cad.cur = some step →
                          t.leader = if guardHit step.start step.pitch x s.sets.knife.g = true then
                              { s.leader with state := .closing, target := target, targetSet := true } else s.leader)
                        ∧ (s.leader.state = .closing →
                          t.leader = if s.leader.targetSet = false ∨ beyond target s.leader.target = true then
                              { s.leader with target := target, targetSet := true } else s.leader)
                        ∧ (s.leader.state = .off ∨ s.leader.state = .pending ∨ s.leader.state = .bridge → t.leader = s.leader))
                  ∧ (m.body.code ≠ 1 → t.leader = s.leader)))

/-- R6, R7, R8, R117, R173, a peer's STOP latches the station with the peer's id and reason as its cause, the effective rate 0 at once; a
peer's RESUME clears the latch and leaves keep-warm; the frame makes the peer LIVE, and the station sends no frame of its own for it. That
a RESUME keeps the stop cause is the model's choice (log 10, DEDUCED). The MISSFOLD mark of a STOP taken in TUCK is stated in
MarksAndMisses. -/
def Obligations.StopResumeFrames : Prop :=
  ∀ (id : StationId) (s : State), s.link.mode = .on → id.val < s.sets.line.n → id ≠ s.ownId →
    let marked := fun t : State =>
      (t.peer id).presence = .live ∧ (t.peer id).frames = satInc (s.peer id).frames
        ∧ (t.peer id).staleDue = some (s.now + 50000) ∧ (∀ y : StationId, y ≠ id → t.peer y = s.peer y)
    (∀ reason : Byte, Completes (.stopFrame id reason) s fun t =>
        marked t ∧ t.rate.latch = true ∧ t.rate.effective = 0 ∧ t.rate.own = 0
          ∧ (s.rate.latch = false → t.port.ip.getLsbD 5 = true)
          ∧ (s.knife.phase ≠ .tuck →
              t.calm = { s.calm with
                  latch := true, cause := some { origin := .peer id, reason := reason }, effective := 0
                  knife := if s.knife.phase = .feed then { s.knife with halted := true } else s.knife
                  link := { s.link with change := t.link.change } }
                ∧ t.still = { s.still with peers := t.peers })
          ∧ (s.knife.phase = .tuck → t.knife.phase = .aborting ∧ t.web.o = s.web.o + toPos s.cycleWidth))
      ∧ Completes (.resumeFrame id) s fun t =>
        marked t ∧ t.rate.latch = false ∧ (s.rate.latch = true → t.port.ip.getLsbD 5 = true)
          ∧ t.calm = { s.calm with latch := false, link := { s.link with change := t.link.change } }
          ∧ t.still = { s.still with peers := t.peers }
          ∧ (s.box.inForce = true → t.box.inForce = false
              ∧ ∀ z : Fin 4, s.isZone z = true → (s.zone z).state = .keepwarm ∨ (s.zone z).state = .off →
                  t.zone z = { s.zone z with state := .warming, settle := none })

/-- R157, R170, R171, R172, the frames that are no peer's: while the Link Controller is on, a bad frame, a foreign one and one of an
unknown kind raise their counts and nothing else, and one with the own id faults the station; while it is not on, none of them is taken.
The model's choices: a FOREIGN_FRAME row of an id below N does nothing (logs 1 and 19), the ADVANCE, MARK, STOP and RESUME rows of an id
of N or above are judged by their sender (log 19, DEDUCED), and no row is taken while the link is not on (log 1 with R157). -/
def Obligations.OtherFramesCounted : Prop :=
  ∀ (id : StationId) (kind : BitVec 4) (a : AdvancePayload) (p : MarkPayload) (reason : Byte) (s : State),
    (s.link.mode = .on →
        exec .badFrame s = .next { s with link.rxErrors := satInc s.link.rxErrors }
          ∧ (s.sets.line.n ≤ id.val →
              let counted := { s with link.foreign := satInc s.link.foreign }
              exec (.foreignFrame id) s = .next counted ∧ exec (.advanceFrame id a) s = .next counted
                ∧ exec (.markFrame id p) s = .next counted ∧ exec (.stopFrame id reason) s = .next counted
                ∧ exec (.resumeFrame id) s = .next counted)
          ∧ (id.val < s.sets.line.n → exec (.foreignFrame id) s = .next s)
          ∧ (id.val < s.sets.line.n → id ≠ s.ownId → kind ∉ [1, 2, 5, 8] →
              exec (.unknownKindFrame id kind) s = .next { s with link.unknown := satInc s.link.unknown })
          ∧ (s.port.state = .joining ∨ s.port.state = .active →
              Completes (.duplicateIdFrame kind) s fun t =>
                t.port.state = .fault ∧ t.port.fault.map FaultRecord.first = some (.duplicateId kind) ∧ t.rate.latch = true
                  ∧ t.rate.effective = 0 ∧ t.rate.cause = some { origin := .fault, reason := 8 } ∧ t.port.ip.getLsbD 6 = true
                  ∧ t.link.stopResume = some (.stop 8) ∧ t.still = s.still)
          ∧ (s.port.state = .fault → s.port.fault.isSome = true → s.KnifeObeys →
              Completes (.duplicateIdFrame kind) s fun t =>
                t.calm = { s.calm with fault := s.port.fault.map fun r => { r with further := true } }
                  ∧ t.port.ip.getLsbD 6 = true ∧ t.still = s.still))
      ∧ (s.link.mode ≠ .on →
        exec .badFrame s = .next s ∧ exec (.foreignFrame id) s = .next s ∧ exec (.unknownKindFrame id kind) s = .next s
          ∧ exec (.duplicateIdFrame kind) s = .next s ∧ exec (.advanceFrame id a) s = .next s
          ∧ exec (.markFrame id p) s = .next s ∧ exec (.stopFrame id reason) s = .next s ∧ exec (.resumeFrame id) s = .next s)

/-- R9, R176, R178, a staleness timer's expiry: a LIVE record turns STALE with its fields kept, the LINK source is set, and the resolved
rate is 0 while an expected peer is STALE. R117, R118, keep-warm in force is left at that turn where the remaining LIVE records meet the
peer condition, with its KEEPWARM and OFF zones WARMING, and stays in force where they do not. That the row does nothing where no
staleness timer runs is the model's choice (log 1). -/
def Obligations.StalenessTurns : Prop :=
  (∀ (id : StationId) (s : State),
      ((s.peer id).presence ≠ .live ∨ (s.peer id).staleDue = none → exec (.stalenessTimerExpiry id) s = .next s)
        ∧ ∀ due, (s.peer id).presence = .live → (s.peer id).staleDue = some due → s.KnifeObeys →
          Completes (.stalenessTimerExpiry id) s fun t =>
            t.now = max s.now due ∧ t.peer id = { s.peer id with presence := .stale, staleDue := none }
              ∧ (∀ y : StationId, y ≠ id → t.peer y = s.peer y) ∧ t.port.ip.getLsbD 0 = true
              ∧ (s.isPeer id = true → t.rate.resolved = 0)
              ∧ t.calm = { s.calm with
                  link := { s.link with change := some { cause := .stale, peer := some id, rxErrors := s.link.rxErrors } } }
              ∧ t.still = { s.still with now := t.now, peers := t.peers })
    ∧ (∀ (id : StationId) (due : Nat) (s : State), (s.peer id).presence = .live → (s.peer id).staleDue = some due → s.box.inForce = true →
        Completes (.stalenessTimerExpiry id) s fun t => LeftByPeers s t)
end

