-- ==== Sys2Proof/Laws/Frame.lean ====
section
/-! SUPPORT. What the shared operations that follow a change at once, the settling above all, never touch: one frame lemma for each, so that
a proof about a command needs no operation unfolded twice. -/

namespace Sys2Proof.Machine

/-! ## Event signals, slots, the latch and faults -/

@[simp] theorem signal_still (s : State) (x : Source) : (s.signal x).still = s.still := rfl

@[simp] theorem chosen_still (s : State) : s.chosen.still = s.still := rfl

@[simp] theorem handStopResume_still (s : State) (f : StopResume) : (s.handStopResume f).still = s.still := by
  unfold State.handStopResume; split <;> rfl

@[simp] theorem cadence_rateChanged_zero (c : Cadence) (old now : Nat) : c.rateChanged old 0 now = c := by
  simp [Cadence.rateChanged]

@[simp] theorem setEffective_zero_still (s : State) : (s.setEffective 0).still = s.still := by
  unfold State.setEffective; split <;> simp [State.still]

@[simp] theorem setLatch_still (s : State) (c : StopCause) : (s.setLatch c).still = s.still := by
  unfold State.setLatch
  simp only
  split
  · rw [setEffective_zero_still]; rfl
  · rw [signal_still, setEffective_zero_still]; rfl

@[simp] theorem clearLatch_still (s : State) : s.clearLatch.still = s.still := by
  unfold State.clearLatch; split <;> rfl

@[simp] theorem enterFault_still (s : State) (f : StationFault) : (s.enterFault f).still = s.still := by
  unfold State.enterFault; rw [handStopResume_still, setLatch_still]; rfl

@[simp] theorem raiseFault_still (s : State) (f : StationFault) : (s.raiseFault f).still = s.still := by
  unfold State.raiseFault; split <;> first | rfl | simp

@[simp] theorem handMark_still (s : State) (m : MarkPayload) : (s.handMark m).still = s.still := by
  unfold State.handMark; split
  · rfl
  · split
    · simp
    · rfl

/-! ## Spindles, panels and cuts -/

theorem setSpindle_speeds (t : Stand) (id : SpindleId) (x : Spindle) :
    (t.setSpindle id x).standDue = t.standDue ∧ (t.setSpindle id x).speedA = t.speedA ∧ (t.setSpindle id x).speedB = t.speedB := by
  cases id <;> exact ⟨rfl, rfl, rfl⟩

@[simp] theorem setSpindle_standDue (t : Stand) (id : SpindleId) (x : Spindle) : (t.setSpindle id x).standDue = t.standDue :=
  (setSpindle_speeds t id x).1

@[simp] theorem setSpindle_speedA (t : Stand) (id : SpindleId) (x : Spindle) : (t.setSpindle id x).speedA = t.speedA :=
  (setSpindle_speeds t id x).2.1

@[simp] theorem setSpindle_speedB (t : Stand) (id : SpindleId) (x : Spindle) : (t.setSpindle id x).speedB = t.speedB :=
  (setSpindle_speeds t id x).2.2

@[simp] theorem setSpindle_still (s : State) (id : SpindleId) (x : Spindle) : (s.setSpindle id x).still = s.still := by
  simp [State.still, State.setSpindle]

@[simp] theorem rollEvent_still (s : State) (c : RollCause) (id : SpindleId) : (s.rollEvent c id).still = s.still := rfl

@[simp] theorem countVerdict_standDue (t : Stand) (c : ClosedPanel) (b : Bool) :
    (t.countVerdict c b).standDue = t.standDue ∧ (t.countVerdict c b).speedA = t.speedA ∧ (t.countVerdict c b).speedB = t.speedB := by
  unfold Stand.countVerdict; split
  · exact ⟨rfl, rfl, rfl⟩
  · simp only; split <;> simp

@[simp] theorem logPanel_still (s : State) (e : LogEntry) : (s.logPanel e).still = s.still := by
  unfold State.logPanel; split <;> rfl

theorem stand_still (s : State) (t : Stand) (h : t.standDue = s.stand.standDue ∧ t.speedA = s.stand.speedA ∧ t.speedB = s.stand.speedB) :
    ({ s with stand := t } : State).still = s.still := by
  simp [State.still, h]

@[simp] theorem judge_still (s : State) (c : ClosedPanel) : (s.judge c).still = s.still := by
  unfold State.judge
  simp only [logPanel_still]
  exact stand_still _ _ (countVerdict_standDue _ _ _)

@[simp] theorem judgeEach_still (cs rest : List ClosedPanel) : ∀ s : State, (s.judgeEach cs rest).still = s.still := by
  induction cs with
  | nil => intro s; rfl
  | cons c cs ih => intro s; exact (ih (s.judge c)).trans (judge_still s c)

/-- With no panel waiting for its verdict none is given. -/
theorem judgeDue_of_none {s : State} (h : s.stand.verdicts = []) : s.judgeDue = s := by
  show s.judgeEach (s.stand.verdicts.filter s.verdictDue) (s.stand.verdicts.filter fun c => !s.verdictDue c) = s
  rw [h]
  show { s with stand.verdicts := [] } = s
  rw [← h]

theorem sets_of_still {s t : State} (h : t.still = s.still) : t.sets = s.sets := congrArg Still.sets h

theorem now_of_still {s t : State} (h : t.still = s.still) : t.now = s.now := congrArg Still.now h

@[simp] theorem judgeDue_still (s : State) : s.judgeDue.still = s.still := judgeEach_still _ _ _

@[simp] theorem makeVerdictRoom_still (s : State) : s.makeVerdictRoom.still = s.still := by
  unfold State.makeVerdictRoom; split
  · rfl
  · split
    · exact judge_still _ _
    · rfl

theorem countClosed_speeds (t : Stand) (id : Option SpindleId) :
    (t.countClosed id).standDue = t.standDue ∧ (t.countClosed id).speedA = t.speedA ∧ (t.countClosed id).speedB = t.speedB := by
  unfold Stand.countClosed; split
  · exact ⟨rfl, rfl, rfl⟩
  · exact setSpindle_speeds _ _ _

@[simp] theorem closePanel_still (s : State) (p : Pos) (f : Reasons → Reasons) : (s.closePanel p f).still = s.still := by
  unfold State.closePanel
  split
  · rfl
  · have h : (State.makeVerdictRoom
        { s with stand := { s.stand.countClosed (s.stand.inState .winding) with panel := none } }).still = s.still := by
      rw [makeVerdictRoom_still]
      exact stand_still _ _ (countClosed_speeds _ _)
    simp only
    split
    · rw [judgeDue_still]; exact h
    · exact h

@[simp] theorem closeIfFull_still (s : State) (p : Pos) : (s.closeIfFull p).still = s.still := by
  unfold State.closeIfFull; split <;> simp

@[simp] theorem pulseCut_still (s : State) : s.pulseCut.still = s.still := rfl

@[simp] theorem transferTo_still (s : State) (id : SpindleId) : (s.transferTo id).still = s.still := by
  unfold State.transferTo
  simp only [rollEvent_still, pulseCut_still]
  exact stand_still _ _ ⟨by simp, by simp, by simp⟩

@[simp] theorem transferCut_still (s : State) : s.transferCut.still = s.still := by
  unfold State.transferCut; split
  · rfl
  · split <;> simp

@[simp] theorem splitCut_still (s : State) (id : SpindleId) : (s.splitCut id).still = s.still := by
  simp [State.splitCut]

@[simp] theorem cutAtMaximum_still (s : State) : s.cutAtMaximum.still = s.still := by
  unfold State.cutAtMaximum; split <;> simp

/-! ## Marks that leave and announcements -/

@[simp] theorem openPanelAt_still (s : State) (p : Pos) (n : BitVec 16) : (s.openPanelAt p n).still = s.still := rfl

@[simp] theorem flagPanel_still (s : State) (p : Pos) (f : Reasons → Reasons) : (s.flagPanel p f).still = s.still := by
  unfold State.flagPanel; split
  · rfl
  · split <;> rfl

@[simp] theorem undersetMark_still (s : State) (p : Pos) (e : Nat) : (s.undersetMark p e).still = s.still := rfl

@[simp] theorem closeBeforeAbort_still (s : State) (p : Pos) : (s.closeBeforeAbort p).still = s.still := by
  unfold State.closeBeforeAbort; split
  · split <;> simp
  · simp

@[simp] theorem handOff_still (s : State) (m : Mark) : (s.handOff m).still = s.still := by
  unfold State.handOff; split
  · simp
  · simp
  · show (State.flagPanel _ _ _).still = _
    simp
  · simp
  · simp

@[simp] theorem markLeaves_still (s : State) (m : Mark) : (s.markLeaves m).still = s.still := by
  unfold State.markLeaves; split <;> simp

@[simp] theorem leaveFrom_still (limit : Pos) (ms : List Mark) : ∀ s : State, (s.leaveFrom limit ms).still = s.still := by
  induction ms with
  | nil => intro s; rfl
  | cons m ms ih =>
    intro s
    unfold State.leaveFrom
    split
    · rw [ih, markLeaves_still]
    · rfl

@[simp] theorem endPanel_still (s : State) (p : Pos) : (s.endPanel p).still = s.still := by
  unfold State.endPanel; split <;> simp

@[simp] theorem sweepTo_still (s : State) (p : Pos) : (s.sweepTo p).still = s.still := by simp [State.sweepTo]

@[simp] theorem outletSweep_still (s : State) : s.outletSweep.still = s.still := sweepTo_still _ _

theorem eitherOrder_still (f g : State → State) (hf : ∀ t : State, (f t).still = t.still) (hg : ∀ t : State, (g t).still = t.still)
    (s : State) : (eitherOrder f g s).still = s.still := by
  unfold eitherOrder; split <;> simp [hf, hg]

@[simp] theorem account_still (s : State) : s.account.still = s.still := by
  unfold State.account
  split
  · simp
  · rw [eitherOrder_still _ _ cutAtMaximum_still outletSweep_still]; simp

@[simp] theorem insertOutlet_still (s : State) (m : Mark) : (s.insertOutlet m).still = s.still := by
  unfold State.insertOutlet; split
  · simp
  · rfl

@[simp] theorem countAnnounced_still (s : State) (m : Mark) : (s.countAnnounced m).still = s.still := rfl

@[simp] theorem announce_still (s : State) (m : Mark) : (s.announce m).still = s.still := by
  unfold State.announce
  simp only [outletSweep_still, insertOutlet_still]
  split <;> simp

@[simp] theorem announceOwn_still (s : State) (b : MarkBody) (p : Pos) : (s.announceOwn b p).still = s.still := announce_still _ _

/-! ## The Dwell Table and credits -/

@[simp] theorem closeRange_still (s : State) : s.closeRange.still = s.still := by
  unfold State.closeRange; split
  · rfl
  · next r _ =>
    have h := announceOwn_still s (.underset (BitVec.ofNat 16 r.extent)) r.start
    simp only
    generalize s.announceOwn (.underset (BitVec.ofNat 16 r.extent)) r.start = t at h ⊢
    exact h

@[simp] theorem openRange_still (s : State) (p : Pos) : (s.openRange p).still = s.still := rfl

@[simp] theorem undersetCell_still (s : State) (p : Pos) : (s.undersetCell p).still = s.still := by
  unfold State.undersetCell; split
  · rfl
  · split
    · rfl
    · simp

@[simp] theorem exitCell_still (s : State) (c : DwellCell) : (s.exitCell c).still = s.still := by
  unfold State.exitCell
  simp only
  split
  · rw [closeRange_still]; rfl
  · rw [undersetCell_still]; rfl

@[simp] theorem exitFrom_still (cs : List DwellCell) : ∀ s : State, (s.exitFrom cs).still = s.still := by
  induction cs with
  | nil => intro s; rfl
  | cons c cs ih =>
    intro s
    unfold State.exitFrom
    split
    · rw [ih, exitCell_still]
    · rfl

@[simp] theorem enterCells_still (s : State) : s.enterCells.still = s.still := rfl

@[simp] theorem dwellAdvance_still (s : State) : s.dwellAdvance.still = s.still := by
  unfold State.dwellAdvance; simp

@[simp] theorem wind_still (s : State) (n : Nat) : (s.wind n).still = s.still := by
  unfold State.wind; split <;> simp

@[simp] theorem advanceOutlet_still (s : State) (n : Nat) : (s.advanceOutlet n).still = s.still := by
  unfold State.advanceOutlet; rw [wind_still]; rfl

@[simp] theorem announceCrossed_still (s : State) (m : Mark) (p : Pos) : (s.announceCrossed m p).still = s.still := announce_still _ _

@[simp] theorem creditFrom_still (ok : Pos) (es : List BayEntry) :
    ∀ (kept : List BayEntry) (s : State), (s.creditFrom ok kept es).still = s.still := by
  induction es with
  | nil => intro kept s; rfl
  | cons e es ih =>
    intro kept s
    unfold State.creditFrom
    split
    · rw [ih, announceCrossed_still]
    · rw [ih]

theorem afterAdvance_still (f : State → State) (hf : ∀ t : State, (f t).still = t.still) (s : State) :
    (s.afterAdvance f).still = s.still := by
  unfold State.afterAdvance; split
  · simp [hf]
  · exact eitherOrder_still _ _ (fun t => by simp) hf s

@[simp] theorem creditFold_still (s : State) (w : Nat) : (s.creditFold w).still = s.still := by
  unfold State.creditFold
  simp only
  rw [afterAdvance_still _ (fun t => by simp), advanceOutlet_still]; rfl

@[simp] theorem enterAborting_still (s : State) : s.enterAborting.still = s.still := by
  unfold State.enterAborting
  simp only
  split
  · rfl
  · simp only [announceOwn_still, creditFold_still]; rfl

/-! ## The settling -/

@[simp] theorem knifeSettle_still (s : State) : s.knifeSettle.still = s.still := by
  unfold State.knifeSettle; split
  · split <;> first | rfl | simp
  · rfl

@[simp] theorem joinTest_still (s : State) : s.joinTest.still = s.still := by
  unfold State.joinTest; split <;> rfl

@[simp] theorem cutAtRest_still (s : State) : s.cutAtRest.still = s.still := by
  unfold State.cutAtRest; split <;> simp

@[simp] theorem armSpindle_still (s : State) (id : SpindleId) : (s.armSpindle id).still = s.still := by
  unfold State.armSpindle
  exact Eq.trans rfl (setSpindle_still s id { s.stand.spindle id with state := .arming })

@[simp] theorem transferArm_still (s : State) : s.transferArm.still = s.still := by
  unfold State.transferArm; split
  · split
    · rfl
    · split <;> simp
  · rfl

@[simp] theorem moveValves_still (s : State) : s.moveValves.still = s.still := rfl

@[simp] theorem arbitrate_still (s : State) : s.arbitrate.still = s.still := by
  unfold State.arbitrate; split
  · rfl
  · split <;> rfl

@[simp] theorem keepWarmEntry_still (s : State) : s.keepWarmEntry.still = s.still := by
  unfold State.keepWarmEntry; split <;> rfl

@[simp] theorem zoneSettle_still (s : State) : s.zoneSettle.still = s.still := by simp [State.zoneSettle]

@[simp] theorem limits_still (s : State) : s.limits.still = s.still := rfl

@[simp] theorem consequences_still (s : State) : s.consequences.still = s.still := by simp [State.consequences]

/-- The settling of a step never touches the still part of a state. -/
@[simp] theorem settle_still (s : State) : s.settle.still = s.still := by simp [State.settle]

end Sys2Proof.Machine
end

