-- ==== Sys2Proof/Laws/Settle.lean ====
section
/-! SUPPORT. What the consequences of a change (the settling without the knife) can do: they never touch the calm part of a state, the
blocks before the zones never touch the box, and only the joining test moves the station state. -/

namespace Sys2Proof.Machine

/-- The parts that verdicts, cuts and arming leave alone: the calm part, the box, the station state. -/
def State.kept (s : State) : Calm × Box × StationState × RateState := (s.calm, s.box, s.port.state, s.rate)

@[simp] theorem signal_kept (s : State) (x : Source) : (s.signal x).kept = s.kept := rfl

@[simp] theorem setSpindle_kept (s : State) (id : SpindleId) (x : Spindle) : (s.setSpindle id x).kept = s.kept := rfl

@[simp] theorem logPanel_kept (s : State) (e : LogEntry) : (s.logPanel e).kept = s.kept := by
  unfold State.logPanel; split <;> rfl

@[simp] theorem judge_kept (s : State) (c : ClosedPanel) : (s.judge c).kept = s.kept := by
  unfold State.judge; simp only [logPanel_kept]; rfl

@[simp] theorem judgeEach_kept (cs rest : List ClosedPanel) : ∀ s : State, (s.judgeEach cs rest).kept = s.kept := by
  induction cs with
  | nil => intro s; rfl
  | cons c cs ih => intro s; exact (ih (s.judge c)).trans (judge_kept s c)

@[simp] theorem judgeDue_kept (s : State) : s.judgeDue.kept = s.kept := judgeEach_kept _ _ _

@[simp] theorem makeVerdictRoom_kept (s : State) : s.makeVerdictRoom.kept = s.kept := by
  unfold State.makeVerdictRoom; split
  · rfl
  · split
    · exact judge_kept _ _
    · rfl

@[simp] theorem closePanel_kept (s : State) (p : Pos) (f : Reasons → Reasons) : (s.closePanel p f).kept = s.kept := by
  unfold State.closePanel
  split
  · rfl
  · have h : (State.makeVerdictRoom
        { s with stand := { s.stand.countClosed (s.stand.inState .winding) with panel := none } }).kept = s.kept := by
      rw [makeVerdictRoom_kept]; rfl
    simp only
    split
    · rw [judgeDue_kept]; exact h
    · exact h

@[simp] theorem closeIfFull_kept (s : State) (p : Pos) : (s.closeIfFull p).kept = s.kept := by
  unfold State.closeIfFull; split <;> simp

@[simp] theorem transferTo_kept (s : State) (id : SpindleId) : (s.transferTo id).kept = s.kept := rfl

@[simp] theorem splitCut_kept (s : State) (id : SpindleId) : (s.splitCut id).kept = s.kept := by simp [State.splitCut]

@[simp] theorem cutAtRest_kept (s : State) : s.cutAtRest.kept = s.kept := by
  unfold State.cutAtRest; split <;> simp

@[simp] theorem armSpindle_kept (s : State) (id : SpindleId) : (s.armSpindle id).kept = s.kept := rfl

@[simp] theorem transferArm_kept (s : State) : s.transferArm.kept = s.kept := by
  unfold State.transferArm; split
  · split
    · rfl
    · split <;> simp
  · rfl

/-! ## The calm part -/

theorem calm_of_kept {s t : State} (h : t.kept = s.kept) : t.calm = s.calm := congrArg Prod.fst h

theorem box_of_kept {s t : State} (h : t.kept = s.kept) : t.box = s.box := congrArg (fun x => x.2.1) h

theorem state_of_kept {s t : State} (h : t.kept = s.kept) : t.port.state = s.port.state := congrArg (fun x => x.2.2.1) h

theorem rate_of_kept {s t : State} (h : t.kept = s.kept) : t.rate = s.rate := congrArg (fun x => x.2.2.2) h

@[simp] theorem joinTest_calm (s : State) : s.joinTest.calm = s.calm := by
  unfold State.joinTest; split <;> rfl

@[simp] theorem joinTest_box (s : State) : s.joinTest.box = s.box := by
  unfold State.joinTest; split <;> rfl

@[simp] theorem joinTest_rate (s : State) : s.joinTest.rate = s.rate := by
  unfold State.joinTest; split <;> rfl

@[simp] theorem joinTest_running (s : State) : s.joinTest.running = s.running := by
  unfold State.joinTest; split
  · rename_i h; simp [State.running, h.1]; rfl
  · rfl

@[simp] theorem moveValves_calm (s : State) : s.moveValves.calm = s.calm := rfl

@[simp] theorem arbitrate_calm (s : State) : s.arbitrate.calm = s.calm := by
  unfold State.arbitrate; split
  · rfl
  · split <;> rfl

@[simp] theorem keepWarmEntry_calm (s : State) : s.keepWarmEntry.calm = s.calm := by
  unfold State.keepWarmEntry; split <;> rfl

@[simp] theorem zoneSettle_calm (s : State) : s.zoneSettle.calm = s.calm := by simp [State.zoneSettle]

@[simp] theorem limits_calm (s : State) : s.limits.calm = s.calm := rfl

/-- The consequences of a change never touch the calm part. -/
@[simp] theorem consequences_calm (s : State) : s.consequences.calm = s.calm := by
  simp [State.consequences, calm_of_kept (transferArm_kept _), calm_of_kept (cutAtRest_kept _), calm_of_kept (judgeDue_kept _)]

/-- With the stop latch clear a settling is its consequences. -/
theorem settle_of_clear {s : State} (h : s.rate.latch = false) : s.settle = s.consequences := by
  simp [State.settle, State.knifeSettle, h]

/-- The knife after a settling that does not find it in TUCK under a set latch (R46, R48). -/
def Knife.settled (k : Knife) (latch : Bool) : Knife := if latch then k.latched else k

/-- A settling that does not find the knife in TUCK under a set latch touches the calm part at the knife alone (R46, R48). -/
theorem settle_calm {s : State} (h : s.rate.latch = true → s.knife.phase ≠ .tuck) :
    s.settle.calm = { s.calm with knife := s.knife.settled s.rate.latch } := by
  rw [State.settle, consequences_calm]
  unfold State.knifeSettle Knife.settled
  cases hl : s.rate.latch
  · rfl
  · have hp := h hl
    cases hk : s.knife.phase
    · simp [Knife.latched, hk]; rfl
    · simp [Knife.latched, hk, State.calm, hl]
    · exact absurd hk hp
    · simp [Knife.latched, hk]; rfl
    · simp [Knife.latched, hk]; rfl
    · simp [Knife.latched, hk]; rfl

/-- Where the knife has obeyed the latch, a settling is its consequences. -/
theorem settle_of_obeys {s : State} (h : s.KnifeObeys) : s.settle = s.consequences := by
  have : s.knifeSettle = s := by
    unfold State.knifeSettle
    split
    · rename_i hl
      obtain ⟨h1, h2⟩ := h hl
      split
      · exact absurd (by assumption) h1
      · rename_i hf
        have hh := h2 hf
        show { s with knife := { s.knife with halted := true } } = s
        rw [← hh]
      · rfl
      · rfl
      · rfl
      · rfl
    · rfl
  rw [State.settle, this]

/-! ## What forming the limits leaves -/

theorem limits_box (s : State) : s.limits.box = s.box := rfl

theorem limits_state (s : State) : s.limits.port.state = s.port.state := rfl

/-! ## The station state -/

theorem arbitrate_state (s : State) : s.arbitrate.port.state = s.port.state := by
  unfold State.arbitrate; split
  · rfl
  · split <;> rfl

theorem keepWarmEntry_state (s : State) : s.keepWarmEntry.port.state = s.port.state := by
  unfold State.keepWarmEntry; split <;> rfl

theorem zoneSettle_state (s : State) : s.zoneSettle.port.state = s.port.state := by
  unfold State.zoneSettle; rw [keepWarmEntry_state, arbitrate_state]; rfl

/-- The station state after the consequences is the joining test's. -/
theorem consequences_state (s : State) : s.consequences.port.state = s.judgeDue.joinTest.port.state := by
  rw [State.consequences, limits_state, zoneSettle_state, state_of_kept (transferArm_kept _), state_of_kept (cutAtRest_kept _)]

/-- The consequences leave every station state but JOINING as it is, and JOINING goes to ACTIVE at most. -/
theorem consequences_state_cases (s : State) :
    s.consequences.port.state = s.port.state
      ∨ s.port.state = .joining ∧ s.consequences.port.state = .active := by
  rw [consequences_state]
  unfold State.joinTest
  split
  · rename_i h
    rw [state_of_kept (judgeDue_kept s)] at h
    exact .inr ⟨h.1, rfl⟩
  · exact .inl (state_of_kept (judgeDue_kept s))

/-! ## The box -/

theorem moveValves_box_congr {s t : State} (hb : t.box = s.box) (he : t.rate.effective = s.rate.effective) :
    t.moveValves.box = s.moveValves.box := by
  simp [State.moveValves, State.zone, hb, he]

theorem arbitrate_box_congr {s t : State} (hb : t.box = s.box) (hs : t.sets = s.sets) (hn : t.now = s.now) :
    t.arbitrate.box = s.arbitrate.box := by
  unfold State.arbitrate
  rw [hb]
  cases s.box.owner with
  | some _ => exact hb
  | none =>
    cases drainChoice s.box.zones with
    | none => exact hb
    | some z => simp [State.grantDrain, State.zone, hb, hs, hn]

theorem keepWarmEntry_box_congr {s t : State} (hb : t.box = s.box) (hs : t.sets = s.sets) (hr : t.running = s.running) :
    t.keepWarmEntry.box = s.keepWarmEntry.box := by
  have h : t.boxAtRest = s.boxAtRest := by simp [State.boxAtRest, State.isZone, State.zone, hb, hs]
  unfold State.keepWarmEntry
  rw [hb, hs, hr, h]
  split
  · simp [State.signal, State.zone, hb]
  · exact hb

/-- The zones' share of the settling reads the box, the sets, the time, the effective rate and whether the station runs, and no more. -/
theorem zoneSettle_box_congr {s t : State} (hb : t.box = s.box) (hs : t.sets = s.sets) (hn : t.now = s.now)
    (he : t.rate.effective = s.rate.effective) (hr : t.running = s.running) : t.zoneSettle.box = s.zoneSettle.box := by
  have sets : ∀ u : State, u.moveValves.arbitrate.sets = u.sets := fun u =>
    congrArg Still.sets (show u.moveValves.arbitrate.still = u.still by simp)
  have run : ∀ u : State, u.moveValves.arbitrate.running = u.running := fun u => by
    simp only [State.running, arbitrate_state]; rfl
  apply keepWarmEntry_box_congr
  · exact arbitrate_box_congr (moveValves_box_congr hb he) hs hn
  · rw [sets, sets, hs]
  · rw [run, run, hr]

/-- The box after the consequences is the zones' share of the settling. -/
theorem consequences_box (s : State) : s.consequences.box = s.zoneSettle.box := by
  rw [State.consequences, limits_box]
  have h : s.judgeDue.joinTest.cutAtRest.transferArm.still = s.still := by simp
  apply zoneSettle_box_congr
  · rw [box_of_kept (transferArm_kept _), box_of_kept (cutAtRest_kept _), joinTest_box, box_of_kept (judgeDue_kept _)]
  · exact sets_of_still h
  · exact now_of_still h
  · rw [rate_of_kept (transferArm_kept _), rate_of_kept (cutAtRest_kept _), joinTest_rate, rate_of_kept (judgeDue_kept _)]
  · simp only [State.running, state_of_kept (transferArm_kept _), state_of_kept (cutAtRest_kept _)]
    have := joinTest_running s.judgeDue
    simp only [State.running, state_of_kept (judgeDue_kept _)] at this
    exact this

/-! ## The stand -/

/-- With no panel waiting for its verdict, the consequences at a station that is no rewind leave the stand alone. -/
theorem consequences_stand {s : State} (hv : s.stand.verdicts = []) (hk : s.sets.line.standKind ≠ .rewind) :
    s.consequences.stand = s.stand := by
  have h1 : s.judgeDue = s := judgeDue_of_none hv
  have h2 : s.joinTest.stand = s.stand := by unfold State.joinTest; split <;> rfl
  have hs : s.joinTest.sets = s.sets := congrArg Still.sets (joinTest_still s)
  have h3 : s.joinTest.cutAtRest = s.joinTest := by
    have : s.joinTest.restCut = none := by unfold State.restCut; rw [hs, if_neg (fun c => hk c.1)]
    unfold State.cutAtRest; rw [this]
  have h4 : s.joinTest.transferArm = s.joinTest := by
    have : s.joinTest.transferPending = false := by
      simp only [State.transferPending, hs, Bool.and_eq_false_imp, beq_iff_eq]
      exact fun c => absurd c hk
    unfold State.transferArm; rw [if_neg (by simp [this])]
  have h5 : ∀ t : State, t.zoneSettle.limits.stand = t.stand := by
    intro t
    show t.zoneSettle.stand = t.stand
    have ha : ∀ u : State, u.arbitrate.stand = u.stand := by
      intro u; unfold State.arbitrate; split
      · rfl
      · split <;> rfl
    have hw : ∀ u : State, u.keepWarmEntry.stand = u.stand := by
      intro u; unfold State.keepWarmEntry; split <;> rfl
    unfold State.zoneSettle; rw [hw, ha]; rfl
  rw [State.consequences, h5, h1, h3, h4, h2]

end Sys2Proof.Machine
end

