-- ==== Sys2Proof/Laws/State.lean ====
section
/-! SUPPORT. The small lemmas of the record updates: for each, what every field of the state becomes, all true by rfl. -/

namespace Sys2Proof.Machine

@[simp] theorem respond_fields (s : State) (bytes : List Byte) :
    (s.respond bytes).pending = s.pending ∧ (s.respond bytes).now = s.now ∧ (s.respond bytes).choices = s.choices ∧
      (s.respond bytes).sets = s.sets ∧ (s.respond bytes).rate = s.rate ∧ (s.respond bytes).cad = s.cad ∧ (s.respond bytes).pat = s.pat ∧
      (s.respond bytes).dec = s.dec ∧ (s.respond bytes).knife = s.knife ∧ (s.respond bytes).leader = s.leader ∧
      (s.respond bytes).follower = s.follower ∧ (s.respond bytes).reg = s.reg ∧ (s.respond bytes).web = s.web ∧
      (s.respond bytes).box = s.box ∧ (s.respond bytes).dwell = s.dwell ∧ (s.respond bytes).stand = s.stand ∧
      (s.respond bytes).link = s.link ∧ (s.respond bytes).peers = s.peers ∧
      (s.respond bytes).port = { s.port with response := bytes } := by
  and_intros <;> rfl

@[simp] theorem shiftOut_fields (s : State) (edges : Nat) :
    (s.shiftOut edges).pending = s.pending ∧ (s.shiftOut edges).now = s.now ∧ (s.shiftOut edges).choices = s.choices ∧
      (s.shiftOut edges).sets = s.sets ∧ (s.shiftOut edges).rate = s.rate ∧ (s.shiftOut edges).cad = s.cad ∧
      (s.shiftOut edges).pat = s.pat ∧ (s.shiftOut edges).dec = s.dec ∧ (s.shiftOut edges).knife = s.knife ∧
      (s.shiftOut edges).leader = s.leader ∧ (s.shiftOut edges).follower = s.follower ∧ (s.shiftOut edges).reg = s.reg ∧
      (s.shiftOut edges).web = s.web ∧ (s.shiftOut edges).box = s.box ∧ (s.shiftOut edges).dwell = s.dwell ∧
      (s.shiftOut edges).stand = s.stand ∧ (s.shiftOut edges).link = s.link ∧ (s.shiftOut edges).peers = s.peers ∧
      (s.shiftOut edges).port = { s.port with sdo := shiftedBits s.port.response edges } := by
  and_intros <;> rfl

@[simp] theorem reachTime_fields (s : State) (due : Nat) :
    (s.reachTime due).pending = s.pending ∧ (s.reachTime due).now = max s.now due ∧ (s.reachTime due).choices = s.choices ∧
      (s.reachTime due).sets = s.sets ∧ (s.reachTime due).rate = s.rate ∧ (s.reachTime due).cad = s.cad ∧ (s.reachTime due).pat = s.pat ∧
      (s.reachTime due).dec = s.dec ∧ (s.reachTime due).knife = s.knife ∧ (s.reachTime due).leader = s.leader ∧
      (s.reachTime due).follower = s.follower ∧ (s.reachTime due).reg = s.reg ∧ (s.reachTime due).web = s.web ∧
      (s.reachTime due).box = s.box ∧ (s.reachTime due).dwell = s.dwell ∧ (s.reachTime due).stand = s.stand ∧
      (s.reachTime due).link = s.link ∧ (s.reachTime due).peers = s.peers ∧ (s.reachTime due).port = s.port := by
  and_intros <;> rfl

@[simp] theorem tick_fields (s : State) :
    (s.tick).pending = s.pending ∧ (s.tick).now = s.now + 1 ∧ (s.tick).choices = s.choices ∧ (s.tick).sets = s.sets ∧
      (s.tick).rate = s.rate ∧ (s.tick).cad = s.cad ∧ (s.tick).pat = s.pat ∧ (s.tick).dec = s.dec ∧ (s.tick).knife = s.knife ∧
      (s.tick).leader = s.leader ∧ (s.tick).follower = s.follower ∧ (s.tick).reg = s.reg ∧ (s.tick).web = s.web ∧ (s.tick).box = s.box ∧
      (s.tick).dwell = s.dwell ∧ (s.tick).stand = s.stand ∧ (s.tick).link = s.link ∧ (s.tick).peers = s.peers ∧
      (s.tick).port = s.port := by
  and_intros <;> rfl

@[simp] theorem chosen_fields (s : State) :
    (s.chosen).pending = s.pending ∧ (s.chosen).now = s.now ∧ (s.chosen).choices = s.choices + 1 ∧ (s.chosen).sets = s.sets ∧
      (s.chosen).rate = s.rate ∧ (s.chosen).cad = s.cad ∧ (s.chosen).pat = s.pat ∧ (s.chosen).dec = s.dec ∧ (s.chosen).knife = s.knife ∧
      (s.chosen).leader = s.leader ∧ (s.chosen).follower = s.follower ∧ (s.chosen).reg = s.reg ∧ (s.chosen).web = s.web ∧
      (s.chosen).box = s.box ∧ (s.chosen).dwell = s.dwell ∧ (s.chosen).stand = s.stand ∧ (s.chosen).link = s.link ∧
      (s.chosen).peers = s.peers ∧ (s.chosen).port = s.port := by
  and_intros <;> rfl

@[simp] theorem signal_fields (s : State) (x : Source) :
    (s.signal x).pending = s.pending ∧ (s.signal x).now = s.now ∧ (s.signal x).choices = s.choices ∧ (s.signal x).sets = s.sets ∧
      (s.signal x).rate = s.rate ∧ (s.signal x).cad = s.cad ∧ (s.signal x).pat = s.pat ∧ (s.signal x).dec = s.dec ∧
      (s.signal x).knife = s.knife ∧ (s.signal x).leader = s.leader ∧ (s.signal x).follower = s.follower ∧ (s.signal x).reg = s.reg ∧
      (s.signal x).web = s.web ∧ (s.signal x).box = s.box ∧ (s.signal x).dwell = s.dwell ∧ (s.signal x).stand = s.stand ∧
      (s.signal x).link = s.link ∧ (s.signal x).peers = s.peers ∧ (s.signal x).port = { s.port with ip := s.port.ip ||| x.flag } := by
  and_intros <;> rfl

@[simp] theorem setSpindle_fields (s : State) (id : SpindleId) (x : Spindle) :
    (s.setSpindle id x).pending = s.pending ∧ (s.setSpindle id x).now = s.now ∧ (s.setSpindle id x).choices = s.choices ∧
      (s.setSpindle id x).sets = s.sets ∧ (s.setSpindle id x).rate = s.rate ∧ (s.setSpindle id x).cad = s.cad ∧
      (s.setSpindle id x).pat = s.pat ∧ (s.setSpindle id x).dec = s.dec ∧ (s.setSpindle id x).knife = s.knife ∧
      (s.setSpindle id x).leader = s.leader ∧ (s.setSpindle id x).follower = s.follower ∧ (s.setSpindle id x).reg = s.reg ∧
      (s.setSpindle id x).web = s.web ∧ (s.setSpindle id x).box = s.box ∧ (s.setSpindle id x).dwell = s.dwell ∧
      (s.setSpindle id x).stand = s.stand.setSpindle id x ∧ (s.setSpindle id x).link = s.link ∧ (s.setSpindle id x).peers = s.peers ∧
      (s.setSpindle id x).port = s.port := by
  and_intros <;> rfl

@[simp] theorem setZone_fields (s : State) (z : Fin 4) (r : Zone) :
    (s.setZone z r).pending = s.pending ∧ (s.setZone z r).now = s.now ∧ (s.setZone z r).choices = s.choices ∧
      (s.setZone z r).sets = s.sets ∧ (s.setZone z r).rate = s.rate ∧ (s.setZone z r).cad = s.cad ∧ (s.setZone z r).pat = s.pat ∧
      (s.setZone z r).dec = s.dec ∧ (s.setZone z r).knife = s.knife ∧ (s.setZone z r).leader = s.leader ∧
      (s.setZone z r).follower = s.follower ∧ (s.setZone z r).reg = s.reg ∧ (s.setZone z r).web = s.web ∧
      (s.setZone z r).box = { s.box with zones := s.box.zones.set z r } ∧ (s.setZone z r).dwell = s.dwell ∧
      (s.setZone z r).stand = s.stand ∧ (s.setZone z r).link = s.link ∧ (s.setZone z r).peers = s.peers ∧
      (s.setZone z r).port = s.port := by
  and_intros <;> rfl

@[simp] theorem setPeer_fields (s : State) (id : StationId) (p : Peer) :
    (s.setPeer id p).pending = s.pending ∧ (s.setPeer id p).now = s.now ∧ (s.setPeer id p).choices = s.choices ∧
      (s.setPeer id p).sets = s.sets ∧ (s.setPeer id p).rate = s.rate ∧ (s.setPeer id p).cad = s.cad ∧ (s.setPeer id p).pat = s.pat ∧
      (s.setPeer id p).dec = s.dec ∧ (s.setPeer id p).knife = s.knife ∧ (s.setPeer id p).leader = s.leader ∧
      (s.setPeer id p).follower = s.follower ∧ (s.setPeer id p).reg = s.reg ∧ (s.setPeer id p).web = s.web ∧
      (s.setPeer id p).box = s.box ∧ (s.setPeer id p).dwell = s.dwell ∧ (s.setPeer id p).stand = s.stand ∧
      (s.setPeer id p).link = s.link ∧ (s.setPeer id p).peers = s.peers.set id p ∧ (s.setPeer id p).port = s.port := by
  and_intros <;> rfl

@[simp] theorem releaseDrain_fields (s : State) :
    (s.releaseDrain).pending = s.pending ∧ (s.releaseDrain).now = s.now ∧ (s.releaseDrain).choices = s.choices ∧
      (s.releaseDrain).sets = s.sets ∧ (s.releaseDrain).rate = s.rate ∧ (s.releaseDrain).cad = s.cad ∧ (s.releaseDrain).pat = s.pat ∧
      (s.releaseDrain).dec = s.dec ∧ (s.releaseDrain).knife = s.knife ∧ (s.releaseDrain).leader = s.leader ∧
      (s.releaseDrain).follower = s.follower ∧ (s.releaseDrain).reg = s.reg ∧ (s.releaseDrain).web = s.web ∧
      (s.releaseDrain).box = { s.box with owner := none, purgeDue := 0 } ∧ (s.releaseDrain).dwell = s.dwell ∧
      (s.releaseDrain).stand = s.stand ∧ (s.releaseDrain).link = s.link ∧ (s.releaseDrain).peers = s.peers ∧
      (s.releaseDrain).port = s.port := by
  and_intros <;> rfl

@[simp] theorem rewind_fields (s : State) :
    (s.rewind).pending = s.pending ∧ (s.rewind).now = s.now ∧ (s.rewind).choices = s.choices ∧ (s.rewind).sets = s.sets ∧
      (s.rewind).rate = s.rate ∧ (s.rewind).cad = s.cad ∧ (s.rewind).pat = s.pat ∧ (s.rewind).dec = {} ∧ (s.rewind).knife = s.knife ∧
      (s.rewind).leader = s.leader ∧ (s.rewind).follower = s.follower ∧ (s.rewind).reg = s.reg ∧ (s.rewind).web = s.web ∧
      (s.rewind).box = s.box ∧ (s.rewind).dwell = s.dwell ∧ (s.rewind).stand = s.stand ∧ (s.rewind).link = s.link ∧
      (s.rewind).peers = s.peers ∧ (s.rewind).port = s.port := by
  and_intros <;> rfl

@[simp] theorem requestRun_fields (s : State) (mode : CadenceMode) (pn : Nat) :
    (s.requestRun mode pn).pending = s.pending ∧ (s.requestRun mode pn).now = s.now ∧ (s.requestRun mode pn).choices = s.choices ∧
      (s.requestRun mode pn).sets = s.sets ∧ (s.requestRun mode pn).rate = s.rate ∧
      (s.requestRun mode pn).cad = { s.cad with mode := mode, begun := false, pn := pn, cur := none, remaining := 0, idx := 0, lastPulse := none } ∧
      (s.requestRun mode pn).pat = s.pat ∧ (s.requestRun mode pn).dec = s.dec ∧ (s.requestRun mode pn).knife = s.knife ∧
      (s.requestRun mode pn).leader = s.leader ∧ (s.requestRun mode pn).follower = s.follower ∧ (s.requestRun mode pn).reg = s.reg ∧
      (s.requestRun mode pn).web = s.web ∧ (s.requestRun mode pn).box = s.box ∧ (s.requestRun mode pn).dwell = s.dwell ∧
      (s.requestRun mode pn).stand = s.stand ∧ (s.requestRun mode pn).link = s.link ∧ (s.requestRun mode pn).peers = s.peers ∧
      (s.requestRun mode pn).port = s.port := by
  and_intros <;> rfl

@[simp] theorem beginSegment_fields (s : State) (kind : SegmentKind) :
    (s.beginSegment kind).pending = s.pending ∧ (s.beginSegment kind).now = s.now ∧ (s.beginSegment kind).choices = s.choices ∧
      (s.beginSegment kind).sets = s.sets ∧ (s.beginSegment kind).rate = s.rate ∧ (s.beginSegment kind).cad = s.cad ∧
      (s.beginSegment kind).pat = s.pat ∧ (s.beginSegment kind).dec = s.dec ∧ (s.beginSegment kind).knife = s.knife ∧
      (s.beginSegment kind).leader = s.leader ∧ (s.beginSegment kind).follower = s.follower ∧ (s.beginSegment kind).reg = s.reg ∧
      (s.beginSegment kind).web = { s.web with seg := { kind := kind, start := s.knifePoint, outletStart := s.web.o } } ∧
      (s.beginSegment kind).box = s.box ∧ (s.beginSegment kind).dwell = s.dwell ∧ (s.beginSegment kind).stand = s.stand ∧
      (s.beginSegment kind).link = s.link ∧ (s.beginSegment kind).peers = s.peers ∧ (s.beginSegment kind).port = s.port := by
  and_intros <;> rfl

@[simp] theorem setTarget_fields (s : State) (target : Pos) :
    (s.setTarget target).pending = s.pending ∧ (s.setTarget target).now = s.now ∧ (s.setTarget target).choices = s.choices ∧
      (s.setTarget target).sets = s.sets ∧ (s.setTarget target).rate = s.rate ∧ (s.setTarget target).cad = s.cad ∧
      (s.setTarget target).pat = s.pat ∧ (s.setTarget target).dec = s.dec ∧ (s.setTarget target).knife = s.knife ∧
      (s.setTarget target).leader = { s.leader with target := target, targetSet := true } ∧ (s.setTarget target).follower = s.follower ∧
      (s.setTarget target).reg = s.reg ∧ (s.setTarget target).web = s.web ∧ (s.setTarget target).box = s.box ∧
      (s.setTarget target).dwell = s.dwell ∧ (s.setTarget target).stand = s.stand ∧ (s.setTarget target).link = s.link ∧
      (s.setTarget target).peers = s.peers ∧ (s.setTarget target).port = s.port := by
  and_intros <;> rfl

@[simp] theorem setDeskew_fields (s : State) (ch : Fin 8) (due : Option Nat) :
    (s.setDeskew ch due).pending = s.pending ∧ (s.setDeskew ch due).now = s.now ∧ (s.setDeskew ch due).choices = s.choices ∧
      (s.setDeskew ch due).sets = s.sets ∧ (s.setDeskew ch due).rate = s.rate ∧ (s.setDeskew ch due).cad = s.cad ∧
      (s.setDeskew ch due).pat = s.pat ∧ (s.setDeskew ch due).dec = s.dec ∧ (s.setDeskew ch due).knife = s.knife ∧
      (s.setDeskew ch due).leader = s.leader ∧ (s.setDeskew ch due).follower = s.follower ∧
      (s.setDeskew ch due).reg = { s.reg with timers := s.reg.timers.set ch due } ∧ (s.setDeskew ch due).web = s.web ∧
      (s.setDeskew ch due).box = s.box ∧ (s.setDeskew ch due).dwell = s.dwell ∧ (s.setDeskew ch due).stand = s.stand ∧
      (s.setDeskew ch due).link = s.link ∧ (s.setDeskew ch due).peers = s.peers ∧ (s.setDeskew ch due).port = s.port := by
  and_intros <;> rfl

@[simp] theorem setRaw_fields (s : State) (ch : Fin 8) (level : Bool) :
    (s.setRaw ch level).pending = s.pending ∧ (s.setRaw ch level).now = s.now ∧ (s.setRaw ch level).choices = s.choices ∧
      (s.setRaw ch level).sets = s.sets ∧ (s.setRaw ch level).rate = s.rate ∧ (s.setRaw ch level).cad = s.cad ∧
      (s.setRaw ch level).pat = s.pat ∧ (s.setRaw ch level).dec = s.dec ∧ (s.setRaw ch level).knife = s.knife ∧
      (s.setRaw ch level).leader = s.leader ∧ (s.setRaw ch level).follower = s.follower ∧
      (s.setRaw ch level).reg = { s.reg with raw := setLevel s.reg.raw ch level } ∧ (s.setRaw ch level).web = s.web ∧
      (s.setRaw ch level).box = s.box ∧ (s.setRaw ch level).dwell = s.dwell ∧ (s.setRaw ch level).stand = s.stand ∧
      (s.setRaw ch level).link = s.link ∧ (s.setRaw ch level).peers = s.peers ∧ (s.setRaw ch level).port = s.port := by
  and_intros <;> rfl

@[simp] theorem countPulse_fields (s : State) :
    (s.countPulse).pending = s.pending ∧ (s.countPulse).now = s.now ∧ (s.countPulse).choices = s.choices ∧ (s.countPulse).sets = s.sets ∧
      (s.countPulse).rate = s.rate ∧ (s.countPulse).cad = { s.cad with idx := s.cad.idx + 1, lastPulse := some s.now } ∧
      (s.countPulse).pat = s.pat ∧ (s.countPulse).dec = s.dec ∧ (s.countPulse).knife = s.knife ∧ (s.countPulse).leader = s.leader ∧
      (s.countPulse).follower = s.follower ∧ (s.countPulse).reg = s.reg ∧ (s.countPulse).web = s.web ∧ (s.countPulse).box = s.box ∧
      (s.countPulse).dwell = s.dwell ∧ (s.countPulse).stand = s.stand ∧ (s.countPulse).link = s.link ∧ (s.countPulse).peers = s.peers ∧
      (s.countPulse).port = s.port := by
  and_intros <;> rfl

@[simp] theorem enterPhase_fields (s : State) (p : KnifePhase) (ms : Nat) :
    (s.enterPhase p ms).pending = s.pending ∧ (s.enterPhase p ms).now = s.now ∧ (s.enterPhase p ms).choices = s.choices ∧
      (s.enterPhase p ms).sets = s.sets ∧ (s.enterPhase p ms).rate = s.rate ∧ (s.enterPhase p ms).cad = s.cad ∧
      (s.enterPhase p ms).pat = s.pat ∧ (s.enterPhase p ms).dec = s.dec ∧
      (s.enterPhase p ms).knife = { s.knife with phase := p, due := s.now + 1000 * ms } ∧ (s.enterPhase p ms).leader = s.leader ∧
      (s.enterPhase p ms).follower = s.follower ∧ (s.enterPhase p ms).reg = s.reg ∧ (s.enterPhase p ms).web = s.web ∧
      (s.enterPhase p ms).box = s.box ∧ (s.enterPhase p ms).dwell = s.dwell ∧ (s.enterPhase p ms).stand = s.stand ∧
      (s.enterPhase p ms).link = s.link ∧ (s.enterPhase p ms).peers = s.peers ∧ (s.enterPhase p ms).port = s.port := by
  and_intros <;> rfl

@[simp] theorem beginStepping_fields (s : State) :
    (s.beginStepping).pending = s.pending ∧ (s.beginStepping).now = s.now ∧ (s.beginStepping).choices = s.choices ∧
      (s.beginStepping).sets = s.sets ∧ (s.beginStepping).rate = s.rate ∧
      (s.beginStepping).cad = { s.cad with begun := true, carry := 0, cur := none } ∧ (s.beginStepping).pat = s.pat ∧
      (s.beginStepping).dec = s.dec ∧ (s.beginStepping).knife = s.knife ∧ (s.beginStepping).leader = s.leader ∧
      (s.beginStepping).follower = s.follower ∧ (s.beginStepping).reg = s.reg ∧ (s.beginStepping).web = s.web ∧
      (s.beginStepping).box = s.box ∧ (s.beginStepping).dwell = s.dwell ∧ (s.beginStepping).stand = s.stand ∧
      (s.beginStepping).link = s.link ∧ (s.beginStepping).peers = s.peers ∧ (s.beginStepping).port = s.port := by
  and_intros <;> rfl

@[simp] theorem countForeign_fields (s : State) :
    (s.countForeign).pending = s.pending ∧ (s.countForeign).now = s.now ∧ (s.countForeign).choices = s.choices ∧
      (s.countForeign).sets = s.sets ∧ (s.countForeign).rate = s.rate ∧ (s.countForeign).cad = s.cad ∧ (s.countForeign).pat = s.pat ∧
      (s.countForeign).dec = s.dec ∧ (s.countForeign).knife = s.knife ∧ (s.countForeign).leader = s.leader ∧
      (s.countForeign).follower = s.follower ∧ (s.countForeign).reg = s.reg ∧ (s.countForeign).web = s.web ∧
      (s.countForeign).box = s.box ∧ (s.countForeign).dwell = s.dwell ∧ (s.countForeign).stand = s.stand ∧
      (s.countForeign).link = { s.link with foreign := satInc s.link.foreign } ∧ (s.countForeign).peers = s.peers ∧
      (s.countForeign).port = s.port := by
  and_intros <;> rfl

@[simp] theorem dropLog_fields (s : State) (count : Nat) :
    (s.dropLog count).pending = s.pending ∧ (s.dropLog count).now = s.now ∧ (s.dropLog count).choices = s.choices ∧
      (s.dropLog count).sets = s.sets ∧ (s.dropLog count).rate = s.rate ∧ (s.dropLog count).cad = s.cad ∧ (s.dropLog count).pat = s.pat ∧
      (s.dropLog count).dec = s.dec ∧ (s.dropLog count).knife = s.knife ∧ (s.dropLog count).leader = s.leader ∧
      (s.dropLog count).follower = s.follower ∧ (s.dropLog count).reg = s.reg ∧ (s.dropLog count).web = s.web ∧
      (s.dropLog count).box = s.box ∧ (s.dropLog count).dwell = s.dwell ∧
      (s.dropLog count).stand = { s.stand with log := s.stand.log.drop count, overflow := false } ∧ (s.dropLog count).link = s.link ∧
      (s.dropLog count).peers = s.peers ∧ (s.dropLog count).port = s.port := by
  and_intros <;> rfl

@[simp] theorem openRange_fields (s : State) (start : Pos) :
    (s.openRange start).pending = s.pending ∧ (s.openRange start).now = s.now ∧ (s.openRange start).choices = s.choices ∧
      (s.openRange start).sets = s.sets ∧ (s.openRange start).rate = s.rate ∧ (s.openRange start).cad = s.cad ∧
      (s.openRange start).pat = s.pat ∧ (s.openRange start).dec = s.dec ∧ (s.openRange start).knife = s.knife ∧
      (s.openRange start).leader = s.leader ∧ (s.openRange start).follower = s.follower ∧ (s.openRange start).reg = s.reg ∧
      (s.openRange start).web = s.web ∧ (s.openRange start).box = s.box ∧
      (s.openRange start).dwell = { s.dwell with range := some { start := start, extent := s.sets.box.cell } } ∧
      (s.openRange start).stand = s.stand ∧ (s.openRange start).link = s.link ∧ (s.openRange start).peers = s.peers ∧
      (s.openRange start).port = s.port := by
  and_intros <;> rfl

@[simp] theorem pulseCut_fields (s : State) :
    (s.pulseCut).pending = s.pending ∧ (s.pulseCut).now = s.now ∧ (s.pulseCut).choices = s.choices ∧ (s.pulseCut).sets = s.sets ∧
      (s.pulseCut).rate = s.rate ∧ (s.pulseCut).cad = s.cad ∧ (s.pulseCut).pat = s.pat ∧ (s.pulseCut).dec = s.dec ∧
      (s.pulseCut).knife = s.knife ∧ (s.pulseCut).leader = s.leader ∧ (s.pulseCut).follower = s.follower ∧ (s.pulseCut).reg = s.reg ∧
      (s.pulseCut).web = s.web ∧ (s.pulseCut).box = s.box ∧ (s.pulseCut).dwell = s.dwell ∧
      (s.pulseCut).stand = { s.stand with cutDue := some (s.now + 100000) } ∧ (s.pulseCut).link = s.link ∧ (s.pulseCut).peers = s.peers ∧
      (s.pulseCut).port = s.port := by
  and_intros <;> rfl

@[simp] theorem rollEvent_fields (s : State) (c : RollCause) (id : SpindleId) :
    (s.rollEvent c id).pending = s.pending ∧ (s.rollEvent c id).now = s.now ∧ (s.rollEvent c id).choices = s.choices ∧
      (s.rollEvent c id).sets = s.sets ∧ (s.rollEvent c id).rate = s.rate ∧ (s.rollEvent c id).cad = s.cad ∧
      (s.rollEvent c id).pat = s.pat ∧ (s.rollEvent c id).dec = s.dec ∧ (s.rollEvent c id).knife = s.knife ∧
      (s.rollEvent c id).leader = s.leader ∧ (s.rollEvent c id).follower = s.follower ∧ (s.rollEvent c id).reg = s.reg ∧
      (s.rollEvent c id).web = s.web ∧ (s.rollEvent c id).box = s.box ∧ (s.rollEvent c id).dwell = s.dwell ∧
      (s.rollEvent c id).stand = { s.stand with change := some { cause := c, spindle := id, roll := (s.stand.spindle id).roll } } ∧
      (s.rollEvent c id).link = s.link ∧ (s.rollEvent c id).peers = s.peers ∧
      (s.rollEvent c id).port = { s.port with ip := s.port.ip ||| Source.roll.flag } := by
  and_intros <;> rfl

@[simp] theorem linkEvent_fields (s : State) (c : LinkCause) (id : Option StationId) :
    (s.linkEvent c id).pending = s.pending ∧ (s.linkEvent c id).now = s.now ∧ (s.linkEvent c id).choices = s.choices ∧
      (s.linkEvent c id).sets = s.sets ∧ (s.linkEvent c id).rate = s.rate ∧ (s.linkEvent c id).cad = s.cad ∧
      (s.linkEvent c id).pat = s.pat ∧ (s.linkEvent c id).dec = s.dec ∧ (s.linkEvent c id).knife = s.knife ∧
      (s.linkEvent c id).leader = s.leader ∧ (s.linkEvent c id).follower = s.follower ∧ (s.linkEvent c id).reg = s.reg ∧
      (s.linkEvent c id).web = s.web ∧ (s.linkEvent c id).box = s.box ∧ (s.linkEvent c id).dwell = s.dwell ∧
      (s.linkEvent c id).stand = s.stand ∧
      (s.linkEvent c id).link = { s.link with change := some { cause := c, peer := id, rxErrors := s.link.rxErrors } } ∧
      (s.linkEvent c id).peers = s.peers ∧ (s.linkEvent c id).port = { s.port with ip := s.port.ip ||| Source.link.flag } := by
  and_intros <;> rfl

@[simp] theorem limits_fields (s : State) :
    (s.limits).pending = s.pending ∧ (s.limits).now = s.now ∧ (s.limits).choices = s.choices ∧ (s.limits).sets = s.sets ∧
      (s.limits).cad = s.cad ∧ (s.limits).pat = s.pat ∧ (s.limits).dec = s.dec ∧ (s.limits).knife = s.knife ∧
      (s.limits).leader = s.leader ∧ (s.limits).follower = s.follower ∧ (s.limits).reg = s.reg ∧ (s.limits).web = s.web ∧
      (s.limits).box = s.box ∧ (s.limits).dwell = s.dwell ∧ (s.limits).stand = s.stand ∧ (s.limits).link = s.link ∧
      (s.limits).peers = s.peers ∧ (s.limits).port = s.port := by
  and_intros <;> rfl

/-! ## The Dwell Table at START, a run's beginning, and the pins -/

@[simp] theorem startDwell_nextStart (s : State) : s.startDwell.dwell.nextStart = s.web.o + toPos s.sets.box.cell := rfl
@[simp] theorem startDwell_range (s : State) : s.startDwell.dwell.range = none := rfl
@[simp] theorem startDwell_tag (s : State) : s.startDwell.dwell.tag = none := rfl
@[simp] theorem startDwell_web (s : State) : s.startDwell.web = s.web := rfl
@[simp] theorem startDwell_sets (s : State) : s.startDwell.sets = s.sets := rfl
@[simp] theorem beginContinuous_carry (s : State) : s.beginContinuous.cad.carry = 0 := rfl
@[simp] theorem beginContinuous_begun (s : State) : s.beginContinuous.cad.begun = true := rfl
@[simp] theorem beginContinuous_rate (s : State) : s.beginContinuous.rate = s.rate := rfl
@[simp] theorem pins_low (s : State) : s.pins true = .off := rfl
@[simp] theorem pins_high (s : State) : s.pins false = s.outputs := rfl

/-! ## One entry of a vector replaced -/

@[simp] theorem setZone_zone (s : State) (z y : Fin 4) (r : Zone) : (s.setZone z r).zone y = if y = z then r else s.zone y := by
  unfold State.setZone State.zone
  by_cases h : y = z
  · subst h; simp
  · have : z.val ≠ y.val := fun e => h (Fin.ext e.symm)
    simp [h, this]

@[simp] theorem setPeer_peer (s : State) (x y : StationId) (p : Peer) : (s.setPeer x p).peer y = if y = x then p else s.peer y := by
  unfold State.setPeer State.peer
  by_cases h : y = x
  · subst h; simp
  · have : x.val ≠ y.val := fun e => h (Fin.ext e.symm)
    simp [h, this]

@[simp] theorem setSpindle_spindle (t : Stand) (x y : SpindleId) (r : Spindle) :
    (t.setSpindle x r).spindle y = if y = x then r else t.spindle y := by
  cases x <;> cases y <;> rfl

theorem tabulate_get {α : Type} {n : Nat} (f : Fin n → α) (i : Fin n) : (tabulate f)[i] = f i := by
  simp [tabulate]

end Sys2Proof.Machine
end

