-- ==== Sys2Proof/Laws/Ops.lean ====
section
/-! SUPPORT. What each shared operation can do, said once: the pattern store's bytes, the latch, the effective rate, faults, the port's
taking of a command, the limits. -/

namespace Sys2Proof.Machine

/-! ## The pattern store -/

theorem storeWf_weaken {lo lo' : Nat} (h : lo' ≤ lo) : ∀ {m : List Host.Cell}, storeWfFrom lo m = true → storeWfFrom lo' m = true
  | [], _ => rfl
  | (b, v) :: rest, hm => by
    simp only [storeWfFrom, Bool.and_eq_true, decide_eq_true_eq] at hm ⊢
    exact ⟨⟨⟨by omega, hm.1.1.2⟩, hm.1.2⟩, hm.2⟩

/-- A write below 4096 keeps the canonical form. -/
theorem writeStore_wf (a : Nat) (v : Byte) (ha : a < 4096) :
    ∀ (m : List Host.Cell) (lo : Nat), lo ≤ a → storeWfFrom lo m = true → storeWfFrom lo (writeStore m a v) = true
  | [], lo, hl, _ => by
    unfold writeStore
    split
    · rfl
    · simp [storeWfFrom, *]
  | (b, w) :: rest, lo, hl, hm => by
    have h := hm
    simp only [storeWfFrom, Bool.and_eq_true, decide_eq_true_eq] at h
    unfold writeStore
    split
    · split
      · exact hm
      · rename_i hab hv
        simp only [storeWfFrom, Bool.and_eq_true, decide_eq_true_eq, bne_iff_ne]
        exact ⟨⟨⟨hl, ha⟩, hv⟩, ⟨⟨by omega, h.1.1.2⟩, by simpa using h.1.2⟩, h.2⟩
    · split
      · rename_i hab
        subst hab
        split
        · exact storeWf_weaken (by omega) h.2
        · rename_i hv
          simp only [storeWfFrom, Bool.and_eq_true, decide_eq_true_eq, bne_iff_ne]
          exact ⟨⟨⟨hl, ha⟩, hv⟩, h.2⟩
      · simp only [storeWfFrom, Bool.and_eq_true, decide_eq_true_eq]
        exact ⟨h.1, writeStore_wf a v ha rest (b + 1) (by omega) h.2⟩

/-- A chunk that ends at or below 4096 keeps the canonical form. -/
theorem writeChunk_wf (bytes : List Byte) : ∀ (m : List Host.Cell) (off : Nat), off + bytes.length ≤ 4096 → Memory.wf m = true →
    Memory.wf (writeChunk m off bytes) = true := by
  induction bytes with
  | nil => intro m off _ h; exact h
  | cons v vs ih =>
    intro m off ho h
    simp only [List.length_cons] at ho
    exact ih _ _ (by omega) (writeStore_wf off v (by omega) m 0 (by omega) h)

/-- Below the first listed address every byte reads as the default. -/
theorem readStore_below : ∀ (m : List Host.Cell) (lo a : Nat), storeWfFrom lo m = true → a < lo → readStore m a = storeDefault
  | [], _, _, _, _ => rfl
  | (b, v) :: rest, lo, a, hm, h => by
    simp only [storeWfFrom, Bool.and_eq_true, decide_eq_true_eq] at hm
    rw [readStore, if_neg (by omega)]
    exact readStore_below rest (b + 1) a hm.2 (by omega)

/-- A byte just written reads as written. -/
theorem readStore_writeStore_same (a : Nat) (v : Byte) :
    ∀ (m : List Host.Cell) (lo : Nat), storeWfFrom lo m = true → readStore (writeStore m a v) a = v
  | [], _, _ => by
    unfold writeStore
    split
    · simp [readStore, *]
    · simp [readStore]
  | (b, w) :: rest, lo, hm => by
    have h := hm
    simp only [storeWfFrom, Bool.and_eq_true, decide_eq_true_eq] at h
    unfold writeStore
    split
    · split
      · rename_i hab hv
        rw [readStore, if_neg (by omega), hv]
        exact readStore_below rest (b + 1) a h.2 (by omega)
      · simp [readStore]
    · split
      · rename_i hab
        subst hab
        split
        · rename_i hv
          rw [hv]
          exact readStore_below rest (a + 1) a h.2 (by omega)
        · simp [readStore]
      · rw [readStore, if_neg (by omega)]
        exact readStore_writeStore_same a v rest (b + 1) h.2

/-- A write leaves every other byte as it reads. -/
theorem readStore_writeStore_other (a c : Nat) (v : Byte) (hc : c ≠ a) :
    ∀ (m : List Host.Cell) (lo : Nat), storeWfFrom lo m = true → readStore (writeStore m a v) c = readStore m c
  | [], _, _ => by
    unfold writeStore
    split
    · rfl
    · simp [readStore, Ne.symm hc]
  | (b, w) :: rest, lo, hm => by
    have h := hm
    simp only [storeWfFrom, Bool.and_eq_true, decide_eq_true_eq] at h
    unfold writeStore
    split
    · split
      · rfl
      · rw [readStore, if_neg (Ne.symm hc)]
    · split
      · rename_i hab
        subst hab
        split
        · rw [readStore, if_neg (Ne.symm hc)]
        · rw [readStore, if_neg (Ne.symm hc), readStore, if_neg (Ne.symm hc)]
      · rw [readStore, readStore]
        split
        · rfl
        · exact readStore_writeStore_other a c v hc rest (b + 1) h.2

/-! ## The latch, the effective rate and faults -/

@[simp] theorem setEffective_effective (s : State) (e : Nat) : (s.setEffective e).rate.effective = e := by
  unfold State.setEffective; split
  · rename_i h; exact h.symm
  · rfl

/-- A new effective rate touches the rate, the cadence, the knife and the idle timer alone. -/
theorem setEffective_rest (s : State) (e : Nat) :
    (s.setEffective e).rate.latch = s.rate.latch ∧ (s.setEffective e).rate.cause = s.rate.cause
      ∧ (s.setEffective e).port = s.port ∧ (s.setEffective e).web = s.web ∧ (s.setEffective e).link = s.link
      ∧ (s.setEffective e).dwell = s.dwell ∧ (s.setEffective e).stand = s.stand
      ∧ (s.setEffective e).box.zones = s.box.zones ∧ (s.setEffective e).choices = s.choices := by
  unfold State.setEffective; split <;> and_intros <;> rfl

/-- What setting the latch leaves of the latch, its cause and the rate (R6). -/
theorem setLatch_rate (s : State) (c : StopCause) :
    (s.setLatch c).rate.latch = true ∧ (s.setLatch c).rate.cause = some c ∧ (s.setLatch c).rate.effective = 0 := by
  unfold State.setLatch
  simp only
  split <;> simp [setEffective_rest]

/-- What setting the latch leaves alone. -/
theorem setLatch_rest (s : State) (c : StopCause) :
    (s.setLatch c).web = s.web ∧ (s.setLatch c).link = s.link ∧ (s.setLatch c).dwell = s.dwell
      ∧ (s.setLatch c).stand = s.stand ∧ (s.setLatch c).port.state = s.port.state ∧ (s.setLatch c).port.fault = s.port.fault := by
  unfold State.setLatch
  simp only
  split <;> simp [setEffective_rest]

/-- A fault raised in JOINING or ACTIVE (R188, R189): FAULT, the record, the latch with its cause, and the effective rate 0. -/
theorem raiseFault_entry (s : State) (f : StationFault) (h : s.port.state = .joining ∨ s.port.state = .active) :
    (s.raiseFault f).port.state = .fault ∧ (s.raiseFault f).port.fault = some { first := f, further := false }
      ∧ (s.raiseFault f).rate.latch = true ∧ (s.raiseFault f).rate.cause = some { origin := .fault, reason := f.code }
      ∧ (s.raiseFault f).rate.effective = 0 ∧ (s.raiseFault f).link.stopResume = some (.stop f.code) := by
  have hr : s.raiseFault f = (s.signal .fault).enterFault f := by
    unfold State.raiseFault; rcases h with h | h <;> rw [h]
  rw [hr]
  unfold State.enterFault State.handStopResume
  have hs := setLatch_rest { s.signal .fault with port.state := .fault, port.fault := some { first := f, further := false } }
    { origin := .fault, reason := f.code }
  have hl := setLatch_rate { s.signal .fault with port.state := .fault, port.fault := some { first := f, further := false } }
    { origin := .fault, reason := f.code }
  rw [if_neg (by rw [hs.2.2.2.2.1]; exact fun c => by cases c)]
  exact ⟨hs.2.2.2.2.1, hs.2.2.2.2.2, hl.1, hl.2.1, hl.2.2, rfl⟩

/-! ## The port's taking of a command -/

@[simp] theorem refusalOf_nil : refusalOf [] = none := rfl

@[simp] theorem refusalOf_cons (b : Bool) (c : Byte) (rest : List (Bool × Byte)) :
    refusalOf ((b, c) :: rest) = if b then some c else refusalOf rest := by
  cases b <;> rfl

/-- A command taken during a pattern check (R31). -/
theorem takeCommand_busy {s : State} (h : s.pat.status = .checking) (args : List Byte) (refusal : Option Byte) (data : List Byte)
    (effect : State → State) : s.takeCommand args refusal data effect = s.answered args [busy] := by
  unfold State.takeCommand; simp only; rw [if_pos h]; rfl

/-- A refused command (R180). -/
theorem takeCommand_refused {s : State} (h : s.pat.status ≠ .checking) (args : List Byte) (code : Byte) (data : List Byte)
    (effect : State → State) : s.takeCommand args (some code) data effect = s.answered args [code] := by
  unfold State.takeCommand; simp only; rw [if_neg h]; rfl

/-- An accepted command: its effect between the shifting out and the response (R180). -/
theorem takeCommand_accepted {s : State} (h : s.pat.status ≠ .checking) (args : List Byte) (data : List Byte)
    (effect : State → State) :
    s.takeCommand args none data effect = (effect (s.shiftOut (8 * (1 + args.length)))).respond (accepted :: data) := by
  unfold State.takeCommand; simp only; rw [if_neg h]; rfl

/-- A command is answered BUSY, or refused, or has its effect and is ACCEPTED (R179, R180, R31). -/
theorem takeCommand_cases (s : State) (args : List Byte) (refusal : Option Byte) (data : List Byte) (effect : State → State) :
    s.takeCommand args refusal data effect =
      if s.pat.status = .checking then (s.shiftOut (8 * (1 + args.length))).respond [busy]
      else
        match refusal with
        | some code => (s.shiftOut (8 * (1 + args.length))).respond [code]
        | none => (effect (s.shiftOut (8 * (1 + args.length)))).respond (accepted :: data) := by
  unfold State.takeCommand
  simp only
  split
  · rfl
  · cases refusal <;> rfl

/-! ## The limits -/

/-- Forming the limits twice is forming them once. -/
theorem limits_idem (s : State) : s.limits.limits = s.limits := rfl

/-- After a settling the limits are those of the state at hand. -/
theorem settle_limitsCurrent (s : State) : s.settle.LimitsCurrent := limits_idem _

end Sys2Proof.Machine
end

