-- ==== Sys2Proof/Laws/Announce.lean ====
section
/-! SUPPORT. What an announcement, a mark that leaves, a cut or a fault never touches beside the still part of a state: the outlet count, the
segment, the bay queue, the knife's cycle and the zones. -/

namespace Sys2Proof.Machine

/-- The steady part of a state. -/
structure Steady where
  o : Pos
  seg : Segment
  bay : List BayEntry
  phase : KnifePhase
  cycle : Option Cycle
  due : Nat
  missed : Nat
  zones : Vector Zone 4
  owner : Option (Fin 4)
  purgeDue : Nat
  inForce : Bool
  change : Option ZoneEvent

/-- The steady part. -/
def State.steady (s : State) : Steady :=
  { o := s.web.o, seg := s.web.seg, bay := s.web.bay, phase := s.knife.phase, cycle := s.knife.cycle, due := s.knife.due
    missed := s.knife.missed, zones := s.box.zones, owner := s.box.owner, purgeDue := s.box.purgeDue, inForce := s.box.inForce
    change := s.box.change }

/-! ## Event signals, slots, the latch and faults -/

@[simp] theorem signal_steady (s : State) (x : Source) : (s.signal x).steady = s.steady := rfl

@[simp] theorem chosen_steady (s : State) : s.chosen.steady = s.steady := rfl

@[simp] theorem handStopResume_steady (s : State) (f : StopResume) : (s.handStopResume f).steady = s.steady := by
  unfold State.handStopResume; split <;> rfl

@[simp] theorem knife_rateChanged_zero (k : Knife) (old now : Nat) : k.rateChanged old 0 now = k := by
  simp [Knife.rateChanged]

@[simp] theorem setEffective_zero_steady (s : State) : (s.setEffective 0).steady = s.steady := by
  unfold State.setEffective; split <;> simp [State.steady]

theorem latched_steady (s : State) (c : StopCause) :
    State.steady { s with rate.latch := true, rate.cause := some c, knife := s.knife.latched } = s.steady := by
  unfold Knife.latched; split <;> rfl

@[simp] theorem setLatch_steady (s : State) (c : StopCause) : (s.setLatch c).steady = s.steady := by
  unfold State.setLatch
  simp only
  split
  · rw [setEffective_zero_steady, latched_steady]
  · rw [signal_steady, setEffective_zero_steady, latched_steady]

@[simp] theorem clearLatch_steady (s : State) : s.clearLatch.steady = s.steady := by
  unfold State.clearLatch; split <;> rfl

@[simp] theorem enterFault_steady (s : State) (f : StationFault) : (s.enterFault f).steady = s.steady := by
  unfold State.enterFault; rw [handStopResume_steady, setLatch_steady]; rfl

@[simp] theorem raiseFault_steady (s : State) (f : StationFault) : (s.raiseFault f).steady = s.steady := by
  unfold State.raiseFault; split <;> first | rfl | simp

@[simp] theorem handMark_steady (s : State) (m : MarkPayload) : (s.handMark m).steady = s.steady := by
  unfold State.handMark; split
  · rfl
  · split
    · simp
    · rfl

/-! ## Spindles, panels and cuts -/

@[simp] theorem setSpindle_steady (s : State) (id : SpindleId) (x : Spindle) : (s.setSpindle id x).steady = s.steady := rfl

@[simp] theorem rollEvent_steady (s : State) (c : RollCause) (id : SpindleId) : (s.rollEvent c id).steady = s.steady := rfl

@[simp] theorem logPanel_steady (s : State) (e : LogEntry) : (s.logPanel e).steady = s.steady := by
  unfold State.logPanel; split <;> rfl

@[simp] theorem judge_steady (s : State) (c : ClosedPanel) : (s.judge c).steady = s.steady := by
  unfold State.judge
  simp only [logPanel_steady]
  rfl

@[simp] theorem judgeEach_steady (cs rest : List ClosedPanel) : ∀ s : State, (s.judgeEach cs rest).steady = s.steady := by
  induction cs with
  | nil => intro s; rfl
  | cons c cs ih => intro s; exact (ih (s.judge c)).trans (judge_steady s c)

@[simp] theorem judgeDue_steady (s : State) : s.judgeDue.steady = s.steady := judgeEach_steady _ _ _

@[simp] theorem makeVerdictRoom_steady (s : State) : s.makeVerdictRoom.steady = s.steady := by
  unfold State.makeVerdictRoom; split
  · rfl
  · split
    · exact judge_steady _ _
    · rfl

@[simp] theorem closePanel_steady (s : State) (p : Pos) (f : Reasons → Reasons) : (s.closePanel p f).steady = s.steady := by
  unfold State.closePanel
  split
  · rfl
  · have h : (State.makeVerdictRoom
        { s with stand := { s.stand.countClosed (s.stand.inState .winding) with panel := none } }).steady = s.steady := by
      rw [makeVerdictRoom_steady]
      rfl
    simp only
    split
    · rw [judgeDue_steady]; exact h
    · exact h

@[simp] theorem closeIfFull_steady (s : State) (p : Pos) : (s.closeIfFull p).steady = s.steady := by
  unfold State.closeIfFull; split <;> simp

@[simp] theorem pulseCut_steady (s : State) : s.pulseCut.steady = s.steady := rfl

@[simp] theorem transferTo_steady (s : State) (id : SpindleId) : (s.transferTo id).steady = s.steady := by
  unfold State.transferTo
  simp only [rollEvent_steady, pulseCut_steady]
  rfl

@[simp] theorem transferCut_steady (s : State) : s.transferCut.steady = s.steady := by
  unfold State.transferCut; split
  · rfl
  · split <;> simp

@[simp] theorem splitCut_steady (s : State) (id : SpindleId) : (s.splitCut id).steady = s.steady := by
  simp [State.splitCut]

@[simp] theorem cutAtMaximum_steady (s : State) : s.cutAtMaximum.steady = s.steady := by
  unfold State.cutAtMaximum; split <;> simp

/-! ## Marks that leave and announcements -/

@[simp] theorem openPanelAt_steady (s : State) (p : Pos) (n : BitVec 16) : (s.openPanelAt p n).steady = s.steady := rfl

@[simp] theorem flagPanel_steady (s : State) (p : Pos) (f : Reasons → Reasons) : (s.flagPanel p f).steady = s.steady := by
  unfold State.flagPanel; split
  · rfl
  · split <;> rfl

@[simp] theorem undersetMark_steady (s : State) (p : Pos) (e : Nat) : (s.undersetMark p e).steady = s.steady := rfl

@[simp] theorem closeBeforeAbort_steady (s : State) (p : Pos) : (s.closeBeforeAbort p).steady = s.steady := by
  unfold State.closeBeforeAbort; split
  · split <;> simp
  · simp

@[simp] theorem handOff_steady (s : State) (m : Mark) : (s.handOff m).steady = s.steady := by
  unfold State.handOff; split
  · simp
  · simp
  · show (State.flagPanel _ _ _).steady = _
    simp
  · simp
  · simp

@[simp] theorem markLeaves_steady (s : State) (m : Mark) : (s.markLeaves m).steady = s.steady := by
  unfold State.markLeaves; split <;> simp

@[simp] theorem leaveFrom_steady (limit : Pos) (ms : List Mark) : ∀ s : State, (s.leaveFrom limit ms).steady = s.steady := by
  induction ms with
  | nil => intro s; rfl
  | cons m ms ih =>
    intro s
    unfold State.leaveFrom
    split
    · rw [ih, markLeaves_steady]
    · rfl

@[simp] theorem endPanel_steady (s : State) (p : Pos) : (s.endPanel p).steady = s.steady := by
  unfold State.endPanel; split <;> simp

@[simp] theorem sweepTo_steady (s : State) (p : Pos) : (s.sweepTo p).steady = s.steady := by simp [State.sweepTo]

@[simp] theorem outletSweep_steady (s : State) : s.outletSweep.steady = s.steady := sweepTo_steady _ _

theorem eitherOrder_steady (f g : State → State) (hf : ∀ t : State, (f t).steady = t.steady) (hg : ∀ t : State, (g t).steady = t.steady)
    (s : State) : (eitherOrder f g s).steady = s.steady := by
  unfold eitherOrder; split <;> simp [hf, hg]

@[simp] theorem account_steady (s : State) : s.account.steady = s.steady := by
  unfold State.account
  split
  · simp
  · rw [eitherOrder_steady _ _ cutAtMaximum_steady outletSweep_steady]; simp

@[simp] theorem insertOutlet_steady (s : State) (m : Mark) : (s.insertOutlet m).steady = s.steady := by
  unfold State.insertOutlet; split
  · simp
  · rfl

@[simp] theorem countAnnounced_steady (s : State) (m : Mark) : (s.countAnnounced m).steady = s.steady := rfl

@[simp] theorem announce_steady (s : State) (m : Mark) : (s.announce m).steady = s.steady := by
  unfold State.announce
  simp only [outletSweep_steady, insertOutlet_steady]
  split <;> simp

@[simp] theorem announceOwn_steady (s : State) (b : MarkBody) (p : Pos) : (s.announceOwn b p).steady = s.steady := announce_steady _ _

/-! ## The Dwell Table and credits -/

@[simp] theorem closeRange_steady (s : State) : s.closeRange.steady = s.steady := by
  unfold State.closeRange; split
  · rfl
  · next r _ =>
    have h := announceOwn_steady s (.underset (BitVec.ofNat 16 r.extent)) r.start
    simp only
    generalize s.announceOwn (.underset (BitVec.ofNat 16 r.extent)) r.start = t at h ⊢
    exact h

@[simp] theorem openRange_steady (s : State) (p : Pos) : (s.openRange p).steady = s.steady := rfl

@[simp] theorem undersetCell_steady (s : State) (p : Pos) : (s.undersetCell p).steady = s.steady := by
  unfold State.undersetCell; split
  · rfl
  · split
    · rfl
    · simp

@[simp] theorem exitCell_steady (s : State) (c : DwellCell) : (s.exitCell c).steady = s.steady := by
  unfold State.exitCell
  simp only
  split
  · rw [closeRange_steady]; rfl
  · rw [undersetCell_steady]; rfl

@[simp] theorem exitFrom_steady (cs : List DwellCell) : ∀ s : State, (s.exitFrom cs).steady = s.steady := by
  induction cs with
  | nil => intro s; rfl
  | cons c cs ih =>
    intro s
    unfold State.exitFrom
    split
    · rw [ih, exitCell_steady]
    · rfl

@[simp] theorem enterCells_steady (s : State) : s.enterCells.steady = s.steady := rfl

@[simp] theorem dwellAdvance_steady (s : State) : s.dwellAdvance.steady = s.steady := by
  unfold State.dwellAdvance; simp


end Sys2Proof.Machine
end

