-- ==== Sys2Proof/Laws/Config.lean ====
section
/-! SUPPORT. The settling in CONFIG: with every zone OFF and nothing waiting for a verdict it only forms the limits again. -/

namespace Sys2Proof.Machine

theorem tabulate_zones (zones : Vector Zone 4) : (tabulate fun (z : Fin 4) => zones[z]) = zones := by
  ext i hi
  exact tabulate_get (fun (z : Fin 4) => zones[z]) ⟨i, hi⟩

theorem valveRule_off (r : Zone) (rate : Nat) (h : r.state = .off) : r.valveRule rate = r := by
  unfold Zone.valveRule
  rw [if_neg (by rw [h]; exact fun c => by cases c.1), if_neg (by rw [h]; exact fun c => by cases c.1)]

/-- With every zone OFF the valves stand. -/
theorem moveValves_off (s : State) (hz : ∀ z, (s.zone z).state = .off) : s.moveValves = s := by
  have h : (fun (z : Fin 4) => (s.zone z).valveRule s.rate.effective) = fun (z : Fin 4) => s.box.zones[z] := by
    funext z
    exact valveRule_off _ _ (hz z)
  unfold State.moveValves
  rw [h, tabulate_zones]

/-- With every zone OFF there is no zone to grant the drain to. -/
theorem drainChoice_off (zones : Vector Zone 4) (hz : ∀ z : Fin 4, zones[z].state = .off) : drainChoice zones = none := by
  have h : ∀ z : Fin 4, betterForDrain zones none z = none := by
    intro z
    have hr : requestsDrain zones[z] = false := by unfold requestsDrain; rw [hz z]; rfl
    unfold betterForDrain
    rw [hr]; rfl
  have f : ∀ l : List (Fin 4), l.foldl (betterForDrain zones) none = none := by
    intro l
    induction l with
    | nil => rfl
    | cons z l ih => rw [List.foldl_cons, h, ih]
  exact f _

/-- The settling in CONFIG. -/
theorem settle_config (s : State) (hc : s.port.state = .config) (hl : s.rate.latch = false) (hv : s.stand.verdicts = [])
    (ho : s.box.owner = none) (hz : ∀ z, (s.zone z).state = .off) : s.settle = s.limits := by
  have h1 : s.judgeDue = s := judgeDue_of_none hv
  have h2 : s.joinTest = s := by unfold State.joinTest; rw [if_neg (by simp [hc])]
  have h3 : s.cutAtRest = s := by
    have : s.restCut = none := by unfold State.restCut; rw [if_neg (by simp [hc])]
    unfold State.cutAtRest; rw [this]
  have h4 : s.transferArm = s := by unfold State.transferArm; rw [if_neg (by simp [State.running, hc])]
  have h5 : s.arbitrate = s := by
    have : drainChoice s.box.zones = none := drainChoice_off _ hz
    unfold State.arbitrate; rw [ho, this]
  have h6 : s.keepWarmEntry = s := by unfold State.keepWarmEntry; rw [if_neg (by simp [State.running, hc])]
  rw [settle_of_clear hl, State.consequences, h1, h2, h3, h4, State.zoneSettle, moveValves_off s hz, h5, h6]

end Sys2Proof.Machine
end

