-- ==== Sys2Proof/Laws/Operands.lean ====
section
/-! SUPPORT. What the operand forms read back: a number from the bytes that carry it (11), field after field (11.3), and the peer condition of
keep-warm from the records (R118). -/

namespace Sys2Proof.Machine

/-! ## Bytes -/

@[simp] theorem toBytes_length (len n : Nat) : (toBytes len n).length = len := by simp [toBytes]

/-- The first byte of a field is the highest, and the rest are the field one byte shorter. -/
theorem toBytes_succ (len n : Nat) : toBytes (len + 1) n = BitVec.ofNat 8 (n / 256 ^ len) :: toBytes len n := by
  rw [toBytes, List.range_succ_eq_map, List.map_cons, List.map_map]
  refine congrArg₂ _ (by simp) (List.map_congr_left fun k _ => ?_)
  simp only [Function.comp_apply]
  congr 3
  omega

/-- Bytes read with a number before them. -/
theorem foldl_bytes (bytes : List Byte) : ∀ a : Nat,
    bytes.foldl (fun n (b : Byte) => 256 * n + b.toNat) a = a * 256 ^ bytes.length + ofBytes bytes := by
  induction bytes with
  | nil => intro a; simp [ofBytes]
  | cons b bs ih =>
    intro a
    rw [ofBytes, List.foldl_cons, List.foldl_cons, ih, ih, List.length_cons]
    ring

theorem ofBytes_cons (b : Byte) (bs : List Byte) : ofBytes (b :: bs) = b.toNat * 256 ^ bs.length + ofBytes bs := by
  rw [ofBytes, List.foldl_cons, foldl_bytes]; simp

/-- A number modulo the bytes that carry it is what they spell. -/
theorem ofBytes_toBytes_mod (len n : Nat) : ofBytes (toBytes len n) = n % 256 ^ len := by
  induction len with
  | zero => simp [toBytes, ofBytes, Nat.mod_one]
  | succ len ih =>
    have h : n % 256 ^ (len + 1) = n % 256 ^ len + 256 ^ len * (n / 256 ^ len % 256) := by rw [pow_succ, Nat.mod_mul]
    rw [toBytes_succ, ofBytes_cons, ih, toBytes_length, BitVec.toNat_ofNat, h, mul_comm, add_comm]

/-- A number that fits its bytes is what they spell. -/
theorem ofBytes_toBytes {len n : Nat} (h : n < 256 ^ len) : ofBytes (toBytes len n) = n := by
  rw [ofBytes_toBytes_mod, Nat.mod_eq_of_lt h]

/-- The field at the front is read back. -/
theorem numAt_toBytes {len n : Nat} (h : n < 256 ^ len) (rest : List Byte) : numAt (toBytes len n ++ rest) 0 len = n := by
  rw [numAt, List.drop_zero, List.take_left' (toBytes_length len n), ofBytes_toBytes h]

/-- A field behind the front one is read from the rest. -/
theorem numAt_behind (len n off k : Nat) (rest : List Byte) : numAt (toBytes len n ++ rest) (len + off) k = numAt rest off k := by
  have h := List.drop_length_add_append (l₁ := toBytes len n) (l₂ := rest) off
  rw [toBytes_length] at h
  rw [numAt, h, numAt]

/-- The bytes of fields, field by field. -/
@[simp] theorem bytesSent_nil : bytesSent [] = [] := rfl
@[simp] theorem bytesSent_cons (f : Nat × Nat) (fs : List (Nat × Nat)) : bytesSent (f :: fs) = toBytes f.1 f.2 ++ bytesSent fs := rfl
@[simp] theorem fitsBytes_cons (f : Nat × Nat) (fs : List (Nat × Nat)) : fitsBytes (f :: fs) ↔ f.2 < 256 ^ f.1 ∧ fitsBytes fs := by
  simp [fitsBytes]

/-! ## The peer condition (R118) -/

/-- The test the machine makes is the peer condition of the records. -/
theorem peerCondition_iff (s : State) : s.peerCondition = true ↔ s.PeersWake := by
  simp [State.peerCondition, State.livePeers, State.PeersWake, keepWarmFlag, imp_iff_not_or]

/-- Keep-warm is left, or nothing happens, by the peer condition. -/
theorem keepWarmPeers_cases (s : State) :
    (s.PeersWake ∧ s.keepWarmPeers = s.keepWarmExit) ∨ (¬s.PeersWake ∧ s.keepWarmPeers = s) := by
  rw [← peerCondition_iff, State.keepWarmPeers]
  by_cases h : s.peerCondition = true
  · exact .inl ⟨h, if_pos h⟩
  · exact .inr ⟨h, if_neg h⟩

end Sys2Proof.Machine
end

