-- ==== Sys2Proof/Laws/PerInstr.lean ====
section
/-! SUPPORT. Per-command lemmas: the port request of every well-formed command decodes to the command itself (R179, 11.3), one lemma for each
row of the table. A row that is no command of the port has no request. -/

namespace Sys2Proof.Laws.PortRoundTrip

/-- The request bytes of a well-formed command decode to that command. -/
def Statement (i : Instr) : Prop :=
  i.wf = true → ∀ command args, encodeRequest i = some (command, args) → decodeRequest command args = i

theorem powerOn (cause : ResetCause) : Statement (.powerOn cause) := by
  intro _ command args' h
  cases h

theorem fetch (bytes : Nat) : Statement (.fetch bytes) := by
  intro h command' args' e
  cases e
  have hw : 1 ≤ bytes := by simpa [Instr.wf] using h
  simp only [decodeRequest, if_true, List.length_replicate]
  congr 1
  omega

theorem transactionDiscarded (edges : Nat) : Statement (.transactionDiscarded edges) := by
  intro _ command args' h
  cases h

theorem unknownCommand (command : Byte) (args : List Byte) : Statement (.unknownCommand command args) := by
  intro h command' args' e
  cases e
  have hw : (commandBytes.contains command) = false ∧ command ≠ fetchByte := by
    simpa [Instr.wf] using h
  have hc := hw.1
  simp only [commandBytes, List.contains_eq_mem, List.mem_cons, List.not_mem_nil, or_false, not_or, decide_eq_false_iff_not] at hc
  simp only [decodeRequest, hw.2, hc, if_false]

theorem writeSet (args : List Byte) : Statement (.writeSet args) := by
  intro _ command args' h
  cases h
  rfl

theorem loadPattern (args : List Byte) : Statement (.loadPattern args) := by
  intro _ command args' h
  cases h
  rfl

theorem checkPattern (args : List Byte) : Statement (.checkPattern args) := by
  intro _ command args' h
  cases h
  rfl

theorem checkPatternEnd : Statement (.checkPatternEnd) := by
  intro _ command args' h
  cases h

theorem start (args : List Byte) : Statement (.start args) := by
  intro _ command args' h
  cases h
  rfl

theorem restart (args : List Byte) : Statement (.restart args) := by
  intro _ command args' h
  cases h
  rfl

theorem clearFault (args : List Byte) : Statement (.clearFault args) := by
  intro _ command args' h
  cases h
  rfl

theorem stop (args : List Byte) : Statement (.stop args) := by
  intro _ command args' h
  cases h
  rfl

theorem resume (args : List Byte) : Statement (.resume args) := by
  intro _ command args' h
  cases h
  rfl

theorem wake (args : List Byte) : Statement (.wake args) := by
  intro _ command args' h
  cases h
  rfl

theorem loadRoll (args : List Byte) : Statement (.loadRoll args) := by
  intro _ command args' h
  cases h
  rfl

theorem unload (args : List Byte) : Statement (.unload args) := by
  intro _ command args' h
  cases h
  rfl

theorem clearZone (args : List Byte) : Statement (.clearZone args) := by
  intro _ command args' h
  cases h
  rfl

theorem readStatus (args : List Byte) : Statement (.readStatus args) := by
  intro _ command args' h
  cases h
  rfl

theorem readPeerView (args : List Byte) : Statement (.readPeerView args) := by
  intro _ command args' h
  cases h
  rfl

theorem readQueues (args : List Byte) : Statement (.readQueues args) := by
  intro _ command args' h
  cases h
  rfl

theorem readPanelLog (args : List Byte) : Statement (.readPanelLog args) := by
  intro _ command args' h
  cases h
  rfl

theorem eventEnable (args : List Byte) : Statement (.eventEnable args) := by
  intro _ command args' h
  cases h
  rfl

theorem eventAcknowledge (args : List Byte) : Statement (.eventAcknowledge args) := by
  intro _ command args' h
  cases h
  rfl

theorem eventEnd (args : List Byte) : Statement (.eventEnd args) := by
  intro _ command args' h
  cases h
  rfl

theorem eventClear (args : List Byte) : Statement (.eventClear args) := by
  intro _ command args' h
  cases h
  rfl

theorem rampTimerExpiry : Statement (.rampTimerExpiry) := by
  intro _ command args' h
  cases h

theorem dancerSample (level : BitVec 10) : Statement (.dancerSample level) := by
  intro _ command args' h
  cases h

theorem runBegin : Statement (.runBegin) := by
  intro _ command args' h
  cases h

theorem panelDecision : Statement (.panelDecision) := by
  intro _ command args' h
  cases h

theorem stepStart : Statement (.stepStart) := by
  intro _ command args' h
  cases h

theorem decodeEnd : Statement (.decodeEnd) := by
  intro _ command args' h
  cases h

theorem stepTimerExpiry : Statement (.stepTimerExpiry) := by
  intro _ command args' h
  cases h

theorem flatStepPulse : Statement (.flatStepPulse) := by
  intro _ command args' h
  cases h

theorem continuousPulse : Statement (.continuousPulse) := by
  intro _ command args' h
  cases h

theorem feedPulse : Statement (.feedPulse) := by
  intro _ command args' h
  cases h

theorem tuckEnd : Statement (.tuckEnd) := by
  intro _ command args' h
  cases h

theorem pressEnd : Statement (.pressEnd) := by
  intro _ command args' h
  cases h

theorem releaseEnd : Statement (.releaseEnd) := by
  intro _ command args' h
  cases h

theorem abortingEnd : Statement (.abortingEnd) := by
  intro _ command args' h
  cases h

theorem deskewTimerExpiry (channel : Fin 8) : Statement (.deskewTimerExpiry channel) := by
  intro _ command args' h
  cases h

theorem foldSensorChange (channel : Fin 8) (level : Bool) : Statement (.foldSensorChange channel level) := by
  intro _ command args' h
  cases h

theorem restTimerExpiry : Statement (.restTimerExpiry) := by
  intro _ command args' h
  cases h

theorem converterTimerExpiry (r0 r1 r2 r3 : BitVec 12) : Statement (.converterTimerExpiry r0 r1 r2 r3) := by
  intro _ command args' h
  cases h

theorem settleTimerExpiry (zone : Fin 4) : Statement (.settleTimerExpiry zone) := by
  intro _ command args' h
  cases h

theorem secondsTimerExpiry : Statement (.secondsTimerExpiry) := by
  intro _ command args' h
  cases h

theorem purgeTimerExpiry : Statement (.purgeTimerExpiry) := by
  intro _ command args' h
  cases h

theorem idleTimerExpiry : Statement (.idleTimerExpiry) := by
  intro _ command args' h
  cases h

theorem dwellTimerExpiry : Statement (.dwellTimerExpiry) := by
  intro _ command args' h
  cases h

theorem standTimerExpiry : Statement (.standTimerExpiry) := by
  intro _ command args' h
  cases h

theorem atSpeedChange (spindle : SpindleId) (level : Bool) : Statement (.atSpeedChange spindle level) := by
  intro _ command args' h
  cases h

theorem armingTimerExpiry : Statement (.armingTimerExpiry) := by
  intro _ command args' h
  cases h

theorem paste : Statement (.paste) := by
  intro _ command args' h
  cases h

theorem pasteTimerExpiry : Statement (.pasteTimerExpiry) := by
  intro _ command args' h
  cases h

theorem cutPulseEnd : Statement (.cutPulseEnd) := by
  intro _ command args' h
  cases h

theorem publicationTimerExpiry : Statement (.publicationTimerExpiry) := by
  intro _ command args' h
  cases h

theorem linkJoinIdle : Statement (.linkJoinIdle) := by
  intro _ command args' h
  cases h

theorem transmissionStart : Statement (.transmissionStart) := by
  intro _ command args' h
  cases h

theorem arbitrationLost : Statement (.arbitrationLost) := by
  intro _ command args' h
  cases h

theorem transmitFailure : Statement (.transmitFailure) := by
  intro _ command args' h
  cases h

theorem transmissionSuccess : Statement (.transmissionSuccess) := by
  intro _ command args' h
  cases h

theorem advanceFrame (sender : StationId) (payload : AdvancePayload) : Statement (.advanceFrame sender payload) := by
  intro _ command args' h
  cases h

theorem markFrame (sender : StationId) (payload : MarkPayload) : Statement (.markFrame sender payload) := by
  intro _ command args' h
  cases h

theorem stopFrame (sender : StationId) (reason : Byte) : Statement (.stopFrame sender reason) := by
  intro _ command args' h
  cases h

theorem resumeFrame (sender : StationId) : Statement (.resumeFrame sender) := by
  intro _ command args' h
  cases h

theorem badFrame : Statement (.badFrame) := by
  intro _ command args' h
  cases h

theorem foreignFrame (sender : StationId) : Statement (.foreignFrame sender) := by
  intro _ command args' h
  cases h

theorem unknownKindFrame (sender : StationId) (kind : BitVec 4) : Statement (.unknownKindFrame sender kind) := by
  intro _ command args' h
  cases h

theorem stalenessTimerExpiry (peer : StationId) : Statement (.stalenessTimerExpiry peer) := by
  intro _ command args' h
  cases h

theorem duplicateIdFrame (kind : BitVec 4) : Statement (.duplicateIdFrame kind) := by
  intro _ command args' h
  cases h

end Sys2Proof.Laws.PortRoundTrip
end

