-- ==== Sys2Proof/Laws/Rises.lean ====
section
/-! SUPPORT. What an announcement, a mark that leaves, a cut, a fault or a settling can only set: the stop latch, an effective rate of 0, the
pending bits. -/

namespace Sys2Proof.Machine

/-- From `s` to `t` a set latch stays set, a rate of 0 stays 0, and a set pending bit stays set. -/
def Rises (s t : State) : Prop :=
  (s.rate.latch = true → t.rate.latch = true) ∧ (s.rate.effective = 0 → t.rate.effective = 0)
    ∧ ∀ k, s.port.ip.getLsbD k = true → t.port.ip.getLsbD k = true

namespace Rises

theorem refl (s : State) : Rises s s := ⟨id, id, fun _ h => h⟩

theorem trans {s t u : State} (h : Rises s t) (g : Rises t u) : Rises s u :=
  ⟨fun x => g.1 (h.1 x), fun x => g.2.1 (h.2.1 x), fun k x => g.2.2 k (h.2.2 k x)⟩

theorem of_eq {s t : State} (hl : t.rate.latch = s.rate.latch) (he : t.rate.effective = s.rate.effective) (hi : t.port.ip = s.port.ip) :
    Rises s t :=
  ⟨fun h => hl ▸ h, fun h => he ▸ h, fun _ h => hi ▸ h⟩

theorem start {s u t : State} (h : Rises u t) (hl : u.rate.latch = s.rate.latch) (he : u.rate.effective = s.rate.effective)
    (hi : u.port.ip = s.port.ip) : Rises s t := (of_eq hl he hi).trans h

theorem signal (s : State) (x : Source) : Rises s (s.signal x) :=
  ⟨id, id, fun k h => by simp [State.signal, h]⟩

theorem setLatch (s : State) (c : StopCause) : Rises s (s.setLatch c) := by
  refine ⟨fun _ => (setLatch_rate s c).1, fun _ => (setLatch_rate s c).2.2, fun k h => ?_⟩
  unfold State.setLatch
  simp only
  split
  · rw [(setEffective_rest _ 0).2.2.1]; exact h
  · simp [State.signal, (setEffective_rest _ 0).2.2.1, h]

theorem handStopResume (s : State) (f : StopResume) : Rises s (s.handStopResume f) := by
  unfold State.handStopResume; split <;> exact of_eq rfl rfl rfl

theorem enterFault (s : State) (f : StationFault) : Rises s (s.enterFault f) := by
  unfold State.enterFault
  refine Rises.trans ?_ (handStopResume _ _)
  exact start (setLatch _ _) rfl rfl rfl

theorem raiseFault (s : State) (f : StationFault) : Rises s (s.raiseFault f) := by
  unfold State.raiseFault
  split
  · exact refl s
  · exact (signal s .fault).trans (enterFault _ f)
  · exact (signal s .fault).trans (enterFault _ f)
  · exact start (signal _ .fault) rfl rfl rfl
  · exact start (signal _ .fault) rfl rfl rfl

theorem handMark (s : State) (m : MarkPayload) : Rises s (s.handMark m) := by
  unfold State.handMark; split
  · exact refl s
  · split
    · exact raiseFault _ _
    · exact of_eq rfl rfl rfl

theorem logPanel (s : State) (e : LogEntry) : Rises s (s.logPanel e) := by
  unfold State.logPanel
  split <;> exact start (signal _ _) rfl rfl rfl

theorem judge (s : State) (c : ClosedPanel) : Rises s (s.judge c) := by
  unfold State.judge
  exact start (logPanel _ _) rfl rfl rfl

theorem judgeEach (cs rest : List ClosedPanel) : ∀ s : State, Rises s (s.judgeEach cs rest) := by
  induction cs with
  | nil => intro s; exact of_eq rfl rfl rfl
  | cons c cs ih => intro s; exact (judge s c).trans (ih _)

theorem judgeDue (s : State) : Rises s s.judgeDue := judgeEach _ _ _

theorem makeVerdictRoom (s : State) : Rises s s.makeVerdictRoom := by
  unfold State.makeVerdictRoom; split
  · exact refl s
  · split
    · exact (judge s _).trans (of_eq rfl rfl rfl)
    · exact refl s

theorem closePanel (s : State) (p : Pos) (f : Reasons → Reasons) : Rises s (s.closePanel p f) := by
  unfold State.closePanel
  split
  · exact refl s
  · have h : Rises s (State.makeVerdictRoom
        { s with stand := { s.stand.countClosed (s.stand.inState .winding) with panel := none } }) :=
      start (makeVerdictRoom _) rfl rfl rfl
    simp only
    split
    · exact h.trans (start (judgeDue _) rfl rfl rfl)
    · exact h.trans (of_eq rfl rfl rfl)

theorem closeIfFull (s : State) (p : Pos) : Rises s (s.closeIfFull p) := by
  unfold State.closeIfFull; split
  · exact refl s
  · exact closePanel _ _ _

theorem transferTo (s : State) (id : SpindleId) : Rises s (s.transferTo id) := by
  unfold State.transferTo
  exact start (signal _ .roll) rfl rfl rfl

theorem transferCut (s : State) : Rises s s.transferCut := by
  unfold State.transferCut; split
  · exact refl s
  · split
    · exact refl s
    · exact transferTo _ _

theorem splitCut (s : State) (id : SpindleId) : Rises s (s.splitCut id) :=
  ((closeIfFull _ _).trans (closePanel _ _ _)).trans (transferTo _ _)

theorem cutAtMaximum (s : State) : Rises s s.cutAtMaximum := by
  unfold State.cutAtMaximum; split
  · exact refl s
  · exact splitCut _ _

theorem openPanelAt (s : State) (p : Pos) (n : BitVec 16) : Rises s (s.openPanelAt p n) := of_eq rfl rfl rfl

theorem flagPanel (s : State) (p : Pos) (f : Reasons → Reasons) : Rises s (s.flagPanel p f) := by
  unfold State.flagPanel; split
  · exact refl s
  · split <;> exact of_eq rfl rfl rfl

theorem closeBeforeAbort (s : State) (p : Pos) : Rises s (s.closeBeforeAbort p) := by
  unfold State.closeBeforeAbort; split
  · split
    · exact of_eq rfl rfl rfl
    · exact start (closeIfFull s.chosen p) rfl rfl rfl
  · exact closeIfFull _ _

theorem handOff (s : State) (m : Mark) : Rises s (s.handOff m) := by
  have hc : Rises s (s.closeIfFull m.pos) := closeIfFull _ _
  unfold State.handOff; split
  · exact ((hc.trans (closePanel _ _ _)).trans (transferCut _)).trans (openPanelAt _ _ _)
  · exact (closeBeforeAbort _ _).trans (closePanel _ _ _)
  · exact (hc.trans (flagPanel _ m.pos fun r => { r with splice := true })).trans (of_eq rfl rfl rfl)
  · exact hc.trans (flagPanel _ _ _)
  · exact hc.trans (of_eq rfl rfl rfl)

theorem markLeaves (s : State) (m : Mark) : Rises s (s.markLeaves m) := by
  unfold State.markLeaves; split
  · exact handOff _ _
  · exact refl s

theorem leaveFrom (limit : Pos) (ms : List Mark) : ∀ s : State, Rises s (s.leaveFrom limit ms) := by
  induction ms with
  | nil => intro s; exact of_eq rfl rfl rfl
  | cons m ms ih =>
    intro s
    unfold State.leaveFrom
    split
    · exact (markLeaves s m).trans (ih _)
    · exact of_eq rfl rfl rfl

theorem sweepTo (s : State) (p : Pos) : Rises s (s.sweepTo p) := by
  unfold State.sweepTo State.endPanel; split
  · exact (leaveFrom _ _ s).trans (closeIfFull _ _)
  · exact leaveFrom _ _ s

theorem outletSweep (s : State) : Rises s s.outletSweep := sweepTo _ _

theorem eitherOrder (f g : State → State) (hf : ∀ t : State, Rises t (f t)) (hg : ∀ t : State, Rises t (g t)) (s : State) :
    Rises s (Machine.eitherOrder f g s) := by
  have h : Rises s s.chosen := of_eq rfl rfl rfl
  unfold Machine.eitherOrder; split
  · exact (h.trans (hf _)).trans (hg _)
  · exact (h.trans (hg _)).trans (hf _)

theorem account (s : State) : Rises s s.account := by
  unfold State.account
  split
  · exact outletSweep _
  · exact (sweepTo s _).trans (eitherOrder _ _ cutAtMaximum outletSweep _)

theorem insertOutlet (s : State) (m : Mark) : Rises s (s.insertOutlet m) := by
  unfold State.insertOutlet; split
  · exact raiseFault _ _
  · exact of_eq rfl rfl rfl

theorem announce (s : State) (m : Mark) : Rises s (s.announce m) := by
  unfold State.announce
  have h : Rises s (s.countAnnounced m) := of_eq rfl rfl rfl
  simp only
  split
  · exact (h.trans (insertOutlet _ _)).trans (outletSweep _)
  · exact ((h.trans (handMark _ _)).trans (insertOutlet _ _)).trans (outletSweep _)

theorem announceOwn (s : State) (b : MarkBody) (p : Pos) : Rises s (s.announceOwn b p) := announce _ _

theorem closeRange (s : State) : Rises s s.closeRange := by
  unfold State.closeRange; split
  · exact refl s
  · exact (announceOwn _ _ _).trans (of_eq rfl rfl rfl)

theorem undersetCell (s : State) (p : Pos) : Rises s (s.undersetCell p) := by
  unfold State.undersetCell; split
  · exact of_eq rfl rfl rfl
  · split
    · exact of_eq rfl rfl rfl
    · exact (closeRange s).trans (of_eq rfl rfl rfl)

theorem exitCell (s : State) (c : DwellCell) : Rises s (s.exitCell c) := by
  unfold State.exitCell
  simp only
  split
  · exact start (closeRange _) rfl rfl rfl
  · exact start (undersetCell _ _) rfl rfl rfl

theorem exitFrom (cs : List DwellCell) : ∀ s : State, Rises s (s.exitFrom cs) := by
  induction cs with
  | nil => intro s; exact of_eq rfl rfl rfl
  | cons c cs ih =>
    intro s
    unfold State.exitFrom
    split
    · exact (exitCell s c).trans (ih _)
    · exact of_eq rfl rfl rfl

theorem dwellAdvance (s : State) : Rises s s.dwellAdvance := (exitFrom _ _).trans (of_eq rfl rfl rfl)

theorem advanceOutlet (s : State) (n : Nat) : Rises s (s.advanceOutlet n) := by
  unfold State.advanceOutlet State.wind; split <;> exact of_eq rfl rfl rfl

theorem creditFrom (ok : Pos) (es : List BayEntry) : ∀ (kept : List BayEntry) (s : State), Rises s (s.creditFrom ok kept es) := by
  induction es with
  | nil => intro kept s; exact of_eq rfl rfl rfl
  | cons e es ih =>
    intro kept s
    unfold State.creditFrom
    split
    · exact (announce s _).trans (ih _ _)
    · exact ih _ _

theorem afterAdvance (f : State → State) (hf : ∀ t : State, Rises t (f t)) (s : State) : Rises s (s.afterAdvance f) := by
  unfold State.afterAdvance; split
  · exact (account s).trans (hf _)
  · exact eitherOrder _ _ (fun t => (dwellAdvance t).trans (account _)) hf s

theorem creditFold (s : State) (w : Nat) : Rises s (s.creditFold w) := by
  unfold State.creditFold
  refine Rises.trans ?_ (afterAdvance _ (fun t => creditFrom _ _ _ t) _)
  exact start (advanceOutlet _ _) rfl rfl rfl

theorem enterAborting (s : State) : Rises s s.enterAborting := by
  unfold State.enterAborting
  simp only
  split
  · exact of_eq rfl rfl rfl
  · refine Rises.trans ?_ (announceOwn _ _ _)
    exact start (creditFold _ _) rfl rfl rfl

theorem knifeSettle (s : State) : Rises s s.knifeSettle := by
  unfold State.knifeSettle; split
  · split
    · exact enterAborting s
    all_goals exact of_eq rfl rfl rfl
  · exact refl s

theorem consequences (s : State) : Rises s s.consequences := by
  have h1 := judgeDue s
  have h2 : Rises s.judgeDue s.judgeDue.joinTest := by
    unfold State.joinTest; split <;> exact of_eq rfl rfl rfl
  have h3 : ∀ t : State, Rises t t.cutAtRest := by
    intro t; unfold State.cutAtRest; split
    · exact refl t
    · exact splitCut _ _
  have h4 : ∀ t : State, Rises t t.transferArm := by
    intro t; unfold State.transferArm; split
    · split
      · exact refl t
      · split <;> exact of_eq rfl rfl rfl
    · exact refl t
  have h5 : ∀ t : State, Rises t t.arbitrate := by
    intro t; unfold State.arbitrate; split
    · exact refl t
    · split <;> exact of_eq rfl rfl rfl
  have h6 : ∀ t : State, Rises t t.keepWarmEntry := by
    intro t; unfold State.keepWarmEntry; split
    · exact start (signal _ _) rfl rfl rfl
    · exact refl t
  have h7 : ∀ t : State, Rises t t.zoneSettle.limits := fun t =>
    (((of_eq rfl rfl rfl : Rises t t.moveValves).trans (h5 _)).trans (h6 _)).trans (of_eq rfl rfl rfl)
  exact (((h1.trans h2).trans (h3 _)).trans (h4 _)).trans (h7 _)

/-- A settling only sets latches, zeros and pending bits. -/
theorem settle (s : State) : Rises s s.settle := (knifeSettle s).trans (consequences _)

end Rises

end Sys2Proof.Machine
end

