-- ==== Sys2Proof/Tests/Slice0.lean ====
section
/-! SUPPORT. The session's own tests: ill-formed commands refused, words decoded as the spec writes them, the spec's worked figures, and for
every statement with hypotheses states and operands that meet them. Expected values are the spec's, or reckoned by hand from its rules. -/

set_option maxRecDepth 20000

namespace Sys2Proof.Machine

/-- The next state of a command. -/
def after (c : Instr) (s : State) : State :=
  match exec c s with
  | .next t => t
  | .fault _ | .refused _ => s

/-! ## Ill-formed commands -/

theorem test_wf_short_reset : (Instr.powerOn (.resetLow 9)).wf = false := by decide
theorem test_wf_empty_fetch : (Instr.fetch 0).wf = false := by decide
theorem test_wf_whole_bytes_not_discarded : (Instr.transactionDiscarded 16).wf = false := by decide
theorem test_wf_known_command : (Instr.unknownCommand 0x20 []).wf = false := by decide
theorem test_wf_fetch_no_command : (Instr.unknownCommand 0xFF []).wf = false := by decide
theorem test_wf_known_kind : (Instr.unknownKindFrame 3 8).wf = false := by decide

/-! ## Words (11.1, 11.2, 11.3, R158, R159, R179) -/

/-- The bits of bytes written out. -/
def wire (bytes : List Byte) : List Bool := bytes.flatMap fun b => bitsOf b

/-- READ STATUS is the one byte 40h (11.3). -/
theorem test_word_read_status :
    decodeTransaction [false, true, false, false, false, false, false, false] = .readStatus [] := by decide

/-- STOP is 23h, UNLOAD is 31h with a spindle byte (11.3). -/
theorem test_word_stop : decodeTransaction (wire [0x23]) = .stop [] := by decide
theorem test_word_unload : decodeTransaction (wire [0x31, 0x01]) = .unload [0x01] := by decide
theorem test_word_write_set : decodeTransaction (wire [0x10, 0x01, 0x02]) = .writeSet [0x01, 0x02] := by decide
theorem test_word_event_enable : decodeTransaction (wire [0x50, 0x7E]) = .eventEnable [0x7E] := by decide

/-- A first byte FFh fetches; 7Fh names no command; a broken byte is discarded (R179). -/
theorem test_word_fetch : decodeTransaction (wire [0xFF, 0x12, 0x00]) = .fetch 3 := by decide
theorem test_word_unknown : decodeTransaction (wire [0x7F, 0x01]) = .unknownCommand 0x7F [0x01] := by decide
theorem test_word_discarded : decodeTransaction [false, true, true] = .transactionDiscarded 3 := by decide

/-- The register of R159 over the text 123456789 is 29B1h, the known value of this CRC. -/
theorem test_crc : crc16 (wire [0x31, 0x32, 0x33, 0x34, 0x35, 0x36, 0x37, 0x38, 0x39]) = 0x29B1 := by decide

/-- A STOP of id 2 with reason 5: class 000, sender 0010, kind 0001, length 00001, payload 05h, the CRC, two recessive bits. -/
theorem test_word_stop_frame :
    judgeFrame 1 3 (wire [0x04, 0x21, 0x05, 0x75, 0x2E] ++ [true, true]) = .stopFrame 2 5 := by decide

/-- A RESUME of id 3: class 001, sender 0011, kind 0010, length 00000. -/
theorem test_word_resume_frame :
    judgeFrame 1 5 (wire [0x26, 0x40, 0xF9, 0x8B] ++ [true, true]) = .resumeFrame 3 := by decide

/-- A MARK of id 1: class 010, sender 0001, kind 0101, length 01001; count 93, SPLICE of origin 0 at 72000, roll 5. -/
theorem test_word_mark_frame :
    judgeFrame 2 3 (wire [0x42, 0xA9, 0x5D, 0x20, 0x00, 0x01, 0x19, 0x40, 0x00, 0x00, 0x05, 0x36, 0x9D] ++ [true, true])
      = .markFrame 1 { count := 93, kind := 1, spare := false, origin := 0, position := 72000, value := 0, roll := 5 } := by decide

/-- One bit of the STOP lost in its payload makes it bad; id 2 is foreign on a line of two and the own id at station 2 (R170 to R172). -/
theorem test_word_bad_frame : judgeFrame 1 3 (wire [0x04, 0x21, 0x07, 0x75, 0x2E] ++ [true, true]) = .badFrame := by decide
theorem test_word_foreign_frame :
    judgeFrame 1 2 (wire [0x04, 0x21, 0x05, 0x75, 0x2E] ++ [true, true]) = .foreignFrame 2 := by decide
theorem test_word_duplicate_frame :
    judgeFrame 2 3 (wire [0x04, 0x21, 0x05, 0x75, 0x2E] ++ [true, true]) = .duplicateIdFrame 1 := by decide

/-- The opcode table gives no row any bits. -/
theorem test_table_word : decodeTableWord 16 0x40 = none := by decide

/-! ## Stations for the tests -/

/-- A role NONE bay at id 1 of three, ACTIVE (section 1.8 gives the slopes and the station maximum). -/
def bay : State :=
  { State.reset with
    port.state := .active
    sets.lineW := true
    sets.line := { id := 1, n := 3, standKind := .none, role := .none, stationMax := 12000, up := 250, down := 400 } }

/-- The feed settings of the worked cases: knife line distance 3000, sensor offset 1000, outlet distance 40000, v_feed 40000. -/
def worked : FeedSet :=
  { a := 3000, aS := 1000, b := 40000, vFeed := 40000, s0 := 60000, scale := 20, tripLo := 100, holdLo := 400, setpoint := 512
    holdHi := 640, tripHi := 900, gain := 64 }

/-- The knife settings of the worked pattern (2.4). -/
def workedKnife : KnifeSet :=
  { tTuck := 120, tPress := 250, tRelease := 80, g := 2000, count := 5, mode := .atLeast, window := 300, maxTrim := 40, deskew := 3 }

/-- A leader of the worked pattern, in a panel at a steady 3000 mpm. -/
def leading : State :=
  { bay with
    sets.line := { bay.sets.line with role := .leader }
    sets.feed := worked
    sets.feedW := true
    sets.knife := workedKnife
    sets.knifeW := true
    pat := { status := .valid, p := 18600, q := 9600, steps := 4, knifeLimit := 18433, endOff := 104 }
    rate.effective := 3000
    leader := { state := .panel, number := 7 }
    cad := { mode := .stepping, begun := true } }

/-- The follower of section 4.7, registering folds at a steady rate. -/
def following : State :=
  { bay with
    sets.line := { bay.sets.line with id := 2, role := .follower }
    sets.feed := worked
    sets.feedW := true
    sets.knife := { workedKnife with registration := true }
    sets.knifeW := true
    pat := { status := .valid, p := 9600, q := 1600, steps := 4, knifeLimit := 18433 }
    rate.effective := 3000
    follower := { state := .panel, number := 3 }
    cad := { mode := .stepping, begun := true } }

/-- The three-zone box of section 6.9, at a bay that runs at 7000 mpm. -/
def steaming : State :=
  { bay with
    sets.box :=
      { zoneCount := 3
        zones := #v[{ length := 24000, setpoint := 1600 }, { length := 24000, setpoint := 1600 }, { length := 12000, setpoint := 1600 }, {}]
        base := 0, span := 2000, band := 50, hyst := 30, margin := 200, settle := 10, dwell := 300, purgeInterval := 600
        purgeTime := 20, cell := 2000, entry := 300, mask := 1, drop := 300 }
    sets.boxW := true
    sets.feed := { worked with a := 0, aS := 0, b := 60000 }
    sets.feedW := true
    rate.effective := 7000
    web.pn := 9600
    box.zones := #v[{ state := .open, temp := 1600, raw := 3277, debt := 2, counter := 1 },
      { state := .open, temp := 1600, raw := 3277, debt := 1, counter := 15 },
      { state := .open, temp := 1600, raw := 3277, counter := 400 }, {}] }

/-- The unwind of section 8.6: roll 14 on A, roll 15 on B, at 9000 mpm with panels of 18600. -/
def unwinding : State :=
  { bay with
    sets.line := { bay.sets.line with id := 0, standKind := .unwind }
    sets.feed := { worked with a := 0, aS := 0, b := 2000 }
    sets.feedW := true
    sets.stand := { cap := 6000, tArm := 20, tPaste := 500, dP := 1500, margin := 20000, target := 250, maxWound := 500000 }
    sets.standW := true
    rate.effective := 9000
    web.pn := 18600
    stand.a := { state := .running, roll := 14, length := 3000000, consumed := 2922500 }
    stand.b := { state := .loaded, roll := 15, length := 3000000 } }

/-- The rewind of section 8.7: roll 31 on A with 249 panels closed, roll 32 on B. -/
def rewinding : State :=
  { unwinding with
    sets.line := { bay.sets.line with id := 2, standKind := .rewind }
    web.pn := 1600
    web.o := 2001600
    stand.a := { state := .winding, roll := 31, wound := 400800, closed := 249, good := 247, reject := 2 }
    stand.b := { state := .loaded, roll := 32 } }

/-! ## Port, sets, pattern -/

theorem test_power_on : (after (.powerOn .power) bay).port.state = .config := by decide
theorem test_empty_queue_ticks : step bay = .next { bay with now := 1 } := rfl
theorem test_fetch_past_end :
    (after (.fetch 3) { bay with port.response := [0x01, 0x80] }).port.sdo = wire [0x01, 0x80, 0x00] := by decide
theorem test_discarded_shifts :
    (after (.transactionDiscarded 3) { bay with port.response := [0xA0] }).port.sdo = [true, false, true] := by decide
theorem test_unknown_command : (after (.unknownCommand 0x7F [1]) bay).port.response = [0x03] := by decide

/-- R183: N 6, own id 5, REWIND is accepted; the same with N 8 is refused. -/
theorem test_line_set_accepted :
    (after (.writeSet [0x01, 5, 6, 2, 0, 0x2E, 0xE0, 0, 250, 1, 0x90]) State.reset).sets.line
      = { id := 5, n := 6, standKind := .rewind, role := .none, stationMax := 12000, up := 250, down := 400 } := by decide
theorem test_line_set_refused :
    (after (.writeSet [0x01, 5, 8, 2, 0, 0x2E, 0xE0, 0, 250, 1, 0x90]) State.reset).port.response = [0x03] := by decide

/-- The thirteen bytes of the worked pattern (2.4). -/
def workedBytes : List Byte := [0x45, 0xDC, 0x24, 0x12, 0xC2, 0x0E, 0x11, 0x80, 0x00, 0x30, 0x04, 0x0E, 0x10]

/-- A leader in CONFIG with the worked pattern loaded. -/
def loaded : State :=
  { leading with
    port.state := .config
    pat := { store := writeChunk [] 0 workedBytes, loaded := 13 }
    leader := {}
    cad := {}
    rate := {} }

theorem test_load_pattern : (after (.loadPattern (0 :: 0 :: workedBytes)) { loaded with pat := {} }).pat = loaded.pat := by decide
theorem test_load_pattern_beyond : (after (.loadPattern [0, 14, 7]) loaded).port.response = [0x04] := by decide
theorem test_check_begins : (after (.checkPattern []) loaded).pat.status = .checking := by decide
theorem test_check_needs_knife : (after (.checkPattern []) { loaded with sets.knifeW := false }).port.response = [0x04] := by decide

/-- 2.4: P 18600, Q 9600, four steps, knife limit 18433, end offset 104. -/
theorem test_worked_check :
    (after .checkPatternEnd { loaded with pat.status := .checking }).pat
      = { loaded.pat with status := .valid, p := 18600, q := 9600, steps := 4, knifeLimit := 18433, endOff := 104 } := by decide

/-- 2.4: one byte short, NO_END at bit 74, step 4. -/
theorem test_worked_check_short :
    (after .checkPatternEnd { loaded with pat := { loaded.pat with loaded := 12, status := .checking } }).pat.err
      = some { kind := .noEnd, offset := 74, step := 4 } := by decide

/-- The decoder walk of 2.4: step 1 is FLAT of 6000 and the cursor goes to 18; step 2 is a FOLD_LEFT of 1200 by 1800, and step 3 stands at 55. -/
theorem test_decode_first :
    (after .decodeEnd { leading with pat := { leading.pat with store := loaded.pat.store, loaded := 13 } }).dec
      = { cursor := 18, next := some { kind := .flat, pitch := 6000, width := 0, depth := 0, flag := false, number := 1, offset := 0
                                       last := false } } := by decide
theorem test_decode_second :
    ((after .decodeEnd { leading with
        pat := { leading.pat with store := loaded.pat.store, loaded := 13 }, dec := { cursor := 18, stepNo := 1 } }).dec.next.map
      fun x => (x.pitch, x.width, x.depth, x.number)) = some (4800, 1200, 1800, 2) := by decide

theorem test_start : (after (.start []) { loaded with pat := leading.pat }).port.state = .joining := by decide
/-- R132: the next cell start is o + c at zone count 0 too. -/
theorem test_start_next_cell :
    (after (.start []) { loaded with pat := leading.pat, sets.boxW := true, sets.box.cell := 2000 }).dwell.nextStart = 2000 := by decide
theorem test_restart : (after (.restart []) leading).port.state = .config := by decide
theorem test_restart_keeps_sets : (after (.restart []) leading).sets = leading.sets := by decide
theorem test_clear_fault_refused : (after (.clearFault []) bay).port.response = [0x02] := by decide
theorem test_clear_fault : (after (.clearFault []) { bay with port.state := .fault }).port.state = .joining := by decide
theorem test_stop_latches : (after (.stop []) leading).rate.cause = some { origin := .port, reason := 0 } := by decide
theorem test_stop_frame : (after (.stop []) leading).link.stopResume = some (.stop 0) := by decide
theorem test_resume : (after (.resume []) { bay with rate.latch := true }).rate.latch = false := by decide
theorem test_wake :
    ((after (.wake []) { steaming with
        rate.effective := 0, box.inForce := true, box.zones := steaming.box.zones.set 0 { state := .keepwarm } }).zone 0).state
      = .warming := by decide
/-- R201: the valves are open as the zones are, and shut while RESET_N is low. -/
theorem test_pins :
    ((steaming.pins false).valve, (steaming.pins true).valve) = (#v[true, true, true, false], #v[false, false, false, false]) := by decide
theorem test_status_during_check :
    (after (.readStatus []) { loaded with pat.status := .checking }).port.response.length = 408 := by decide
theorem test_busy : (after (.readQueues []) { loaded with pat.status := .checking }).port.response = [0x05] := by decide
theorem test_peer_view : (after (.readPeerView []) bay).port.response.length = 545 := by decide
theorem test_queues : (after (.readQueues []) bay).port.response.length = 12 := by decide
theorem test_panel_log_count : (after (.readPanelLog [33]) rewinding).port.response = [0x03] := by decide
theorem test_panel_log :
    (after (.readPanelLog [1]) { rewinding with
        stand.log := [{ number := 4120, roll := 31, reject := false, reasons := {}, length := 1600 }] }).port.response.length = 12 := by
  decide

/-- The nested service of 10.6: ZONE is acknowledged with code 4; under its service PANEL LOG waits and FAULT interrupts. -/
theorem test_acknowledge :
    (after (.eventAcknowledge []) { bay with port.ip := 0b0001000, port.ie := 0x7E }).port.response = [0x01, 0x04] := by decide
theorem test_nested :
    ({ bay with port.ip := 0b0000010, port.ius := 0b0001000, port.ie := 0x7E }.attention,
      { bay with port.ip := 0b1000010, port.ius := 0b0001000, port.ie := 0x7E }.attention) = (false, true) := by decide
theorem test_event_end : (after (.eventEnd []) { bay with port.ius := 0b1001000 }).port.ius = 0b0001000 := by decide
theorem test_event_clear : (after (.eventClear [0x81]) { bay with port.ip := 0b0000011 }).port.ip = 0b0000010 := by decide
theorem test_event_enable : (after (.eventEnable [0xFE]) bay).port.ie = 0x7E := by decide

/-! ## Rates and steps (section 1.8) -/

theorem test_ramp_first : (after .rampTimerExpiry { bay with rate.resolved := 9000 }).rate.effective = 250 := by decide
theorem test_ramp_down : (after .rampTimerExpiry { bay with rate.effective := 450 }).rate.effective = 0 := by decide

/-- R3: setpoint 512, hold band 400 to 640: 0 at 641, 60000 again at 576. -/
theorem test_dancer_hold :
    (after (.dancerSample 641) { leading with sets.line.id := 2 }).rate.dancerLimit = 0 := by decide
theorem test_dancer_release :
    (after (.dancerSample 576) { leading with rate.dancerLimit := 0 }).rate.dancerLimit = 60000 := by decide

/-- A decoded FLAT step of 6000 and a decoded FOLD of 1200 by 1800. -/
def flatStep : Step := { kind := .flat, pitch := 6000, width := 0, depth := 0, flag := false, number := 1, offset := 0, last := false }
def foldStep : Step := { kind := .foldLeft, pitch := 4800, width := 1200, depth := 1800, flag := false, number := 2, offset := 18, last := false }

theorem test_step_one :
    ((after .stepStart { leading with dec.next := some flatStep }).cad.stepPeriod,
      (after .stepStart { leading with dec.next := some flatStep }).cad.carry) = (6451612, 16800) := by decide

/-- Step 2 with the dancer 40 above its setpoint: T_2' is 5110888 and the carry 4200. -/
theorem test_step_two_trimmed :
    let t := after .stepStart { leading with cad := { leading.cad with carry := 16800, sample := some 552 }, dec.next := some foldStep }
    (t.cad.trimmed, t.cad.carry, t.knife.phase) = (5110888, 4200, .feed) := by decide

theorem test_run_begins : (after .runBegin { leading with cad.begun := false }).cad.begun = true := by decide
/-- R16: the carry left at a panel's end is discarded when the next run begins, a continuous one too. -/
theorem test_run_carry :
    (after .runBegin { bay with rate.effective := 3000, cad := { mode := .continuous, pn := 9600, carry := 17 } }).cad.carry = 0 := by
  decide

/-- Pulse 2 of step 1 is due at 2150. -/
theorem test_flat_pulse :
    let t := after .flatStepPulse { leading with
      cad.idx := 1, cad.remaining := 5999, cad.trimmed := 6451612
      cad.cur := some { number := 1, kind := .flat, pitch := 6000, start := 0, outletStart := 0, yield := 6000, last := false
                        complete := false, due := 6451612 } }
    (t.now, t.web.i, t.web.o, t.cad.remaining) = (2150, 1, 1, 5998) := by decide

/-- The continuous bay of 1.8: pulse 3 at 6250. -/
theorem test_continuous_pulse :
    (after .continuousPulse { bay with
      rate.effective := 3000, web.pn := 9600
      cad := { mode := .continuous, begun := true, pn := 9600, panelPeriod := 20000000, idx := 2 } }).now = 6250 := by decide

/-- The panel decision at X = 200000 (3.4): free web opens panel 7 at O + b; a splice at 214000 asks for a bridge to 216001. -/
theorem test_panel_decision :
    ((after .panelDecision { leading with leader := { state := .pending, number := 7 }, web.o := 1000000 }).web.outlet.map Mark.pos)
      = [1040000] := by decide
theorem test_panel_bridge :
    (after .panelDecision { leading with
      leader := { state := .pending, number := 7 }, web.i := 203000
      web.bay := [{ mark := { body := .splice 5, origin := 0, pos := 214000 }, awaiting := false }] }).leader
      = { state := .bridge, number := 7, target := 216001, targetSet := true } := by decide

/-- 3.4: the boundary before step 3 at 210800 aborts panel 7 with its mark at O + b. -/
theorem test_boundary_aborts :
    let t := after .stepStart { leading with
      dec.next := some foldStep, web.i := 213800, web.o := 1007200
      web.bay := [{ mark := { body := .splice 5, origin := 0, pos := 214000 }, awaiting := false }] }
    (t.leader.state, t.leader.number, t.web.outlet.map Mark.pos) = (.bridge, 8, [1047200]) := by decide

/-- A fold in flight: width 1200, one feed pulse left. -/
def folding : State :=
  { leading with
    knife := { phase := .feed, idx := 4799, cycle := some { step := 2, dir := .left, w := 1200, f := 4800, start := 0, outletStart := 0
                                                            remaining := 1 } }
    cad.cur := some { number := 2, kind := .foldLeft, pitch := 4800, start := 0, outletStart := 0, yield := 1200, last := false
                      complete := false, due := 5161291 } }

/-- R43: pulse 4800 at 40000 wc/s is due 120 ms after the FEED start, and ends FEED. -/
theorem test_feed_pulse :
    let t := after .feedPulse folding
    (t.now, t.web.i, t.web.o, t.knife.phase) = (120000, 1, 0, .tuck) := by decide
theorem test_late_knife : (after .stepTimerExpiry folding).cad.overruns = 1 := by decide
theorem test_tuck_end : (after .tuckEnd { folding with knife.phase := .tuck, knife.due := 240000 }).knife.due = 490000 := by decide
theorem test_press_end : (after .pressEnd { folding with knife.phase := .press }).web.o = 1200 := by decide
theorem test_release_end : (after .releaseEnd { folding with knife.phase := .release }).knife.cycle = none := by decide
theorem test_aborting_end : (after .abortingEnd { folding with knife.phase := .aborting }).knife.phase = .idle := by decide

/-- R47: a STOP in TUCK credits the width and makes a MISSFOLD. -/
theorem test_stop_in_tuck :
    let t := after (.stop []) { folding with knife.phase := .tuck }
    (t.web.o, t.knife.missed, t.web.outlet.map Mark.body) = (1200, 1, [.missfold]) := by decide

/-! ## Registration (R66 to R74, section 4.7) -/

/-- R66: with a deskew time of 3 the filtered level follows 300 microseconds later. -/
theorem test_deskew_starts : (after (.foldSensorChange 3 true) following).reg.timers[(3 : Fin 8)] = some 300 := by decide
theorem test_deskew_cancelled :
    (after (.foldSensorChange 3 false) (after (.foldSensorChange 3 true) following)).reg.timers[(3 : Fin 8)] = none := by decide

/-- Four channels high and a fifth about to be: the match rises (AT_LEAST 5). An expectation stands 14 before the detection. -/
def matching : State :=
  { following with
    web.i := 503414
    reg := { raw := 0x1F, filtered := 0x0F, timers := tabulate fun k => if k = 4 then some 300 else none, c := 6, misses := 1
             expect := some { step := 2, x := 502400, deadline := 503700 } } }

/-- R71: from C = 6 and e = 14, C becomes 10 and U rises by 4. -/
theorem test_detection :
    let t := after (.deskewTimerExpiry 4) matching
    (t.reg.c, t.reg.u, t.reg.misses, t.reg.accepted, t.reg.expect) = (10, 4, 0, 1, none) := by decide

/-- 4.7, step 1: the record d1 gives +12, C and U become 6, and the feed is 2406. -/
theorem test_registered_step :
    let t := after .stepStart { following with
      web.i := 503000
      reg.history := [{ x := 500012, used := false }]
      dec.next := some { kind := .foldLeft, pitch := 2400, width := 400, depth := 1000, flag := true, number := 1, offset := 0
                         last := false } }
    (t.reg.c, t.reg.u, t.knife.cycle.map Cycle.f) = (6, 0, some 2406) := by decide

/-! ## Web (section 5.11) -/

/-- The latch of 5.11: U 120000, I 4294950000, L_span 70000: K is 67296. -/
theorem test_latch :
    (after (.advanceFrame 1 { state := 2, limit := 0, rate := 0, outlet := 120000, inLen := 18600, outLen := 9600, sent := 90, flags := 0 })
      { following with
        rate.effective := 0, web.i := 4294950000, cad.sample := some 500, link.mode := .on
        peers := following.peers.set 1 { presence := .live, hist0 := some { outlet := 120000, rate := 0 } } }).web.k = 67296 := by decide
theorem test_quiet : (after .restTimerExpiry { bay with web.restDue := some 200000 }).quiet = true := by decide

/-- The station of 5.11 once its span is latched, the marks-received count at 90. -/
def latched : State :=
  { following with
    link.mode := .on, web.k := 67296, web.latched := true, web.baseline := true, web.received := 90, web.i := 4294955000 }

theorem test_mark_waits :
    (after (.markFrame 1 { count := 91, kind := 2, spare := false, origin := 1, position := 60000, value := 12, roll := 0 }) latched).web.span
      = [{ body := .panel 12, origin := 1, pos := 60000 }] := by decide

/-- 9.7: MARK 42 at a count of 40 raises MARK_GAP with 41, 42 and sender 1. -/
theorem test_mark_gap :
    (after (.markFrame 1 { count := 42, kind := 3, spare := false, origin := 1, position := 99000, value := 21, roll := 0 })
      { latched with web.received := 40 }).port.fault = some { first := .markGap 41 42 1, further := false } := by decide

/-! ## Steam (section 6.9) -/

/-- R99: raw 3686 reads 1799; raw 4095 reads 1999 with the flag, which an OFF zone only shows. R106: raw 0 faults a WARMING zone. -/
theorem test_sample :
    let t := after (.converterTimerExpiry 3686 4095 0 0) { steaming with box.zones := #v[{}, {}, { state := .warming }, {}] }
    ((t.zone 0).temp, (t.zone 1).temp, (t.zone 1).sensorFault, (t.zone 1).state, (t.zone 2).cause)
      = (1799, 1999, true, .off, some .sensor) := by decide

/-- R100: setpoint 1600, hysteresis 30: a reading of 1569 turns the heater on. -/
theorem test_heater :
    ((after (.converterTimerExpiry 3215 0 0 0) { steaming with box.zones := #v[{ state := .warming }, {}, {}, {}] }).zone 0).heater
      = true := by decide

theorem test_settle :
    ((after (.settleTimerExpiry 2) { steaming with box.zones := steaming.box.zones.set 2 { state := .warming, settle := some 5 } }).zone 2).state
      = .open := by decide

/-- At 3 s zone 0 reaches debt 3, is forced to close and is granted the drain, and the set limit falls to 7500. -/
theorem test_forced_purge :
    let t := after .secondsTimerExpiry steaming
    ((t.zone 0).state, t.box.owner, (t.zone 1).counter, t.rate.setLimit) = (.purge, some 0, 14, 7500) := by decide

/-- The purge complete: debt 0, the counter loaded, OPEN, and the set limit 12500 again. -/
theorem test_purge_end :
    let t := after .purgeTimerExpiry { after .secondsTimerExpiry steaming with box.purgeDue := 23000000 }
    ((t.zone 0).state, (t.zone 0).debt, t.box.owner, t.rate.setLimit) = (.open, 0, none, 12500) := by decide

theorem test_keep_warm :
    let t := after .idleTimerExpiry { steaming with
      rate.effective := 0, box.idle := .running 9, box.zones := #v[{ state := .ready }, { state := .ready }, { state := .fault }, {}] }
    (t.box.inForce, (t.zone 0).state, (t.zone 1).state, (t.zone 2).state) = (true, .keepwarm, .off, .fault) := by decide
theorem test_clear_zone :
    ((after (.clearZone [1]) { steaming with box.zones := steaming.box.zones.set 1 { state := .fault, temp := 1599 } }).zone 1).state
      = .warming := by decide
theorem test_clear_zone_hot :
    (after (.clearZone [1]) { steaming with box.zones := steaming.box.zones.set 1 { state := .fault, temp := 1600 } }).port.response
      = [0x03] := by decide

/-- R127: with zones of 16000 and 8000 a midpoint at depth 15999 stands in zone 0, one at 24000 in none. -/
theorem test_dwell :
    (after .dwellTimerExpiry { steaming with
      sets.box := { steaming.sets.box with zoneCount := 2, zones := #v[{ length := 16000 }, { length := 8000 }, {}, {}] }
      web.o := 1024000
      dwell.cells := [{ start := 999000, dwell := 5, panel := none }, { start := 1007001, dwell := 5, panel := none }] }).dwell.cells.map
        DwellCell.dwell = [5, 105] := by decide

/-! ## Stands (sections 8.6 and 8.7) -/

/-- D_stop is 313, D_trig 77508, and with 77500 left B is armed. -/
theorem test_trigger :
    let t := after .standTimerExpiry unwinding
    (t.stand.dStop, t.stand.dTrig, t.stand.b.state, t.rate.standLimit) = (313, 77508, .arming, 6000) := by decide
theorem test_overfill :
    let t := after .standTimerExpiry { rewinding with
      stand.a := { rewinding.stand.a with closed := 312, wound := 499974 }, stand.b := {} }
    (t.stand.dStop, t.stand.overfill, t.rate.standLimit) = (27, true, 0) := by decide

theorem test_at_speed :
    (after (.atSpeedChange .b true) { unwinding with stand.b := { unwinding.stand.b with state := .arming } }).stand.b.state = .synced := by
  decide
theorem test_speed_lost :
    (after (.atSpeedChange .b false)
      { unwinding with stand.b := { unwinding.stand.b with state := .synced }, stand.speedB := true }).stand.b.state = .arming := by decide
theorem test_arm_failed :
    (after .armingTimerExpiry
      { unwinding with stand.b := { unwinding.stand.b with state := .arming }, stand.armDue := some 20000000 }).stand.b.armFailed
      = true := by decide

/-- The paste of 8.6: at I 5119360 the joint is at 5120860 and the SPLICE mark, roll 15, at 5122860. -/
theorem test_paste :
    let t := after .paste { unwinding with
      rate.effective := 6000, web.i := 5119360, web.o := 5119360, stand.b := { unwinding.stand.b with state := .synced } }
    (t.stand.joint, t.web.outlet, t.stand.pastes)
      = (5120860, [{ body := .splice 15, origin := 0, pos := 5122860 }], 1) := by decide
theorem test_roll_change :
    let t := after .pasteTimerExpiry { unwinding with
      stand.b := { unwinding.stand.b with state := .synced }, stand.pasteDue := some 500000 }
    (t.stand.a.state, t.stand.b.state, t.stand.cutDue) = (.spent, .running, some 600000) := by decide
theorem test_cut_pulse : (after .cutPulseEnd { unwinding with stand.cutDue := some 600000 }).stand.cutDue = none := by decide
theorem test_load_roll :
    (after (.loadRoll [1, 16, 0, 0, 0x10, 0]) { unwinding with stand.b := {} }).stand.b
      = { state := .loaded, roll := 16, length := 4096 } := by decide
theorem test_load_roll_full : (after (.loadRoll [0, 16, 0, 0, 0x10, 0]) unwinding).port.response = [0x02] := by decide
theorem test_unload : (after (.unload [1]) unwinding).stand.b = {} := by decide
theorem test_unload_running : (after (.unload [0]) unwinding).port.response = [0x02] := by decide

/-- 8.7: a length end closes the 250th panel, GOOD, and the pending transfer arms B. -/
theorem test_transfer :
    let t := after .continuousPulse { rewinding with
      web.o := 2001599, cad := { mode := .continuous, begun := true, pn := 1600, panelPeriod := 6666666 }
      stand.panel := some { number := 4120, start := 2000000, lengthEnd := 2001600, roll := 31, reasons := {} } }
    (t.stand.a.closed, t.stand.a.good, t.stand.b.state, t.stand.log)
      = (250, 248, .arming, [{ number := 4120, roll := 31, reject := false, reasons := {}, length := 1600 }]) := by decide

/-! ## The link (R158 to R178, section 9.7) -/

/-- A STOP takes 43 bit times, a MARK 107 and an ADVANCE 187 (9.7). -/
theorem test_lengths :
    (frameLength (.stop 0), frameLength (.mark { count := 0, kind := 1, spare := false, origin := 0, position := 0, value := 0, roll := 0 }),
      frameLength (.advance bay.advancePayload)) = (43, 107, 187) := by decide

/-- MARK 41 goes before the ADVANCE request. -/
theorem test_mark_first :
    ((after .transmissionStart { bay with
      link.mode := .on, link.advance := true
      link.marks := [{ count := 41, kind := 2, spare := false, origin := 1, position := 9, value := 21, roll := 0 }] }).link.onLink.map
        OnLink.slot) = some .mark := by decide

/-- An ADVANCE of the bay on the link. -/
def sending : State :=
  { bay with
    link := { mode := .on, advance := true
              onLink := some { slot := .advance, body := .advance bay.advancePayload, began := 0, replaced := false } } }

theorem test_sent : ((after .transmissionSuccess sending).now, (after .transmissionSuccess sending).link.advance) = (187, false) := by decide
theorem test_arbitration_lost : (after .arbitrationLost sending).link.advance = true := by decide
theorem test_silent : (after .transmitFailure { sending with link.failures := 15 }).port.state = .silent := by decide
theorem test_publication : (after .publicationTimerExpiry { bay with link.pubDue := some 10000 }).link.pubDue = some 20000 := by decide
theorem test_join_idle : (after .linkJoinIdle { bay with link.mode := .waiting }).link.mode = .on := by decide

/-- 9.7: an ADVANCE of count 41 at a count of 40 raises MARK_GAP with 40, 41 and sender 0. -/
theorem test_advance_gap :
    let t := after (.advanceFrame 0 { state := 2, limit := 9000, rate := 0, outlet := 0, inLen := 0, outLen := 0, sent := 41, flags := 0 })
      { bay with link.mode := .on, web.baseline := true, web.received := 40 }
    (t.port.fault, (t.peer 0).lastLimit, t.web.received) = (some { first := .markGap 40 41 0, further := false }, 9000, 41) := by decide

/-- R95: a role NONE station with no Pn adopts the upstream outlet length. -/
theorem test_adopts :
    (after (.advanceFrame 0 { state := 2, limit := 9000, rate := 0, outlet := 0, inLen := 7, outLen := 9600, sent := 0, flags := 0 })
      { bay with link.mode := .on }).web.pn = 9600 := by decide
theorem test_stop_taken :
    (after (.stopFrame 2 1) { leading with link.mode := .on }).rate.cause = some { origin := .peer 2, reason := 1 } := by decide
theorem test_resume_taken : (after (.resumeFrame 2) { bay with link.mode := .on, rate.latch := true }).rate.latch = false := by decide
theorem test_bad_frame : (after .badFrame { bay with link.mode := .on, link.rxErrors := 3 }).link.rxErrors = 4 := by decide
theorem test_foreign_frame : (after (.foreignFrame 3) { bay with link.mode := .on }).link.foreign = 1 := by decide
theorem test_unknown_kind : (after (.unknownKindFrame 2 3) { bay with link.mode := .on }).link.unknown = 1 := by decide
theorem test_duplicate : (after (.duplicateIdFrame 8) { bay with link.mode := .on }).link.stopResume = some (.stop 8) := by decide
theorem test_stale :
    let t := after (.stalenessTimerExpiry 2) { bay with peers := bay.peers.set 2 { presence := .live, staleDue := some 50000, lastLimit := 9 } }
    (t.now, (t.peer 2).presence, (t.peer 2).lastLimit) = (50000, .stale, 9) := by decide
theorem test_own_limit_and_resolved :
    let t := { bay with
      peers := (bay.peers.set 0 { presence := .live, lastLimit := 12000 }).set 2 { presence := .live, lastLimit := 9000 } }.limits
    (t.rate.own, t.rate.resolved) = (12000, 9000) := by decide

/-! ## Witnesses: states and operands that meet the hypotheses of each statement -/

/-- The leader in CONFIG with its limits formed, unchecked, and checked. -/
def ready : State := loaded.limits
def checked : State := { loaded with pat := { leading.pat with store := loaded.pat.store, loaded := 13 } }.limits

theorem ready_safe : ready.Safe := by
  refine ⟨by unfold State.StoreCanonical; decide, by unfold State.LatchHolds; decide, by unfold State.RatesLegal legalRate; decide,
    by unfold State.LimitsCurrent; decide, by unfold State.QueuesBounded; decide, by unfold State.ValvesFollow; decide,
    by unfold State.DrainExclusive; decide, by unfold State.DebtsBounded; decide, by unfold State.OneCarries; decide,
    by unfold State.SilentStill; decide, by unfold State.OnlyPeersHeard; decide, by unfold State.CorrectionBounded; decide,
    by unfold State.CountsBounded; decide, by unfold State.KnifeObeys; decide, by unfold State.ConfigStill; decide, ?_⟩
  unfold State.SetsLawful LineSet.Lawful FeedSet.Lawful KnifeSet.Lawful BoxSet.Lawful StandSet.Lawful
  exact ⟨by decide, by decide, by decide, by decide, by decide⟩

theorem checked_safe : checked.Safe := by
  refine ⟨by unfold State.StoreCanonical; decide, by unfold State.LatchHolds; decide, by unfold State.RatesLegal legalRate; decide,
    by unfold State.LimitsCurrent; decide, by unfold State.QueuesBounded; decide, by unfold State.ValvesFollow; decide,
    by unfold State.DrainExclusive; decide, by unfold State.DebtsBounded; decide, by unfold State.OneCarries; decide,
    by unfold State.SilentStill; decide, by unfold State.OnlyPeersHeard; decide, by unfold State.CorrectionBounded; decide,
    by unfold State.CountsBounded; decide, by unfold State.KnifeObeys; decide, by unfold State.ConfigStill; decide, ?_⟩
  unfold State.SetsLawful LineSet.Lawful FeedSet.Lawful KnifeSet.Lawful BoxSet.Lawful StandSet.Lawful
  exact ⟨by decide, by decide, by decide, by decide, by decide⟩

theorem witness_StepRunsFront : { bay with pending := [.stop []] }.pending = .stop [] :: [] := rfl
theorem witness_StepKeepsSafe : ready.Safe ∧ step ready = .next { ready with now := 1 } := ⟨ready_safe, rfl⟩
theorem witness_PowerOnIsWhole :
    (ResetCause.resetLow 10 = .power ∨ ∃ n, ResetCause.resetLow 10 = .resetLow n ∧ 10 ≤ n) ∧ 9 < 10 :=
  ⟨.inr ⟨10, rfl, by decide⟩, by decide⟩
theorem witness_RequestRoundTrip :
    (Instr.unload [1]).wf = true ∧ encodeRequest (.unload [1]) = some (0x31, [1]) := by decide
theorem witness_FrameRoundTrip :
    rowFrame (.stopFrame 2 5) = some (2, .stop 5) ∧ (2 : StationId).val < 3 ∧ (2 : StationId) ≠ 1 ∧ 2 ≤ (2 : StationId).val
      ∧ (1 : StationId).val < 3 ∧ 41 < (frameBits 2 (.stop 5)).length := by decide
/-- Frames of a kind 7 the part does not know, of STOP's kind with RESUME's class, and of 25 bytes. -/
theorem witness_FrameRoundTrip_damaged :
    let kinds : List (BitVec 4 × BitVec 3 × Nat) := [(1, 0, 1), (2, 1, 0), (5, 2, 9), (8, 4, 19)]
    (bitsOf (5 : Byte)).length = 8 * 1 ∧ 1 < 32 ∧ (List.replicate 200 true).length = 8 * 25 ∧ 25 < 32 ∧ 24 < 25
      ∧ (∀ row ∈ kinds, row.1 ≠ 7) ∧ (1, 0, 1) ∈ kinds ∧ ((0, 1) : BitVec 3 × Nat) ≠ (1, 1) ∧ ((0, 1) : BitVec 3 × Nat) ≠ (0, 2)
      ∧ crc16 (headerBits 5 2 7 1 ++ bitsOf (5 : Byte)) ≠ 0 ∧ (2 : BitVec 2) ≠ 3
      ∧ (2 : StationId).val < 3 ∧ (2 : StationId) ≠ 1 ∧ 2 ≤ (2 : StationId).val := by decide
theorem witness_PortAnswers :
    (Instr.unload [1]).wf = true ∧ encodeRequest (.unload [1]) = some (0x31, [1]) ∧ (0x31 : Byte) ≠ fetchByte ∧ (0x31 : Byte) ≠ 0x40
      ∧ { ready with pat.status := .checking }.pat.status = .checking
      ∧ encodeRequest (.unload []) = some (0x31, []) ∧ fixedCount (.unload []) = some 1 ∧ ([] : List Byte).length ≠ 1
      ∧ bay.pat.status ≠ .checking ∧ (Instr.unknownCommand 0x7F []).wf = true := by decide
theorem witness_LineSetJudged : (60000 : Nat) < 65536 ∧ 1000 < 65536 ∧ ready.port.state = .config ∧ ready.pat.status ≠ .checking := by
  decide
theorem witness_SetAndPatternRefused :
    bay.pat.status ≠ .checking ∧ bay.port.state ≠ .config ∧ ready.pat.status ≠ .checking ∧ ready.port.state = .config
      ∧ setLength 1 ≠ some ([] : List Byte).length ∧ setLength 5 = some (List.replicate 17 (0 : Byte)).length
      ∧ State.reset.sets.lineW = false ∧ (5 : Byte) ≠ 1 ∧ ready.sets.lineW = true ∧ ready.parseSet 5 (List.replicate 17 0) = none
      ∧ ([0, 0] : List Byte).length < 3 ∧ 258 < (List.replicate 259 (0 : Byte)).length
      ∧ 4096 < 4096 + ([0] : List Byte).length ∧ 14 + ([0] : List Byte).length ≤ 4096 ∧ 0 < 14 ∧ ready.pat.loaded < 14 := by decide
theorem witness_SetsWrittenPatternChecked :
    ready.Safe ∧ ready.port.state = .config ∧ ready.pat.status ≠ .checking ∧ ready.sets.lineW = true
      ∧ setLength 1 = some 10 ∧ (ready.parseSet 1 [1, 3, 0, 1, 0x2E, 0xE0, 0, 250, 1, 0x90]).isSome = true
      ∧ setLength 2 = some 27
      ∧ (ready.parseSet 2 [0, 11, 184, 0, 3, 232, 0, 156, 64, 0, 156, 64, 0, 234, 96, 20, 0, 100, 1, 144, 2, 0, 2, 128, 3, 132, 64]).isSome
        = true
      ∧ setLength 3 = some 17 ∧ (ready.parseSet 3 [0, 120, 0, 250, 0, 80, 0, 7, 208, 1, 3, 2, 5, 1, 44, 0, 40]).isSome = true
      ∧ setLength 4 = some 43
      ∧ (ready.parseSet 4 [0, 0, 0, 0, 0, 0, 0, 0, 0, 0, 0, 0, 0, 0, 0, 0, 0, 0, 0, 0, 0, 0, 0, 7, 208, 50, 30, 0, 200, 0, 10, 0, 10, 0, 60
          , 5, 7, 208, 0, 0, 0, 0, 0]).isSome = true
      ∧ setLength 5 = some 17
      ∧ (ready.parseSet 5 [23, 112, 20, 1, 244, 0, 5, 220, 0, 78, 32, 0, 250, 0, 7, 161, 32]).isSome = true :=
  ⟨ready_safe, by decide⟩
/-- A SET set without zones. -/
def plainBox : BoxSet :=
  { span := 2000, band := 50, hyst := 30, margin := 200, settle := 10, dwell := 10, purgeInterval := 60, purgeTime := 5, cell := 2000 }
/-- The worked feed and knife settings (2.4) and their bytes, written out from 11.3; beside each a set one past a bound. -/
theorem witness_SetsWrittenPatternChecked_bytes :
    (ready.port.state = .config ∧ ready.pat.status ≠ .checking ∧ ready.sets.lineW = true)
      ∧ (fitsBytes worked.sent ∧ worked.Lawful ready.sets.line ready.sets.box
          ∧ bytesSent worked.sent
            = [0, 11, 184, 0, 3, 232, 0, 156, 64, 0, 156, 64, 0, 234, 96, 20, 0, 100, 1, 144, 2, 0, 2, 128, 3, 132, 64])
      ∧ (fitsBytes { worked with tripHi := 1024 }.sent ∧ ¬{ worked with tripHi := 1024 }.Lawful ready.sets.line ready.sets.box)
      ∧ (fitsBytes (workedKnife.sent 1 2) ∧ workedKnife.Lawful
          ∧ bytesSent (workedKnife.sent 1 2) = [0, 120, 0, 250, 0, 80, 0, 7, 208, 1, 3, 2, 5, 1, 44, 0, 40])
      ∧ (fitsBytes (workedKnife.sent 2 0) ∧ fitsBytes (workedKnife.sent 0 3)) := by
  unfold fitsBytes FeedSet.Lawful KnifeSet.Lawful
  exact ⟨by decide, ⟨by decide, by decide, by decide⟩, ⟨by decide, by decide⟩, ⟨by decide, by decide, by decide⟩, by decide, by decide⟩
/-- The same of a SET set without zones, of the box of 6.9 and of the stand of 8.6. -/
theorem witness_SetsWrittenPatternChecked_zones :
    (fitsBytes (plainBox.sent 15) ∧ plainBox.Lawful ∧ ¬0 < plainBox.zoneCount
        ∧ bytesSent (plainBox.sent 15)
          = 0 :: List.replicate 22 0 ++ [7, 208, 50, 30, 0, 200, 0, 10, 0, 10, 0, 60, 5, 7, 208, 0, 0, 15, 0, 0])
      ∧ fitsBytes (plainBox.sent 16)
      ∧ (fitsBytes (steaming.sets.box.sent 1) ∧ steaming.sets.box.Lawful ∧ ready.sets.feedW = true
          ∧ ¬steaming.sets.box.boxLength ≤ ready.sets.feed.b)
      ∧ (fitsBytes unwinding.sets.stand.sent ∧ unwinding.sets.stand.Lawful
          ∧ bytesSent unwinding.sets.stand.sent = [23, 112, 20, 1, 244, 0, 5, 220, 0, 78, 32, 0, 250, 0, 7, 161, 32])
      ∧ (fitsBytes { unwinding.sets.stand with target := 1000 }.sent ∧ ¬{ unwinding.sets.stand with target := 1000 }.Lawful) := by
  unfold fitsBytes BoxSet.Lawful StandSet.Lawful
  exact ⟨⟨by decide, by decide, by decide, by decide⟩, by decide, ⟨by decide, by decide, by decide, by decide⟩,
    ⟨by decide, by decide, by decide⟩, by decide, by decide⟩
theorem witness_LoadPatternAccepted :
    ready.Safe ∧ ready.port.state = .config ∧ ready.pat.status ≠ .checking ∧ 1 ≤ ([7] : List Byte).length ∧ ([7] : List Byte).length ≤ 256
      ∧ 13 + ([7] : List Byte).length ≤ 4096 ∧ 13 ≤ ready.pat.loaded := ⟨ready_safe, by decide⟩
theorem witness_SetsWrittenPatternChecked_begins :
    bay.pat.status ≠ .checking ∧ bay.port.state ≠ .config ∧ State.reset.port.state = .config ∧ State.reset.sets.lineW = false
      ∧ ready.Safe ∧ ready.port.state = .config ∧ ready.sets.lineW = true ∧ ready.sets.line.role ≠ .none ∧ ready.sets.feedW = true
      ∧ ready.sets.knifeW = true := ⟨by decide, by decide, by decide, by decide, ready_safe, by decide⟩
/-- A list of records as a stream holds them, decided. -/
def holdsB (m : List Host.Cell) (bitLen off' pw' pd' : Nat) : List StreamRecord → Nat → Nat → Nat → Bool
  | [], off, pw, pd => off == off' && pw == pw' && pd == pd'
  | x :: xs, off, pw, pd =>
    x.off == off && decide (off + 2 ≤ bitLen) && kindOfBits (storeField m off 2) == some x.kind
      && readFields m bitLen off pw pd x.kind == some x.fields && badField x.kind x.fields == false
      && (if x.kind = .flat then holdsB m bitLen off' pw' pd' xs x.fields.next pw pd
         else holdsB m bitLen off' pw' pd' xs x.fields.next x.fields.width.toNat x.fields.depth.toNat)
theorem holds_of_holdsB (m : List Host.Cell) (bitLen off' pw' pd' : Nat) (xs : List StreamRecord) : ∀ off pw pd,
    holdsB m bitLen off' pw' pd' xs off pw pd = true → streamHolds m bitLen off' pw' pd' xs off pw pd := by
  induction xs with
  | nil => intro off pw pd h; simpa [holdsB, streamHolds, and_assoc] using h
  | cons x xs ih =>
    intro off pw pd h
    simp only [holdsB, Bool.and_eq_true, beq_iff_eq, decide_eq_true_eq] at h
    obtain ⟨⟨⟨⟨⟨h1, h2⟩, h3⟩, h4⟩, h5⟩, h6⟩ := h
    refine ⟨h1, h2, h3, h4, h5, ?_⟩
    split at h6 <;> rename_i hk <;> simp only [hk, if_true, if_false] <;> exact ih _ _ _ h6
/-- Stores that the check walks: none, END first, a cut FLAT, a FLAT of 0, sixteen FLATs of 65535, a small fold beside a FLAT of 6000 and
the worked pattern (2.4). -/
def walked : List Pattern :=
  ([[], [0x00], [0x40], [0x40, 0x00, 0x00],
    [0x7F, 0xFF, 0xDF, 0xFF, 0xF7, 0xFF, 0xFD, 0xFF, 0xFF, 0x7F, 0xFF, 0xDF, 0xFF, 0xF7, 0xFF, 0xFD, 0xFF, 0xFF, 0x7F, 0xFF, 0xDF, 0xFF
      , 0xF7, 0xFF, 0xFD, 0xFF, 0xFF, 0x7F, 0xFF, 0xDF, 0xFF, 0xF7, 0xFF, 0xFD, 0xFF, 0xFF],
    [0x45, 0xDC, 0x20, 0x08, 0x08], workedBytes] : List (List Byte)).map fun bytes =>
      { store := writeChunk [] 0 bytes, loaded := bytes.length, status := .checking }
/-- The leader with a check of such a store under way. -/
def underCheck (k : Fin 7) : State := { ready with pat := walked[k] }.limits
/-- The records of the worked pattern, and FLATs of 65535. -/
def workedRecords : List StreamRecord :=
  [{ off := 0, kind := .flat, fields := { flag := false, width := 6000, depth := 0, next := 18 } },
    { off := 18, kind := .foldLeft, fields := { flag := false, width := 1200, depth := 1800, next := 55 } },
    { off := 55, kind := .foldRight, fields := { flag := false, width := 1200, depth := 1800, next := 74 } },
    { off := 74, kind := .foldRight, fields := { flag := false, width := 1200, depth := 900, next := 102 } }]
def longRecords : List StreamRecord :=
  (List.range 15).map fun k => { off := 18 * k, kind := .flat, fields := { flag := false, width := 65535, depth := 0, next := 18 * k + 18 } }
def smallFold : List StreamRecord :=
  [{ off := 0, kind := .flat, fields := { flag := false, width := 6000, depth := 0, next := 18 } },
    { off := 18, kind := .foldLeft, fields := { flag := false, width := 1, depth := 1, next := 37 } }]
theorem witness_SetsWrittenPatternChecked_check (k : Fin 7) :
    (underCheck k).Safe ∧ (underCheck k).port.state = .config ∧ (underCheck k).pat.status = .checking
      ∧ (underCheck k).sets.feedW = true := by
  refine ⟨⟨?_, ?_, ?_, ?_, ?_, ?_, ?_, ?_, ?_, ?_, ?_, ?_, ?_, ?_, ?_, ?_⟩, ?_⟩
  · unfold State.StoreCanonical; revert k; decide
  · unfold State.LatchHolds; revert k; decide
  · unfold State.RatesLegal legalRate; revert k; decide
  · unfold State.LimitsCurrent; revert k; decide
  · unfold State.QueuesBounded; revert k; decide
  · unfold State.ValvesFollow; revert k; decide
  · unfold State.DrainExclusive; revert k; decide
  · unfold State.DebtsBounded; revert k; decide
  · unfold State.OneCarries; revert k; decide
  · unfold State.SilentStill; revert k; decide
  · unfold State.OnlyPeersHeard; revert k; decide
  · unfold State.CorrectionBounded; revert k; decide
  · unfold State.CountsBounded; revert k; decide
  · unfold State.KnifeObeys; revert k; decide
  · unfold State.ConfigStill; revert k; decide
  · unfold State.SetsLawful LineSet.Lawful FeedSet.Lawful KnifeSet.Lawful BoxSet.Lawful StandSet.Lawful
    exact ⟨by revert k; decide, by revert k; decide, by revert k; decide, by revert k; decide, by revert k; decide⟩
  · revert k; decide
theorem witness_SetsWrittenPatternChecked_stops :
    (8 * (underCheck 0).pat.loaded < 0 + 2)
      ∧ (0 + 2 ≤ 8 * (underCheck 1).pat.loaded ∧ kindOfBits (storeField (underCheck 1).pat.store 0 2) = none)
      ∧ (kindOfBits (storeField (underCheck 2).pat.store 0 2) = some .flat ∧ readFields (underCheck 2).pat.store 8 0 0 0 .flat = none)
      ∧ (kindOfBits (storeField (underCheck 3).pat.store 0 2) = some .flat
          ∧ readFields (underCheck 3).pat.store 24 0 0 0 .flat = some { flag := false, width := 0, depth := 0, next := 18 }
          ∧ badField .flat { flag := false, width := 0, depth := 0, next := 18 } = true)
      ∧ ∀ k : Fin 7, streamHolds (underCheck k).pat.store (8 * (underCheck k).pat.loaded) 0 0 0 [] 0 0 0 :=
  ⟨by decide, by decide, by decide, by decide, fun _ => ⟨rfl, rfl, rfl⟩⟩
theorem witness_SetsWrittenPatternChecked_long :
    streamHolds (underCheck 4).pat.store (8 * (underCheck 4).pat.loaded) 270 0 0 longRecords 0 0 0 ∧ streamP longRecords ≤ 1000000
      ∧ longRecords.length < 1024 ∧ kindOfBits (storeField (underCheck 4).pat.store 270 2) = some .flat
      ∧ readFields (underCheck 4).pat.store (8 * (underCheck 4).pat.loaded) 270 0 0 .flat
        = some { flag := false, width := 65535, depth := 0, next := 288 }
      ∧ badField .flat { flag := false, width := 65535, depth := 0, next := 288 } = false ∧ 1000000 < streamP longRecords + 65535 :=
  ⟨holds_of_holdsB _ _ _ _ _ _ _ _ _ (by decide), by decide⟩
theorem witness_SetsWrittenPatternChecked_unrunnable :
    let s := underCheck 5
    let bound := streamBound s.sets.feed s.sets.knife 6003
    streamHolds s.pat.store (8 * s.pat.loaded) 37 1 1 smallFold 0 0 0 ∧ streamP smallFold = 6003
      ∧ kindOfBits (storeField s.pat.store 37 2) = none ∧ smallFold.map bound = [150075, 900600075] :=
  ⟨holds_of_holdsB _ _ _ _ _ _ _ _ _ (by decide), by decide⟩
theorem witness_SetsWrittenPatternChecked_valid :
    let s := underCheck 6
    let bound := streamBound s.sets.feed s.sets.knife 18600
    streamHolds s.pat.store (8 * s.pat.loaded) 102 1200 900 workedRecords 0 0 0 ∧ streamP workedRecords = 18600
      ∧ kindOfBits (storeField s.pat.store 102 2) = none ∧ workedRecords.map bound = [465000, 2208750, 2208750, 3255000] :=
  ⟨holds_of_holdsB _ _ _ _ _ _ _ _ _ (by decide), by decide⟩
theorem witness_DecodeEndFills :
    let s := { leading with pat := { leading.pat with store := loaded.pat.store, loaded := 13 } }
    s.running = true ∧ s.sets.line.role ≠ .none ∧ s.dec.next = none
      ∧ kindOfBits (storeField s.pat.store s.dec.cursor 2) = some .flat
      ∧ (readFields s.pat.store (8 * s.pat.loaded) s.dec.cursor s.dec.prevW s.dec.prevD .flat).isSome = true
      ∧ kindOfBits (storeField s.pat.store 18 2) = some .foldLeft
      ∧ (readFields s.pat.store (8 * s.pat.loaded) 18 0 0 .foldLeft).isSome = true ∧ ready.running = false := by decide
/-- The records of the worked pattern (2.4) bit by bit: a FLAT of 6000 that ends at bit 18, a FOLD_LEFT of two absolute fields, a FOLD_RIGHT
of two deltas and one of an absolute depth, the last step of four, that ends before the END record at bit 102. -/
theorem witness_DecodeEndFills_coded :
    let s := { leading with pat := { leading.pat with store := loaded.pat.store, loaded := 13 } }
    let x := s.pat
    s.running = true ∧ s.sets.line.role ≠ .none ∧ s.dec.next = none
      ∧ x.streamNumber 0 2 = 1 ∧ x.streamNumber 2 16 = 6000 ∧ 18 ≤ 8 * x.loaded
      ∧ x.streamNumber 18 2 = 2 ∧ x.streamBit 20 = false ∧ x.streamValue 21 0 = 1200 ∧ x.streamPast 21 = 38 ∧ x.streamValue 38 0 = 1800
      ∧ x.streamPast 38 = 55 ∧ 55 ≤ 8 * x.loaded
      ∧ x.streamNumber 55 2 = 3 ∧ x.streamValue 58 1200 = 1200 ∧ x.streamPast 58 = 66 ∧ x.streamValue 66 1800 = 1800
      ∧ x.streamPast 66 = 74
      ∧ x.streamNumber 74 2 = 3 ∧ x.streamValue 77 1200 = 1200 ∧ x.streamValue (x.streamPast 77) 1800 = 900
      ∧ x.streamPast (x.streamPast 77) = 102 ∧ x.steps = 3 + 1 ∧ x.streamNumber 102 2 = 0 := by decide
/-- The deltas at their ends: 1000000 is -64 and 0111111 is +63 (R30). -/
theorem witness_DecodeEndFills_deltas :
    let x : Pattern := { store := writeChunk [] 0 [0x88, 0x07, 0xE0], loaded := 3 }
    x.streamNumber 0 2 = 2 ∧ x.streamValue 3 100 = 36 ∧ x.streamPast 3 = 11 ∧ x.streamValue 11 10 = 73 ∧ x.streamPast 11 = 19
      ∧ 19 ≤ 8 * x.loaded ∧ x.streamValue 3 63 = -1 := by decide
theorem witness_StationCommandsRefused :
    bay.pat.status ≠ .checking ∧ bay.port.state ≠ .config ∧ ready.port.state = .config ∧ State.reset.sets.lineW = false
      ∧ (ready.pat.status ≠ .valid ∧ ready.sets.line.role ≠ .none) ∧ { bay with port.state := .silent }.port.state = .silent
      ∧ spindleArg [2, 0, 0, 0, 0, 0] = none ∧ spindleArg [1, 0, 0, 0, 0, 0] = some .b ∧ ready.sets.line.standKind = .none
      ∧ unwinding.sets.lineW = true ∧ unwinding.sets.line.standKind ≠ .none ∧ (unwinding.stand.spindle .b).state ≠ .empty
      ∧ ({ unwinding with stand.b := {} }.stand.spindle .b).state = .empty ∧ unwinding.sets.line.standKind = .unwind
      ∧ numAt [1, 0, 0, 0, 0, 0] 2 4 = 0 ∧ spindleArg [2] = none ∧ spindleArg [0] = some .a
      ∧ (unwinding.stand.spindle .a).state = .running := by decide
theorem witness_StationJoins_start :
    checked.Safe ∧ checked.port.state = .config ∧ checked.pat.status ≠ .checking ∧ checked.sets.lineW = true
      ∧ (checked.ownId ≠ 0 ∨ checked.sets.line.role ≠ .none ∨ 0 < checked.sets.box.zoneCount → checked.sets.feedW = true)
      ∧ (checked.sets.line.role ≠ .none → checked.sets.knifeW = true ∧ checked.pat.status = .valid)
      ∧ (checked.sets.line.standKind ≠ .none → checked.sets.standW = true) := ⟨checked_safe, by decide⟩
theorem witness_RestartAccepted :
    unwinding.pat.status ≠ .checking ∧ unwinding.stand.verdicts = [] ∧ unwinding.stand.pasteDue = none
      ∧ (let s := { unwinding with stand.b := { unwinding.stand.b with state := .synced }, stand.pasteDue := some 9 }
         s.stand.verdicts = [] ∧ s.stand.pasteDue.isSome = true ∧ s.stand.inState .synced = some .b
           ∧ (s.stand.spindle (otherSpindle .b)).state = .running) := by decide
/-- A RESTART of the rewind of 8.7 with a panel waiting for its verdict, its log full or not, and of one whose other spindle is ARMING. -/
theorem witness_RestartAccepted_verdicts :
    let c : ClosedPanel :=
      { number := 9, start := 2000000, stop := 2001600, spindle := some .a, roll := 31, reasons := { splice := true } }
    let e : LogEntry := { number := 8, roll := 31, reject := false, reasons := {}, length := 1600 }
    let s := { rewinding with
      stand.verdicts := [c], stand.log := List.replicate 32 e, stand.b := { rewinding.stand.b with state := .arming } }
    s.pat.status ≠ .checking ∧ s.stand.pasteDue = none ∧ s.stand.log.length ≤ 32 ∧ (s.stand.spindle .b).state = .arming
      ∧ (s.stand.spindle .a).roll = c.roll ∧ (s.stand.spindle .a).state ≠ .empty
      ∧ (after (.restart []) s).stand.log = List.replicate 31 e ++ [{ e with number := 9, reject := true, reasons := { splice := true } }]
      ∧ (after (.restart []) s).stand.a.reject = 3 ∧ (after (.restart []) s).stand.overflow = true := by decide
theorem witness_StationJoins_cleared :
    bay.pat.status ≠ .checking ∧ bay.port.state ≠ .fault
      ∧ (let s := { leading with port.state := .fault, rate.latch := true, rate.effective := 0 }
         s.port.state = .fault ∧ s.KnifeObeys ∧ s.peersLive = false ∧ s.leader.state = .panel ∧ s.follower.state ≠ .panel)
      ∧ { following with port.state := .fault }.follower.state = .panel ∧ bay.leader.state ≠ .panel := by
  unfold State.KnifeObeys; decide
/-- A role NONE bay in JOINING that meets every joining condition but that peer 2 is LIVE. -/
def joining : State :=
  { bay with
    port.state := .joining, link.mode := .on, web.latched := true, web.pn := 9600, peers := bay.peers.set 0 { presence := .live } }
/-- The ADVANCE of peer 2 that it waits for. -/
def awaited : Instr :=
  .advanceFrame 2 { state := 1, limit := 0, rate := 0, outlet := 0, inLen := 9600, outLen := 9600, sent := 0, flags := 0 }
theorem witness_StationJoins_join :
    joining.joiningConditions.all id = false ∧ exec (.wake []) joining = .next (after (.wake []) joining)
      ∧ (after (.wake []) joining).port.state = .joining ∧ exec awaited joining = .next (after awaited joining)
      ∧ (after awaited joining).port.state = .active ∧ joining.port.state ≠ .active := by
  refine ⟨by decide, rfl, by decide, rfl, by decide, by decide⟩
theorem witness_StationJoins_active :
    let s := { joining with port.state := .fault, peers := joining.peers.set 2 { presence := .live } }
    s.pat.status ≠ .checking ∧ s.port.state = .fault ∧ s.KnifeObeys ∧ (∀ id, s.isPeer id = true → (s.peer id).presence = .live)
      ∧ s.web.latched = true ∧ s.inletLength ≠ 0 ∧ s.outletLength ≠ 0 ∧ s.sets.line.role ≠ .follower
      ∧ s.sets.line.standKind ≠ .unwind ∧ s.sets.line.standKind ≠ .rewind := by
  unfold State.KnifeObeys; decide
theorem witness_StopAccepted :
    leading.pat.status ≠ .checking ∧ leading.port.state = .active ∧ leading.rate.latch = false ∧ leading.knife.phase ≠ .tuck
      ∧ (let s := { folding with knife.phase := .tuck }
         s.pat.status ≠ .checking ∧ s.port.state = .active ∧ s.knife.phase = .tuck
           ∧ s.link.marks.length + s.web.bay.length + s.dwell.cells.length < 6
           ∧ s.web.outlet.length + s.web.bay.length + s.dwell.cells.length < 16) := by decide
theorem witness_ResumeWakeAccepted :
    let s := { steaming with
      rate.effective := 0, rate.latch := true, box.inForce := true
      box.zones := #v[{ state := .keepwarm }, { state := .off }, { state := .fault }, {}] }
    s.pat.status ≠ .checking ∧ s.port.state = .active ∧ s.port.state ≠ .config ∧ s.KnifeObeys ∧ s.box.inForce = true
      ∧ s.isZone 0 = true ∧ (s.zone 0).state = .keepwarm ∧ (s.zone 1).state = .off ∧ (s.zone 2).state = .fault
      ∧ bay.box.inForce = false ∧ bay.zoneSettle.box = bay.box := by
  unfold State.KnifeObeys; decide
theorem witness_RollsLoaded :
    unwinding.pat.status ≠ .checking ∧ spindleArg [1, 16, 0, 0, 16, 0] = some .b ∧ unwinding.sets.lineW = true
      ∧ ({ unwinding with stand.b := {} }.stand.spindle .b).state = .empty ∧ unwinding.KnifeObeys
      ∧ unwinding.sets.line.standKind = .unwind ∧ numAt [1, 16, 0, 0, 16, 0] 2 4 ≠ 0 ∧ unwinding.stand.verdicts = []
      ∧ rewinding.sets.line.standKind = .rewind ∧ rewinding.stand.overfill = false
      ∧ { rewinding with stand := {} }.stand.inState .winding = none ∧ (rewinding.stand.inState .winding).isSome = true
      ∧ spindleArg [1] = some .b ∧ (unwinding.stand.spindle .b).state = .loaded ∧ unwinding.sets.line.standKind ≠ .none := by
  unfold State.KnifeObeys; decide
/-- The rewind of 8.7 at rest under the overfill hold, spindle B empty, 1100 of panel 9 wound. -/
def heldAtRest : State :=
  { rewinding with
    rate.effective := 0
    stand := { rewinding.stand with
      overfill := true, b := {}
      panel := some { number := 9, start := 2000500, lengthEnd := 2002100, roll := 31, reasons := {} } } }
theorem witness_RollsLoaded_cuts :
    heldAtRest.pat.status ≠ .checking ∧ spindleArg [1, 32, 0, 0, 0, 0] = some .b ∧ heldAtRest.sets.lineW = true
      ∧ (heldAtRest.stand.spindle .b).state = .empty ∧ heldAtRest.sets.line.standKind = .rewind
      ∧ (heldAtRest.stand.spindle (otherSpindle .b)).state = .winding ∧ heldAtRest.stand.overfill = true
      ∧ heldAtRest.port.state = .active ∧ heldAtRest.rate.latch = false ∧ heldAtRest.web.restDue = none ∧ heldAtRest.rate.effective = 0
      ∧ heldAtRest.sets.box.zoneCount = 0 ∧ heldAtRest.dwell.range = none ∧ heldAtRest.stand.verdicts = []
      ∧ heldAtRest.stand.log.length < 32
      ∧ (heldAtRest.stand.panel.map fun p => atOrBeyond heldAtRest.web.o p.lengthEnd) = some false
      ∧ { heldAtRest with web.restDue := some 9 }.web.restDue.isSome = true ∧ { heldAtRest with rate.latch := true }.KnifeObeys := by
  unfold State.KnifeObeys; decide
theorem witness_ClearZoneJudged :
    let s := { steaming with box.zones := #v[{ state := .fault, temp := 1599 }, { state := .fault, temp := 1600 }, { state := .open }, {}] }
    s.pat.status ≠ .checking ∧ ready.port.state = .config ∧ s.port.state ≠ .config ∧ 4 ≤ (4 : Byte).toNat
      ∧ s.sets.box.zoneCount ≤ (3 : Byte).toNat ∧ (2 : Fin 4).val = (2 : Byte).toNat ∧ 2 < s.sets.box.zoneCount
      ∧ (s.zone 2).state ≠ .fault ∧ (s.zone 1).state = .fault ∧ s.sets.box.zones[(1 : Fin 4)].setpoint ≤ (s.zone 1).temp
      ∧ (s.zone 0).state = .fault ∧ (s.zone 0).sensorFault = false ∧ (s.zone 0).temp < s.sets.box.zones[(0 : Fin 4)].setpoint
      ∧ s.KnifeObeys ∧ s.box.inForce = false ∧ { s with box.inForce := true }.box.inForce = true := by
  unfold State.KnifeObeys; decide
theorem witness_ReadsAnswer :
    bay.pat.status ≠ .checking ∧ (0 : Byte).toNat = 0 ∧ 32 < (33 : Byte).toNat ∧ 1 ≤ (1 : Byte).toNat ∧ (32 : Byte).toNat ≤ 32 := by decide
theorem witness_ResponsesLaidOut : bay.QueuesBounded ∧ bay.dwell.cells.length ≤ 255 := by
  unfold State.QueuesBounded; decide
theorem witness_EventCommands :
    bay.pat.status ≠ .checking ∧ bay.eligibleSource = none ∧ { bay with port.ip := 8, port.ie := 8 }.eligibleSource = some .zone
      ∧ bay.port.ius = 0 ∧ (72 : BitVec 7).getLsbD Source.fault.bit = true := by decide

/-- The bay with two LIVE peers and its limits formed. -/
def agreed : State :=
  { bay with
    sets.feed := { worked with a := 0, aS := 0 }
    sets.feedW := true
    peers := (bay.peers.set 0 { presence := .live, lastLimit := 12000 }).set 2 { presence := .live, lastLimit := 9000 } }.limits

theorem witness_ResolvedRate :
    agreed.LimitsCurrent ∧ agreed.port.state = .active ∧ agreed.rate.latch = false ∧ agreed.isPeer 0 = true
      ∧ (agreed.peer 0).presence = .live ∧ (agreed.peer 2).presence = .live
      ∧ (∀ id, agreed.isPeer id = true → (agreed.peer id).presence = .live ∧ 100 ≤ (agreed.peer id).lastLimit) ∧ 100 ≤ agreed.rate.own
      ∧ bay.limits.LimitsCurrent ∧ bay.limits.isPeer 2 = true ∧ (bay.limits.peer 2).presence ≠ .live := by
  unfold State.LimitsCurrent; decide
theorem formed_current (s : State) : s.limits.LimitsCurrent := rfl
/-- The box with two zones of 24000 in these states. -/
def twoZones (x y : ZoneState) : State :=
  { steaming with sets.box.zoneCount := 2, box.zones := #v[{ state := x }, { state := y }, {}, {}] }
/-- The box with one open zone of 1000 at dwell 600 and a panel of 20000. -/
def smallZone : State :=
  { steaming with
    sets.box := { steaming.sets.box with zoneCount := 1, zones := #v[{ length := 1000 }, {}, {}, {}], dwell := 600 }
    web.pn := 20000 }
/-- The set limits of R119: two ready zones of 24000 give 10000, one gives 5000, and a zone of 1000 at dwell 600 and Q 20000 gives 0. -/
theorem witness_ResolvedRate_set :
    (twoZones .ready .open).limits.rate.setLimit = 10000 ∧ (twoZones .purge .open).limits.rate.setLimit = 5000
      ∧ (twoZones .purge .off).limits.rate.setLimit = 0 ∧ smallZone.limits.rate.setLimit = 0
      ∧ smallZone.limits.sets.box.zoneCount ≠ 0 ∧ smallZone.limits.web.pn ≠ 0 ∧ agreed.sets.box.zoneCount = 0 := by decide
theorem witness_ResolvedRate_current : (twoZones .ready .open).limits.LimitsCurrent ∧ smallZone.limits.LimitsCurrent :=
  ⟨formed_current _, formed_current _⟩
/-- The knife limit at a VALID and an INVALID pattern, and the stand limit under a hold, in a splice sequence and idle. -/
theorem witness_ResolvedRate_stand :
    leading.limits.LimitsCurrent ∧ leading.limits.pat.status = .valid ∧ leading.limits.rate.knifeLimit = 18433
      ∧ ready.pat.status ≠ .valid ∧ ready.LimitsCurrent ∧ ready.sets.line.role ≠ .none ∧ agreed.sets.line.role = .none
      ∧ unwinding.limits.LimitsCurrent ∧ unwinding.limits.rate.standLimit = 60000
      ∧ { unwinding with stand.b := { unwinding.stand.b with state := .arming } }.limits.rate.standLimit = 6000
      ∧ { unwinding with stand.runOut := true }.limits.rate.standLimit = 0
      ∧ { rewinding with stand.overfill := true }.limits.rate.standLimit = 0 ∧ rewinding.limits.rate.standLimit = 60000
      ∧ agreed.sets.line.standKind = .none := by
  unfold State.LimitsCurrent; decide
theorem witness_RampExpiry :
    agreed.KnifeObeys ∧ agreed.rate.latch = false ∧ agreed.rate.effective = 0 ∧ agreed.rate.resolved ≠ 0
      ∧ { agreed with rate.effective := 8900 }.rate.effective < agreed.rate.resolved
      ∧ agreed.rate.resolved < { agreed with rate.effective := 9100 }.rate.effective
      ∧ { agreed with rate.effective := 9000 }.rate.effective = agreed.rate.resolved
      ∧ (let s := { leading with rate.effective := 0, rate.resolved := 9000, cad.remaining := 2000 }
         s.cad.mode = .stepping ∧ s.cad.begun = true ∧ 0 < s.cad.remaining ∧ s.rate.effective = 0
           ∧ (after .rampTimerExpiry s).rate.effective = 250)
      ∧ (let s := { agreed with rate.effective := 3000, cad := { mode := .continuous, begun := true, pn := 9600 } }
         s.cad.mode = .continuous ∧ s.cad.begun = true ∧ s.cad.pn ≠ 0 ∧ (after .rampTimerExpiry s).rate.effective = 3250) := by
  unfold State.KnifeObeys; decide
theorem witness_DancerSampled :
    unwinding.ownId = 0 ∧ leading.ownId ≠ 0 ∧ leading.port.state ≠ .config ∧ leading.KnifeObeys ∧ leading.rate.dancerLimit = 60000
      ∧ { leading with rate.dancerLimit := 0 }.rate.dancerLimit = 0 ∧ (99 : BitVec 10).toNat < leading.sets.feed.tripLo
      ∧ leading.sets.feed.tripHi < (901 : BitVec 10).toNat ∧ leading.port.state = .active
      ∧ { leading with port.state := .silent }.port.state = .silent
      ∧ { leading with port.state := .fault, port.fault := some { first := .runOut .a 3, further := false } }.port.fault.isSome = true := by
  unfold State.KnifeObeys; decide
theorem witness_PanelPeriodsSum :
    leading.cad.carry = 0 ∧ 0 < leading.pat.p
      ∧ ([flatStep, foldStep, foldStep, { foldStep with pitch := 3000 }].map Step.pitch).sum = leading.pat.p
      ∧ 100 ≤ leading.rate.effective ∧ flatStep.pitch ≤ 65535
      ∧ (let s := { leading with cad.begun := false }
         s.cad.mode = .stepping ∧ s.cad.begun = false ∧ s.knife.phase = .idle ∧ s.leader.state ≠ .pending ∧ s.leader.state ≠ .bridge) := by
  decide

/-- The leader about to take a step, and with a splice over it. -/
def stepping (st : Step) : State := { leading with dec.next := some st }
def blocked : State :=
  { stepping foldStep with
    web.i := 213800, web.o := 1007200, web.bay := [{ mark := { body := .splice 5, origin := 0, pos := 214000 }, awaiting := false }] }

theorem witness_StepStartTaken :
    let s := stepping foldStep
    s.LatchHolds ∧ s.dec.next = some foldStep ∧ s.cad.mode = .stepping ∧ s.cad.begun = true ∧ s.knife.phase = .idle
      ∧ 0 < s.rate.effective ∧ (s.cad.cur.map StepInfo.complete).getD true = true ∧ s.registering = false ∧ s.leader.state ≠ .closing
      ∧ s.guardsOver s.knifePoint foldStep.pitch = [] ∧ s.ownId ≠ 0 ∧ foldStep.kind ≠ .flat ∧ flatStep.kind = .flat
      ∧ s.sets.line.role ≠ .follower ∧ { following with sets.knife.registration := false }.sets.line.role = .follower
      ∧ { following with sets.knife.registration := false }.registering = false ∧ leading.dec.next = none := by
  unfold State.LatchHolds; decide
theorem witness_FoldFeedLength :
    let s := { following with dec.next := some foldStep }
    s.dec.next = some foldStep ∧ s.cad.mode = .stepping ∧ s.cad.begun = true ∧ s.knife.phase = .idle ∧ 0 < s.rate.effective
      ∧ (s.cad.cur.map StepInfo.complete).getD true = true ∧ s.registering = true ∧ s.leader.state = .off ∧ foldStep.kind ≠ .flat
      ∧ 1 ≤ foldStep.pitch ∧ foldStep.flag = false := by decide
theorem witness_GuardsSpared :
    (let s := { blocked with web.bay := [], web.i := 3000 }
     s.leader.state = .panel ∧ s.dec.next = some foldStep ∧ s.knife.phase = .idle ∧ (after .stepStart s).knife.phase ≠ .idle)
      ∧ blocked.LatchHolds ∧ blocked.dec.next = some foldStep ∧ blocked.cad.mode = .stepping ∧ blocked.cad.begun = true
      ∧ blocked.knife.phase = .idle ∧ 0 < blocked.rate.effective ∧ (blocked.cad.cur.map StepInfo.complete).getD true = true
      ∧ blocked.leader.state = .panel ∧ blocked.guardsOver blocked.knifePoint foldStep.pitch ≠ []
      ∧ { blocked with leader.state := .closing }.leader.state = .closing ∧ blocked.leader.targetSet = false := by
  unfold State.LatchHolds; decide
theorem witness_PanelDecided :
    leading.leader.state ≠ .pending
      ∧ (let s := { leading with leader.state := .pending }
         s.LatchHolds ∧ s.leader.state = .pending ∧ s.knife.phase = .idle ∧ 0 < s.rate.effective
           ∧ s.guardsOver s.knifePoint s.pat.p = [] ∧ s.link.marks.length < 6 ∧ s.ownId.val + 1 ≠ s.sets.line.n
           ∧ s.port.state ≠ .silent)
      ∧ (let s := { blocked with leader.state := .pending }
         s.LatchHolds ∧ s.leader.state = .pending ∧ s.knife.phase = .idle ∧ 0 < s.rate.effective
           ∧ s.guardsOver s.knifePoint s.pat.p = [214000] ∧ s.sets.knife.g ≤ 100000 ∧ s.pat.p ≤ 1000000
           ∧ atOrBeyond s.knifePoint (214000 + toPos s.sets.knife.g + 1) = false) := by
  unfold State.LatchHolds; decide
theorem witness_PanelDecided_aborts :
    blocked.LatchHolds ∧ blocked.dec.next = some foldStep ∧ blocked.cad.mode = .stepping ∧ blocked.cad.begun = true
      ∧ blocked.knife.phase = .idle ∧ 0 < blocked.rate.effective ∧ (blocked.cad.cur.map StepInfo.complete).getD true = true
      ∧ blocked.leader.state = .panel ∧ blocked.guardsOver blocked.knifePoint foldStep.pitch = [214000] ∧ foldStep.pitch ≤ 65535
      ∧ blocked.link.marks.length < 6 ∧ blocked.ownId.val + 1 ≠ blocked.sets.line.n ∧ blocked.port.state ≠ .silent
      ∧ blocked.web.outlet = [] ∧ atOrBeyond blocked.web.o (blocked.web.o + toPos blocked.sets.feed.b) = false
      ∧ (let s := { blocked with leader := { state := .closing, target := 215000, targetSet := true } }
         s.leader.state = .closing ∧ s.leader.targetSet = true ∧ atOrBeyond s.knifePoint s.leader.target = false
           ∧ atOrBeyond s.knifePoint { s with leader.target := 9 }.leader.target = true)
      ∧ { blocked with leader := { state := .closing } }.leader.targetSet = false := by
  unfold State.LatchHolds; decide
theorem witness_RunBegins :
    bay.cad.mode = .idle
      ∧ (let s := { leading with cad.begun := false }
         s.cad.begun = false ∧ s.knife.phase = .idle ∧ 0 < s.rate.effective ∧ s.leader.state ≠ .pending ∧ s.leader.state ≠ .bridge
           ∧ s.cad.mode = .stepping)
      ∧ (let s := { bay with rate.effective := 3000, cad := { mode := .continuous, pn := 9600 } }
         s.cad.begun = false ∧ s.knife.phase = .idle ∧ 0 < s.rate.effective ∧ s.leader.state ≠ .pending ∧ s.leader.state ≠ .bridge
           ∧ s.cad.mode = .continuous ∧ s.cad.pn ≠ 0) := by decide
/-- A bridge that has come to its target before its run begins, at the target and one past it (log 12). -/
theorem witness_RunBegins_bridge :
    let s := { leading with web.i := 9000, cad := { mode := .continuous, pn := 18600 }, leader := { state := .bridge, target := 6000 } }
    s.cad.begun = false ∧ s.knife.phase = .idle ∧ 0 < s.rate.effective ∧ s.leader.state = .bridge ∧ s.cad.mode = .continuous
      ∧ s.cad.pn ≠ 0 ∧ s.knifePoint = 6000 ∧ atOrBeyond s.knifePoint s.leader.target = true
      ∧ atOrBeyond { s with web.i := 9001 }.knifePoint s.leader.target = true
      ∧ atOrBeyond { s with web.i := 8999 }.knifePoint s.leader.target = false := by decide

/-- The step in progress of a test, complete or not, last or not. -/
def inProgress (kind : StepKind) (last : Bool) : StepInfo :=
  { number := 4, kind := kind, pitch := 3000, start := 0, outletStart := 0, yield := 1200, last := last, complete := false, due := 9 }

theorem witness_StepTimerExpires :
    (leading.cad.cur.map fun c => decide (c.kind ≠ .flat) && !c.complete).getD false = false
      ∧ { leading with cad.cur := some (inProgress .foldLeft false) }.cad.cur = some (inProgress .foldLeft false)
      ∧ (inProgress .foldLeft false).kind ≠ .flat ∧ (inProgress .foldLeft false).complete = false
      ∧ (inProgress .foldLeft false).last = false ∧ leading.KnifeObeys ∧ (inProgress .foldLeft true).last = true
      ∧ leading.leader.state = .panel ∧ following.leader.state = .off ∧ following.follower.state = .panel := by
  unfold State.KnifeObeys; decide
/-- The last FOLD of a panel in CLOSING, its bridge target ahead, at or behind the knife point, or none (R58, log 38). -/
theorem witness_StepTimerExpires_closing :
    let c := inProgress .foldLeft true
    let s := { leading with web.i := 9000, cad.cur := some c, leader := { state := .closing, number := 65535, target := 6001, targetSet := true } }
    s.cad.cur = some c ∧ c.kind ≠ .flat ∧ c.complete = false ∧ c.last = true ∧ s.leader.state = .closing
      ∧ (s.leader.targetSet = true ∧ atOrBeyond s.knifePoint s.leader.target = false)
      ∧ atOrBeyond s.knifePoint { s with leader.target := 6000 }.leader.target = true
      ∧ { s with leader.targetSet := false }.leader.targetSet = false ∧ s.KnifeObeys ∧ s.link.marks.length < 6
      ∧ s.web.outlet = [] ∧ s.ownId.val + 1 ≠ s.sets.line.n ∧ s.port.state ≠ .silent
      ∧ atOrBeyond s.web.o (c.outletStart + toPos c.yield + toPos s.sets.feed.b) = false := by
  unfold State.KnifeObeys; decide
/-- A bay in a continuous run, 40000 short of the outlet, with a mark about to reach its knife line. -/
def passing (body : MarkBody) : State :=
  { bay with
    sets.feed := worked
    sets.feedW := true
    rate.effective := 3000
    cad := { mode := .continuous, begun := true, pn := 9600 }
    web.i := 8999
    web.bay := [{ mark := { body := body, origin := 0, pos := 6000 }, awaiting := false }] }
/-- The same mark inside a fold in flight. -/
def inFold (body : MarkBody) : State :=
  { passing body with
    web.seg := { kind := .fold 1200 false, start := 5990, outletStart := 0 }
    knife := { phase := .feed, cycle := some { step := 2, dir := .left, w := 1200, f := 4800, start := 5990, outletStart := 0, remaining := 9 } } }
theorem witness_MarksAndMisses_crosses :
    (passing (.panel 7)).KnifeObeys ∧ (inFold (.abort 7)).KnifeObeys ∧ (let s := passing (.panel 7)
     s.web.bay = [{ mark := { body := .panel 7, origin := 0, pos := 6000 }, awaiting := false }] ∧ s.web.span = [] ∧ s.reg.expect = none
       ∧ s.sets.line.standKind = .none ∧ 6000 + toPos s.sets.feed.a = s.web.i + 1 ∧ atOrBeyond 6000 s.web.seg.start = true
       ∧ s.cad.mode = .continuous ∧ s.cad.begun = true ∧ s.cad.pn ≠ 0 ∧ 0 < s.rate.effective ∧ s.knife.phase = .idle
       ∧ s.web.seg.kind = .flow ∧ s.sets.box.zoneCount = 0 ∧ s.web.outlet = [] ∧ s.link.marks.length < 6 ∧ 0 < s.sets.feed.b
       ∧ s.sets.feed.b < 2147483648 ∧ s.sets.line.role = .none ∧ s.leader.state = .off ∧ s.ownId.val + 1 ≠ s.sets.line.n
       ∧ s.port.state ≠ .silent
       ∧ { s with sets.line.role := .follower, follower.state := .waiting }.follower.state = .waiting)
      ∧ (let s := { inFold (.abort 7) with sets.line.role := .follower, follower.state := .panel }
         s.web.bay = [{ mark := { body := .abort 7, origin := 0, pos := 6000 }, awaiting := false }] ∧ s.web.span = []
           ∧ s.reg.expect = none ∧ s.sets.line.standKind = .none ∧ 6000 + toPos s.sets.feed.a = s.web.i + 1
           ∧ atOrBeyond 6000 s.web.seg.start = true ∧ s.knife.phase = .feed ∧ s.knife.halted = false
           ∧ s.knife.cycle.map Cycle.remaining = some 9 ∧ s.web.seg.kind = .fold 1200 false ∧ s.sets.line.role = .follower
           ∧ s.follower.state = .panel)
      ∧ { inFold (.panel 7) with sets.line.role := .follower }.web.bay
          = [{ mark := { body := .panel 7, origin := 0, pos := 6000 }, awaiting := false }]
      ∧ { inFold (.splice 7) with sets.line.role := .leader }.sets.line.role = .leader := by
  unfold State.KnifeObeys; decide
/-- The follower about to take a registered fold at 502400, its window 300 and its sensor 1000 behind. -/
def registered (i : Pos) (history : List Detection) (misses : Nat) : State :=
  { following with
    web.i := i
    reg := { history := history, misses := misses, c := 6, nominal := 502400 }
    dec.next := some { foldStep with flag := true }
    cad.cur := some { number := 1, kind := .flat, pitch := 6000, start := 496400, outletStart := 0, yield := 6000, last := false
                      complete := true, due := 0 } }
/-- A flagged FOLD whose own step start passes the deadline, the fourth miss in a row (log 32). -/
theorem witness_FoldFeedLength_flag :
    let st := { foldStep with flag := true }
    let s := registered 503701 [] 3
    s.dec.next = some st ∧ s.cad.mode = .stepping ∧ s.cad.begun = true ∧ s.knife.phase = .idle ∧ 0 < s.rate.effective
      ∧ (s.cad.cur.map StepInfo.complete).getD true = true ∧ s.registering = true ∧ s.leader.state = .off ∧ st.kind ≠ .flat
      ∧ 1 ≤ st.pitch ∧ st.flag = true ∧ s.reg.misses = 3 ∧ (after .stepStart s).rate.latch = true
      ∧ (after .stepStart s).port.state = .fault := by decide
theorem witness_MarksAndMisses_opens :
    let s := registered 503000 [{ x := 502099, used := false }, { x := 502700, used := false }, { x := 502701, used := false }] 3
    s.dec.next = some { foldStep with flag := true } ∧ s.cad.mode = .stepping ∧ s.cad.begun = true ∧ s.knife.phase = .idle
      ∧ 0 < s.rate.effective ∧ (s.cad.cur.map StepInfo.complete).getD true = true ∧ s.registering = true ∧ s.leader.state = .off
      ∧ foldStep.kind ≠ .flat ∧ s.cad.cur ≠ none ∧ s.reg.expect = none ∧ (s.sets.knife.window : Int) = 300
      ∧ s.reg.history.map (fun d => (d.x - 502400).toInt) = [-301, 300, 301] ∧ 0 < s.reg.misses
      ∧ beyond (registered 503700 [] 3).web.i (502400 + toPos 1300) = false
      ∧ beyond (registered 503701 [] 3).web.i (502400 + toPos 1300) = true ∧ (registered 503701 [] 3).port.state = .active
      ∧ { s with reg.expect := some { step := 1, x := 496400, deadline := 497700 } }.reg.expect.isSome = true := by decide
/-- The same follower in the feed of a fold, with an expectation open. -/
def expecting (i : Pos) : State :=
  { folding with
    web.i := i, reg.misses := 3, reg.expect := some { step := 2, x := 502400, deadline := 503700 }
    knife.cycle := some { step := 2, dir := .left, w := 1200, f := 4800, start := 0, outletStart := 0, remaining := 9 } }
theorem witness_MarksAndMisses_misses :
    (expecting 503699).reg.expect = some { step := 2, x := 502400, deadline := 503700 } ∧ (expecting 503699).KnifeObeys
      ∧ (expecting 503699).web.bay = [] ∧ (expecting 503699).web.span = [] ∧ (expecting 503699).sets.line.standKind = .none
      ∧ (expecting 503699).knife.phase = .feed ∧ (expecting 503699).knife.halted = false
      ∧ (expecting 503699).knife.cycle.map Cycle.remaining = some 9
      ∧ beyond ((expecting 503699).web.i + 1) 503700 = false ∧ beyond ((expecting 503700).web.i + 1) 503700 = true
      ∧ (expecting 503700).reg.misses = 3 ∧ { expecting 503700 with reg.misses := 2 }.reg.misses ≠ 3
      ∧ (expecting 503700).port.state = .active := by
  unfold State.KnifeObeys; decide
theorem witness_MarksAndMisses_missfold :
    let s := { folding with knife.phase := .tuck }
    s.pat.status ≠ .checking ∧ s.port.state = .active ∧ s.knife.phase = .tuck ∧ s.knife.cycle.isSome = true
      ∧ s.sets.box.zoneCount = 0 ∧ s.web.bay = [] ∧ s.link.marks.length < 6 ∧ s.ownId.val + 1 ≠ s.sets.line.n ∧ s.web.outlet = []
      ∧ atOrBeyond (s.web.o + toPos 1200) (0 + toPos s.sets.feed.b) = false := by decide
/-- A steam-box bay whose oldest cell, of the given dwell, is about to pass its outlet point. -/
def leavingCell (dwell : Nat) (range : Option UndersetRange) : State :=
  { steaming with
    cad := { mode := .continuous, begun := true, pn := 9600 }
    web.i := 70999
    web.o := 70999
    dwell := { cells := [{ start := 9000, dwell := dwell, panel := none }], nextStart := 71000 + 1500, range := range } }
theorem witness_CellsPass :
    (let s := leavingCell 20000 (some { start := 7000, extent := 2000 })
     s.cad.mode = .continuous ∧ s.cad.begun = true ∧ s.cad.pn ≠ 0 ∧ 0 < s.rate.effective ∧ s.knife.phase = .idle ∧ s.web.bay = []
       ∧ s.web.span = [] ∧ s.reg.expect = none ∧ s.sets.line.standKind = .none ∧ s.web.outlet = [] ∧ 0 < s.sets.box.zoneCount
       ∧ 0 < s.sets.box.cell ∧ s.sets.box.cell ≤ 4000
       ∧ atOrBeyond (s.web.o + 1) (9000 + toPos (s.sets.box.cell + s.sets.feed.b)) = true
       ∧ atOrBeyond (s.web.o + 1) s.dwell.nextStart = false
       ∧ 20000 < 100 * s.sets.box.dwell ∧ (9000 : Pos) = 7000 + toPos 2000 ∧ 2000 + s.sets.box.cell ≤ 65535
       ∧ (9000 : Pos) ≠ 6000 + toPos 2000 ∧ 100 * s.sets.box.dwell ≤ 30000 ∧ s.link.marks.length < 6 ∧ s.ownId.val + 1 ≠ s.sets.line.n
       ∧ s.port.state ≠ .silent)
      ∧ (leavingCell 30000 none).dwell.range = none
      ∧ (let s := { leavingCell 0 none with dwell.cells := [], dwell.nextStart := 71000 }
         s.dwell.cells = [] ∧ s.dwell.nextStart = s.web.o + 1) := by decide
/-- A cell enters at the pulse at which one exits, the outlet distance a multiple of the cell length as in 7.6. -/
theorem witness_CellsPass_both :
    let s := { leavingCell 30000 none with dwell.nextStart := 71000 }
    s.sets.feed.b % s.sets.box.cell = 0 ∧ s.dwell.cells.map DwellCell.start = [9000]
      ∧ atOrBeyond (s.web.o + 1) (9000 + toPos (s.sets.box.cell + s.sets.feed.b)) = true ∧ s.dwell.nextStart = s.web.o + 1 := by decide
/-- The box at the end of PRESS of a fold of 4500: the cells at 9000 and 11000 exit, the one at 13000 stays, and the starts 73000 and 75000
are reached. -/
def pressedCells (first second : Nat) (range : Option UndersetRange) : State :=
  { steaming with
    knife := { folding.knife with phase := .press, cycle := folding.knife.cycle.map fun c => { c with w := 4500 } }
    web.o := 71000
    dwell :=
      { cells := [9000, 11000, 13000, 15000].zipIdx.map fun x =>
          { start := x.1, dwell := if x.2 = 0 then first else if x.2 = 1 then second else 0, panel := none }
        nextStart := 73000, range := range } }
theorem witness_CellsPass_credit :
    let s := pressedCells 29999 30000 none
    let o := s.web.o + toPos s.cycleWidth
    s.knife.phase = .press ∧ s.web.bay = [] ∧ s.web.outlet = [] ∧ s.sets.line.standKind = .none ∧ 0 < s.sets.box.zoneCount
      ∧ 0 < s.sets.box.cell ∧ s.sets.box.cell ≤ 4000
      ∧ (s.dwell.cells.map fun c => atOrBeyond o (c.start + toPos (s.sets.box.cell + s.sets.feed.b))) = [true, true, true, false]
      ∧ (∀ k < 2, atOrBeyond o (s.dwell.nextStart + toPos (k * s.sets.box.cell)) = true)
      ∧ atOrBeyond o (s.dwell.nextStart + toPos (2 * s.sets.box.cell)) = false
      ∧ 29999 < 100 * s.sets.box.dwell ∧ 100 * s.sets.box.dwell ≤ 30000 ∧ s.link.marks.length < 6 ∧ s.ownId.val + 1 ≠ s.sets.line.n
      ∧ s.port.state ≠ .silent ∧ (pressedCells 0 0 (some { start := 7000, extent := 2000 })).dwell.range.isSome = true
      ∧ (9000 : Pos) = 7000 + toPos (2000 + 0 * s.sets.box.cell) ∧ 2000 + 3 * s.sets.box.cell ≤ 65535 := by decide
/-- The rewind of section 8.7 in its continuous run, with a panel open. -/
def winding (outlet : List Mark) : State :=
  { rewinding with
    cad := { mode := .continuous, begun := true, pn := 1600 }
    web.outlet := outlet
    stand.panel := some { number := 9, start := 2000001, lengthEnd := 2001601, roll := 31, reasons := {} } }
theorem witness_PanelsAccounted :
    (let s := winding []
     s.cad.mode = .continuous ∧ s.cad.begun = true ∧ s.cad.pn ≠ 0 ∧ 0 < s.rate.effective ∧ s.knife.phase = .idle ∧ s.KnifeObeys
       ∧ s.web.bay = [] ∧ s.web.span = [] ∧ s.reg.expect = none ∧ s.sets.line.standKind = .rewind ∧ s.sets.line.role = .none
       ∧ s.web.pn ≠ 0 ∧ s.sets.box.zoneCount = 0 ∧ s.stand.inState .winding = some .a ∧ s.stand.inState .synced = none
       ∧ s.stand.overfill = false ∧ s.stand.verdicts = [] ∧ s.stand.log.length < 32
       ∧ s.stand.panel.map OpenPanel.lengthEnd = some (s.web.o + 1) ∧ s.web.outlet = [] ∧ s.dwell.range = none)
      ∧ (let s := { winding [{ body := .abort 9, origin := 1, pos := 2001601 }] with
           stand.panel := some { number := 9, start := 2000501, lengthEnd := 2002101, roll := 31, reasons := {} } }
         s.web.outlet = [{ body := .abort 9, origin := 1, pos := s.web.o + 1 }] ∧ s.dwell.range = none
           ∧ (s.stand.panel.map fun p => atOrBeyond (s.web.o + 1) p.lengthEnd) = some false)
      ∧ (let s := { winding [{ body := .panel 10, origin := 1, pos := 2001601 }] with stand.panel := none }
         s.web.outlet = [{ body := .panel 10, origin := 1, pos := s.web.o + 1 }] ∧ s.stand.panel = none ∧ s.stand.reach = none
           ∧ s.web.o + 1 ∉ s.stand.splicesLeft ∧ s.web.pn < 2147483648) := by
  unfold State.KnifeObeys; decide
/-- The rewind with a set box whose cells of 4000 make h: one waiting panel has its end + h at the pulse, one a step beyond it, and an open
range overlaps the first. -/
theorem witness_PanelsAccounted_verdicts :
    let c : ClosedPanel := { number := 8, start := 1996001, stop := 1997601, spindle := some .a, roll := 31, reasons := {} }
    let s := { winding [] with
      sets.box.zoneCount := 1, sets.box.cell := 4000, stand.verdicts := [c, { c with stop := 1997602 }]
      dwell := { cells := [{ start := 1995602, dwell := 0, panel := none }], nextStart := 2003602
                 range := some { start := 1991602, extent := 4000 } }
      stand.panel := some { number := 9, start := 2000501, lengthEnd := 2002101, roll := 31, reasons := {} } }
    let o := s.web.o + 1
    s.cad.mode = .continuous ∧ s.cad.begun = true ∧ s.cad.pn ≠ 0 ∧ 0 < s.rate.effective ∧ s.KnifeObeys ∧ s.web.bay = [] ∧ s.web.span = []
      ∧ s.web.outlet = [] ∧ s.reg.expect = none ∧ s.sets.line.standKind = .rewind ∧ s.stand.inState .synced = none
      ∧ s.stand.overfill = false ∧ (s.stand.panel.map fun p => atOrBeyond o p.lengthEnd) = some false
      ∧ (s.dwell.cells.map fun x => atOrBeyond o (x.start + toPos (s.sets.box.cell + s.sets.feed.b))) = [false]
      ∧ (s.stand.verdicts.map fun x => atOrBeyond o (x.stop + toPos 4000)) = [true, false]
      ∧ before (1991602 + toPos s.sets.feed.b) c.stop = true ∧ beyond (1991602 + toPos s.sets.feed.b + toPos 4000) c.start = true
      ∧ (s.stand.spindle .a).roll = c.roll ∧ (s.stand.spindle .a).state ≠ .empty := by
  unfold State.KnifeObeys; decide
theorem witness_PulsesAdvance :
    (let s := { leading with cad.cur := some (inProgress .flat true), cad.remaining := 1 }
     s.cad.cur = some (inProgress .flat true) ∧ (inProgress .flat true).kind = .flat ∧ (inProgress .flat true).complete = false
       ∧ 0 < s.cad.remaining ∧ 0 < s.rate.effective ∧ s.knife.phase = .idle ∧ s.ownId.val ≠ 0 ∧ s.sets.line.role ≠ .follower
       ∧ s.cad.remaining = 1 ∧ (inProgress .flat true).last = true ∧ (inProgress .flat false).last = false
       ∧ s.leader.state = .panel ∧ 1 < { s with cad.remaining := 2 }.cad.remaining)
      ∧ (let s := { bay with rate.effective := 3000, cad := { mode := .continuous, begun := true, pn := 9600 } }
         s.cad.mode = .continuous ∧ s.cad.begun = true ∧ s.cad.pn ≠ 0 ∧ 0 < s.rate.effective)
      ∧ folding.knife.cycle.isSome = true ∧ folding.knife.phase = .feed ∧ folding.knife.halted = false
      ∧ folding.ownId.val ≠ 0 ∧ folding.knife.cycle.map Cycle.remaining = some 1 ∧ (after .feedPulse folding).rate.latch = false
      ∧ bay.cad.cur = none ∧ bay.cad.mode ≠ .continuous ∧ bay.knife.phase ≠ .feed := by decide
/-- The leader's continuous run in BRIDGE, to a target the next pulse reaches or one wc past it. -/
def bridging (target : Pos) : State :=
  { leading with
    cad := { mode := .continuous, begun := true, pn := 18600 }
    leader := { leading.leader with state := .bridge, target := target, targetSet := true } }
theorem witness_PulsesAdvance_bridge :
    let s := bridging (leading.web.i + 1 - 3000)
    let y := bridging (leading.web.i + 2 - 3000)
    s.cad.mode = .continuous ∧ s.cad.begun = true ∧ s.cad.pn ≠ 0 ∧ 0 < s.rate.effective ∧ s.leader.state = .bridge
      ∧ s.sets.line.role = .leader ∧ atOrBeyond (s.web.i + 1 - toPos s.sets.feed.a) s.leader.target = true
      ∧ atOrBeyond (y.web.i + 1 - toPos y.sets.feed.a) y.leader.target = false := by decide
theorem witness_KnifePhases :
    { folding with knife.phase := .tuck }.knife.phase = .tuck ∧ { folding with knife.phase := .press }.knife.phase = .press
      ∧ { folding with knife.phase := .release }.knife.phase = .release
      ∧ { folding with knife.phase := .aborting }.knife.phase = .aborting ∧ folding.knife.phase ≠ .press
      ∧ (after .pressEnd { folding with knife.phase := .press }).rate.latch = false := by decide
/-- The end of PRESS of a fold of 1200 with marks in the outlet list, the last of them not due. -/
theorem witness_KnifePhases_outlet :
    let s := { folding with
      knife.phase := .press
      web.outlet := [{ body := .missfold, origin := 1, pos := folding.web.o + 1200 }, { body := .splice 5, origin := 0, pos := folding.web.o + 1201 }] }
    s.cycleWidth = 1200 ∧ s.web.bay = [] ∧ s.sets.box.zoneCount = 0 ∧ s.sets.line.standKind ≠ .rewind
      ∧ s.web.outlet.map (fun m => atOrBeyond (s.web.o + toPos s.cycleWidth) m.pos) = [true, false] := by decide
/-- The rewind of section 8.7 as a FOLLOWER at the end of PRESS of a fold of 1200 at outlet position 2001600. -/
def pressedRoll (outlet : List Mark) (lengthEnd : Option Pos) : State :=
  { rewinding with
    sets.line := { rewinding.sets.line with role := .follower }
    pat := { following.pat with q := 1600 }
    knife := { folding.knife with phase := .press }
    web.outlet := outlet
    stand.panel := lengthEnd.map fun e => { number := 9, start := e - 1600, lengthEnd := e, roll := 31, reasons := {} } }
def abortAt (pos : Pos) : Mark := { body := .abort 9, origin := 1, pos := pos }
def panelAt (pos : Pos) : Mark := { body := .panel 10, origin := 1, pos := pos }
theorem witness_KnifePhases_rolls :
    let s := pressedRoll [] none
    s.knife.phase = .press ∧ s.web.bay = [] ∧ s.sets.box.zoneCount = 0 ∧ s.sets.line.standKind = .rewind ∧ s.sets.line.role ≠ .none
      ∧ s.pat.q ≠ 0 ∧ s.stand.inState .winding = some .a ∧ s.stand.inState .synced = none ∧ s.stand.overfill = false
      ∧ s.stand.verdicts = [] ∧ s.stand.log.length < 32 ∧ s.dwell.range = none ∧ s.stand.panel = none ∧ s.stand.reach = none
      ∧ s.stand.splicesLeft = [] ∧ s.web.o + toPos s.cycleWidth = 2002800 := by decide
/-- The boundaries of each form of that credit: a mark or a length end at 2002800 is due, one at 2002801 is not. -/
theorem witness_KnifePhases_ends :
    ((pressedRoll [] (some 2002800)).stand.panel.map fun p => atOrBeyond 2002800 p.lengthEnd) = some true
      ∧ ((pressedRoll [] (some 2002801)).stand.panel.map fun p => atOrBeyond 2002800 p.lengthEnd) = some false
      ∧ (let s := pressedRoll [abortAt 2002800] (some 2002801)
         s.web.outlet = [abortAt 2002800] ∧ atOrBeyond 2002800 (abortAt 2002800).pos = true ∧ atOrBeyond (abortAt 2002800).pos 2002801 = false)
      ∧ (let s := pressedRoll [panelAt 2002800] (some 2002800)
         s.web.outlet = [panelAt 2002800] ∧ atOrBeyond 2002800 (panelAt 2002800).pos = true
           ∧ atOrBeyond 2002800 ((panelAt 2002800).pos + toPos s.pat.q) = false ∧ atOrBeyond (panelAt 2002800).pos 2002800 = true)
      ∧ atOrBeyond (panelAt 2002799).pos 2002800 = false
      ∧ (let s := pressedRoll [abortAt 2002700, panelAt 2002700] (some 2003000)
         s.web.outlet = [abortAt 2002700, panelAt 2002700] ∧ atOrBeyond 2002800 (abortAt 2002700).pos = true
           ∧ atOrBeyond (abortAt 2002700).pos 2003000 = false ∧ atOrBeyond 2002800 ((panelAt 2002700).pos + toPos s.pat.q) = false) := by
  decide
theorem witness_FoldSensorFilters :
    false = following.reg.raw.getLsbD 3 ∧ true ≠ following.reg.raw.getLsbD 3 ∧ following.KnifeObeys
      ∧ true ≠ following.reg.filtered.getLsbD 3 ∧ 0 < following.sets.knife.deskew
      ∧ { following with sets.knife.deskew := 0 }.sets.knife.deskew = 0
      ∧ false = { following with reg.raw := 8 }.reg.filtered.getLsbD 3
      ∧ following.reg.timers[(3 : Fin 8)] = none ∧ matching.reg.timers[(4 : Fin 8)] = some 300 ∧ matching.KnifeObeys
      ∧ matchOf { matching.sets.knife with count := 6 } matching.reg.filtered = false := by
  unfold State.KnifeObeys; decide
theorem witness_DetectionCorrects :
    matching.reg.timers[(4 : Fin 8)] = some 300 ∧ matching.sets.line.role = .follower ∧ matching.sets.knife.registration = true
      ∧ matching.port.state ≠ .config ∧ matching.KnifeObeys ∧ matchOf matching.sets.knife matching.reg.filtered = false
      ∧ matchOf matching.sets.knife (after (.deskewTimerExpiry 4) matching).reg.filtered = true
      ∧ matching.reg.expect.isSome = true ∧ (matching.web.i - toPos matching.sets.feed.aS - 502400).toInt = 14
      ∧ 0 < matching.reg.misses ∧ { matching with reg.expect := none }.reg.expect = none
      ∧ (matching.web.i - toPos matching.sets.feed.aS - 502113).toInt = 301 := by
  unfold State.KnifeObeys; decide
/-- The same rise of channel 4 at deskew time 0, taken at the raw change, and at a station with registration off. -/
theorem witness_DetectionCorrects_atOnce :
    let s := { matching with sets.knife.deskew := 0, reg.raw := matching.reg.filtered }
    true ≠ s.reg.raw.getLsbD (4 : Fin 8).val ∧ true ≠ s.reg.filtered.getLsbD (4 : Fin 8).val ∧ s.sets.knife.deskew = 0 ∧ s.KnifeObeys
      ∧ matchOf s.sets.knife s.reg.filtered = false
      ∧ matchOf s.sets.knife (after (.foldSensorChange 4 true) s).reg.filtered = true
      ∧ s.sets.line.role = .follower ∧ s.sets.knife.registration = true ∧ s.port.state ≠ .config ∧ s.reg.expect.isSome = true
      ∧ (after (.foldSensorChange 4 true) s).reg.expect = none
      ∧ { matching with sets.knife.registration := false }.sets.knife.registration = false := by
  unfold State.KnifeObeys; decide

/-- Zones of every state, one after another. -/
def zonesOf (a b c : ZoneState) : State :=
  { steaming with box.zones := #v[{ state := a, temp := 1600 }, { state := b, temp := 1600 }, { state := c, temp := 1600 }, {}] }

theorem witness_ZonesSampled :
    (zonesOf .off .warming .purge).KnifeObeys ∧ (zonesOf .off .warming .purge).isZone 0 = true
      ∧ ((zonesOf .off .warming .purge).zone 0).state = .off ∧ ((zonesOf .off .warming .purge).zone 1).state = .warming
      ∧ ((zonesOf .off .warming .purge).zone 2).state = .purge ∧ ((zonesOf .ready .open .keepwarm).zone 0).state = .ready
      ∧ ((zonesOf .ready .open .keepwarm).zone 1).state = .open ∧ ((zonesOf .ready .open .keepwarm).zone 2).state = .keepwarm
      ∧ (0 + (3174 : BitVec 12).toNat * 2000 / 4096 = 1549 ∧ ¬(1600 ≤ 1549 + 50))
      ∧ (0 + (3175 : BitVec 12).toNat * 2000 / 4096 = 1550 ∧ 1600 ≤ 1550 + 50)
      ∧ (0 + (3687 : BitVec 12).toNat * 2000 / 4096 = 1800 ∧ ¬(1600 + 200 < 1800))
      ∧ (0 + (3689 : BitVec 12).toNat * 2000 / 4096 = 1801 ∧ 1600 + 200 < 1801) ∧ steaming.box.idle ≠ .expired := by
  unfold State.KnifeObeys; decide
theorem witness_ZoneSettles :
    let s := { steaming with box.zones := #v[{ state := .warming, settle := some 5, debt := 2 }, { state := .warming }, { state := .fault }, {}] }
    (s.zone 0).settle = some 5 ∧ (s.zone 0).state = .warming ∧ s.KnifeObeys ∧ 0 < s.rate.effective ∧ (s.zone 0).debt < 3
      ∧ { s with rate.effective := 0 }.rate.effective = 0 ∧ 1 ≤ (s.zone 0).debt ∧ s.box.owner = none
      ∧ (∀ y : Fin 4, y ≠ 0 → (s.zone y).state ≠ .ready ∧ (s.zone y).state ≠ .open) ∧ (s.zone 1).settle = none
      ∧ s.box.idle ≠ .expired := by
  unfold State.KnifeObeys; decide
theorem witness_SecondsPass :
    steaming.KnifeObeys ∧ steaming.ValvesFollow ∧ steaming.DebtsBounded ∧ (steaming.zone 3).state ≠ .open
      ∧ (steaming.zone 0).state = .open ∧ (steaming.zone 0).counter ≤ 1 ∧ (steaming.zone 0).debt = 2 ∧ steaming.box.forced < 65535
      ∧ 1 < (steaming.zone 1).counter ∧ (steaming.zone 1).debt < 2 ∧ steaming.box.idle ≠ .expired := by
  unfold State.KnifeObeys State.ValvesFollow State.DebtsBounded; decide
theorem witness_PurgeEnds :
    let s := { zonesOf .purge .ready .fault with box.owner := some 0 }
    steaming.box.owner = none ∧ s.box.owner = some 0 ∧ s.KnifeObeys
      ∧ (s.sets.box.zones[(0 : Fin 4)].setpoint ≤ (s.zone 0).temp + s.sets.box.band ∧ (s.zone 0).sensorFault = false)
      ∧ 0 < s.rate.effective ∧ { s with rate.effective := 0 }.rate.effective = 0 ∧ s.box.idle ≠ .expired
      ∧ (∀ y : Fin 4, y ≠ 0 → ({ zonesOf .purge .fault .fault with box.owner := some 0 }.zone y).state ≠ .ready
          ∧ ({ zonesOf .purge .fault .fault with box.owner := some 0 }.zone y).state ≠ .open)
      ∧ (after .purgeTimerExpiry { s with
          rate.effective := 0, box.zones := s.box.zones.set 1 { state := .ready, debt := 1 } }).box.owner = some 1
      ∧ (let r := { s with rate.effective := 0, box.zones := s.box.zones.set 1 { state := .ready, debt := 1 } }
         (1 : Fin 4) ≠ 0 ∧ 1 ≤ (r.zone 1).debt ∧ (r.zone 1).state = .ready ∧ r.rate.effective = 0 ∧ (r.zone 2).debt = 0
           ∧ (r.zone 3).debt = 0)
      ∧ 3 ≤ ({ s with box.zones := s.box.zones.set 1 { state := .ready, debt := 3 } }.zone 1).debt
      ∧ (let r := { s with rate.effective := 0, box.zones := s.box.zones.set 1 { state := .open, debt := 2 } }
         (r.zone 1).state = .open ∧ r.rate.effective = 0) := by
  unfold State.KnifeObeys; decide
theorem witness_KeepWarmEntered :
    let s := { zonesOf .ready .ready .fault with rate.effective := 0, box.idle := .running 9 }
    steaming.box.idle = .stopped ∧ s.box.idle = .running 9 ∧ s.KnifeObeys ∧ s.port.state ≠ .config ∧ s.box.inForce = false
      ∧ 0 < s.sets.box.zoneCount ∧ s.rate.effective = 0
      ∧ (∀ z : Fin 4, s.isZone z = true → (s.zone z).state ≠ .open ∧ (s.zone z).state ≠ .purge ∧ (s.zone z).state ≠ .warming
          ∧ ((s.zone z).state = .ready → (s.zone z).debt = 0))
      ∧ (zonesOf .ready .warming .fault).isZone 1 = true ∧ ((zonesOf .ready .warming .fault).zone 1).state = .warming := by
  unfold State.KnifeObeys; decide
theorem witness_DwellAccrues : ready.port.state = .config ∧ steaming.port.state ≠ .config := by decide
theorem witness_StandTested :
    unwinding.KnifeObeys ∧ unwinding.stand.verdicts = [] ∧ unwinding.port.state ≠ .config ∧ unwinding.sets.line.standKind = .unwind
      ∧ unwinding.stand.inState .running = some .a ∧ (unwinding.stand.spindle .b).state = .loaded
      ∧ (unwinding.stand.spindle .b).armFailed = false ∧ 3000000 - 2922500 ≤ 77508
      ∧ (let s := { unwinding with stand.b := {} }
         s.stand.inState .running = some .a ∧ (s.stand.spindle .b).state ≠ .loaded ∧ s.stand.pasteDue = none ∧ s.stand.runOut = false)
      ∧ 77508 + 313 < 3000000 - 2922000 ∧ rewinding.sets.line.standKind = .rewind ∧ 0 < rewinding.rate.effective
      ∧ (let s := { rewinding with stand.a := { rewinding.stand.a with closed := 250, wound := 499973 } }
         s.stand.inState .winding = some .a ∧ s.sets.stand.target ≤ (s.stand.spindle .a).closed ∧ s.stand.inState .synced = none
           ∧ s.stand.overfill = false ∧ s.sets.stand.maxWound ≤ (s.stand.spindle .a).wound + 27)
      ∧ (rewinding.stand.spindle .a).closed < rewinding.sets.stand.target ∧ ready.port.state = .config := by
  unfold State.KnifeObeys; decide
theorem witness_ArmingEnds :
    let s := { unwinding with stand.b := { unwinding.stand.b with state := .arming }, stand.armDue := some 9 }
    s.KnifeObeys ∧ s.stand.verdicts = [] ∧ s.stand.overfill = false ∧ false = s.stand.speed .b ∧ (s.stand.spindle .b).state = .arming
      ∧ (s.stand.spindle .a).state ≠ .loaded ∧ { s with stand.speedB := true }.stand.speed .b = true
      ∧ ({ s with stand.b := { s.stand.b with state := .synced } }.stand.spindle .b).state = .synced ∧ s.stand.pasteDue = none
      ∧ { s with stand.pasteDue := some 9 }.stand.pasteDue.isSome = true ∧ s.stand.inState .arming = some .b
      ∧ s.stand.armDue = some 9 ∧ unwinding.stand.armDue = none := by
  unfold State.KnifeObeys; decide
theorem witness_UnwindPastesAndConsumes_pastes :
    let s := { unwinding with rate.effective := 6000, stand.b := { unwinding.stand.b with state := .synced } }
    unwinding.stand.inState .synced = none ∧ s.sets.line.standKind = .unwind ∧ s.stand.inState .synced = some .b
      ∧ s.stand.pasteDue = none ∧ s.rate.effective ≤ s.sets.stand.cap ∧ s.port.state = .active ∧ s.rate.latch = false
      ∧ s.knife.phase = .idle ∧ s.sets.line.role = .none ∧ s.ownId.val + 1 ≠ s.sets.line.n ∧ s.link.marks.length < 6
      ∧ { s with sets.line.role := .leader }.sets.line.role = .leader ∧ s.web.bay = [] ∧ 0 < s.sets.stand.dP + s.sets.feed.a
      ∧ s.sets.stand.dP + s.sets.feed.a < 2147483648 ∧ s.leader.state = .off
      ∧ s.stand.verdicts = [] := by decide
/-- The unwind in its continuous run, with so much of its roll consumed. -/
def consuming (consumed : Nat) : State :=
  { unwinding with
    cad := { mode := .continuous, begun := true, pn := 18600 }, stand.a := { unwinding.stand.a with consumed := consumed } }
theorem witness_UnwindPastesAndConsumes_consumes :
    (let s := consuming 2999999
     s.cad.mode = .continuous ∧ s.cad.begun = true ∧ s.cad.pn ≠ 0 ∧ 0 < s.rate.effective ∧ s.knife.phase = .idle ∧ s.web.bay = []
       ∧ s.web.span = [] ∧ s.reg.expect = none ∧ s.sets.box.zoneCount = 0 ∧ s.sets.line.standKind = .unwind
       ∧ s.stand.inState .running = some .a ∧ s.stand.verdicts = [] ∧ s.stand.a.consumed < s.stand.a.length)
      ∧ (consuming 3000000).stand.a.length ≤ (consuming 3000000).stand.a.consumed ∧ (consuming 3000000).port.state = .active
      ∧ { consuming 3000000 with port.state := .fault, port.fault := some { first := .runOut .a 14, further := false } }.port.fault.isSome
        = true := by decide
theorem witness_RollChanges :
    let s := { unwinding with stand.b := { unwinding.stand.b with state := .synced }, stand.pasteDue := some 500000 }
    unwinding.stand.pasteDue = none ∧ s.stand.pasteDue = some 500000 ∧ s.stand.inState .synced = some .b ∧ s.KnifeObeys
      ∧ s.stand.verdicts = [] ∧ s.sets.line.standKind = .unwind ∧ (s.stand.spindle (otherSpindle .b)).state = .running
      ∧ s.stand.cutDue = none ∧ { s with stand.cutDue := some 9 }.stand.cutDue = some 9 := by
  unfold State.KnifeObeys; decide
/-- The rewind in its continuous run, a panel open, roll B up to speed. -/
def cutting (outlet : List Mark) : State :=
  { winding outlet with
    stand.panel := some { number := 9, start := 2000501, lengthEnd := 2002101, roll := 31, reasons := {} }
    stand.b := { rewinding.stand.b with state := .synced } }
theorem witness_RewindCutsAndFlags_cuts :
    let m : Mark := { body := .panel 10, origin := 1, pos := 2001601 }
    (let s := cutting [m]
     s.sets.line.standKind = .rewind ∧ s.sets.line.role = .none ∧ s.web.pn ≠ 0 ∧ s.web.pn < 2147483648 ∧ s.sets.box.zoneCount = 0
       ∧ s.dwell.range = none ∧ s.stand.verdicts = [] ∧ s.stand.log.length < 32 ∧ s.rate.latch = false
       ∧ s.stand.inState .winding = some .a ∧ s.cad.mode = .continuous ∧ s.cad.begun = true ∧ s.cad.pn ≠ 0 ∧ 0 < s.rate.effective
       ∧ s.knife.phase = .idle ∧ s.web.bay = [] ∧ s.web.span = [] ∧ s.reg.expect = none
       ∧ (s.stand.spindle (otherSpindle .a)).state = .synced
       ∧ (s.stand.panel.map fun p => atOrBeyond (s.web.o + 1) p.lengthEnd) = some false ∧ s.web.outlet = [m] ∧ m.body = .panel 10
       ∧ m.pos = s.web.o + 1 ∧ min (s.stand.a.wound + 1) 4294967295 < s.sets.stand.maxWound ∧ s.stand.reach = none
       ∧ m.pos ∉ s.stand.splicesLeft)
      ∧ (let s := { cutting [] with stand.a := { rewinding.stand.a with wound := 499999 } }
         s.web.outlet = [] ∧ s.sets.stand.maxWound ≤ min (s.stand.a.wound + 1) 4294967295)
      ∧ (let s := { cutting [] with rate.effective := 0, web.restDue := some 500, stand.overfill := true }
         s.web.restDue = some 500 ∧ s.stand.overfill = true ∧ s.port.state = .active ∧ s.rate.effective = 0
           ∧ (s.stand.spindle (otherSpindle .a)).state = .synced
           ∧ (s.stand.panel.map fun p => atOrBeyond s.web.o p.lengthEnd) = some false) := by decide
theorem witness_RewindCutsAndFlags_flags :
    let flagged := fun body : MarkBody => { winding [{ body := body, origin := 1, pos := 2001600 }] with
      stand.panel := some { number := 9, start := 2000501, lengthEnd := 2002101, roll := 31, reasons := {} } }
    (let s := flagged .missfold
     s.cad.mode = .continuous ∧ s.cad.begun = true ∧ s.cad.pn ≠ 0 ∧ 0 < s.rate.effective ∧ s.knife.phase = .idle ∧ s.web.bay = []
       ∧ s.web.span = [] ∧ s.reg.expect = none ∧ s.sets.line.standKind = .rewind ∧ s.sets.line.role = .none ∧ s.web.pn ≠ 0
       ∧ s.web.pn < 2147483648 ∧ s.stand.inState .synced = none ∧ s.sets.box.zoneCount = 0 ∧ s.stand.verdicts = []
       ∧ s.web.outlet = [{ body := .missfold, origin := 1, pos := 2001600 }] ∧ atOrBeyond (s.web.o + 1) 2001600 = true
       ∧ (s.stand.panel.map fun p => before 2001600 p.lengthEnd && !atOrBeyond (s.web.o + 1) p.lengthEnd) = some true)
      ∧ (flagged (.splice 5)).web.outlet = [{ body := .splice 5, origin := 1, pos := 2001600 }]
      ∧ (flagged (.underset 600)).web.outlet = [{ body := .underset 600, origin := 1, pos := 2001600 }]
      ∧ (let c : ClosedPanel := { number := 8, start := 1999001, stop := 2000501, spindle := some .a, roll := 31, reasons := {} }
         let s := { flagged (.underset 600) with
           sets.box.zoneCount := 1, sets.box.cell := 4000, dwell.nextStart := 2004000, stand.verdicts := [c] }
         s.dwell.cells = [] ∧ atOrBeyond (s.web.o + 1) s.dwell.nextStart = false
           ∧ atOrBeyond (s.web.o + 1) (c.stop + toPos s.verdictWait) = false)
      ∧ (let s := { winding [{ body := .panel 10, origin := 1, pos := 2001601 }] with stand.panel := none }
         s.web.outlet = [{ body := .panel 10, origin := 1, pos := s.web.o + 1 }] ∧ s.stand.panel = none) := by decide

/-- R152: a SPLICE at 2001601 and one at 2001590 have left, and a PANEL mark that comes late to the position of the first opens a panel that
is flagged. -/
theorem witness_RewindCutsAndFlags_late :
    let s := { winding [{ body := .panel 10, origin := 1, pos := 2001601 }] with
      web.o := 2001610, stand.panel := none, stand.splicesLeft := [2001601, 2001590] }
    s.stand.panel = none ∧ atOrBeyond (s.web.o + 1) 2001601 = true ∧ atOrBeyond (s.web.o + 1) (2001601 + toPos s.web.pn) = false
      ∧ atOrBeyond (s.web.o + 1) 2001590 = true
      ∧ (after .continuousPulse s).stand.panel.map (fun p => p.reasons.splice) = some true
      ∧ (after .continuousPulse s).stand.splicesLeft = [2001601, 2001590] := by decide

/-- A MARK of the tests. -/
def someMark : MarkPayload := { count := 91, kind := 2, spare := false, origin := 1, position := 60000, value := 12, roll := 0 }

theorem witness_TransmissionsRun :
    (let s := { bay with link.mode := .on, link.stopResume := some (.stop 0), link.marks := [someMark], link.advance := true }
     bay.link.mode ≠ .on ∧ s.link.mode = .on ∧ s.port.state = .active ∧ s.link.onLink = none ∧ s.link.stopResume = some (.stop 0)
       ∧ { s with link.stopResume := some .resume }.link.stopResume = some .resume
       ∧ { s with link.stopResume := none }.link.marks = someMark :: [] ∧ { s with link.marks := [] }.link.marks = []
       ∧ s.link.advance = true)
      ∧ bay.link.pubDue = none ∧ { bay with link.pubDue := some 9 }.link.pubDue = some 9 ∧ bay.port.state ≠ .silent
      ∧ bay.link.onLink = none ∧ sending.link.onLink.isSome = true ∧ { sending with link.failures := 14 }.link.failures < 15
      ∧ 15 ≤ { sending with link.failures := 15 }.link.failures ∧ sending.KnifeObeys := by
  unfold State.KnifeObeys; decide

/-- A bay that sends its ADVANCE: the knife limit and the dancer limit are the least, below the station maximum; at the station maximum
none is flagged. -/
theorem witness_TransmissionsRun_flags :
    let s := { bay with
      link.mode := .on, link.advance := true, rate.stationMax := 12000, rate.knifeLimit := 0, rate.dancerLimit := 0, box.inForce := true }
    let r := s.rate
    s.link.mode = .on ∧ s.port.state = .active ∧ s.link.onLink = none ∧ s.link.stopResume = none ∧ s.link.marks = []
      ∧ s.link.advance = true ∧ r.knifeLimit = min r.stationMax (min r.knifeLimit (min r.setLimit (min r.standLimit r.dancerLimit)))
      ∧ r.knifeLimit < r.stationMax ∧ r.knifeLimit ≠ r.setLimit ∧ s.advanceFlags = 0x98 := by decide

/-- The bay on the link. -/
def online : State := { bay with link.mode := .on }

theorem witness_AdvanceEntered :
    online.link.mode = .on ∧ (0 : StationId).val < online.sets.line.n ∧ (0 : StationId) ≠ online.ownId
      ∧ (0 : StationId).val + 1 = online.ownId.val ∧ (2 : StationId).val + 1 ≠ online.ownId.val
      ∧ ({ online with peers := online.peers.set 0 { presence := .stale } }.peer 0).presence = .stale
      ∧ (online.peer 0).presence ≠ .stale ∧ { online with web.baseline := true }.web.baseline = true
      ∧ (41 : Byte) ≠ online.web.received ∧ online.port.state = .active := by decide
/-- A box in keep-warm at a station that hears station 2 LIVE at a limit, with station 0 LIVE at limit 0 with or without the keep-warm flag. -/
def asleep (limit : Nat) (flags : Byte) : State :=
  { steaming with
    link.mode := .on
    rate.effective := 0
    box.inForce := true
    box.zones := #v[{ state := .keepwarm }, { state := .off }, { state := .fault }, {}]
    peers := (steaming.peers.set 2 { presence := .live, lastLimit := limit }).set 0
      { presence := .live, staleDue := some 50000, flags := flags } }
theorem witness_AdvanceEntered_keepwarm :
    let a : AdvancePayload :=
      { state := 2, limit := 0, rate := 0, outlet := 0, inLen := 0, outLen := 0, sent := 0, flags := 8 }
    let s := asleep 100 0
    s.link.mode = .on ∧ (0 : StationId).val < s.sets.line.n ∧ (0 : StationId) ≠ s.ownId ∧ s.box.inForce = true
      ∧ (after (.advanceFrame 0 a) s).PeersWake ∧ ¬(after (.advanceFrame 0 { a with flags := 0 }) s).PeersWake
      ∧ ¬(after (.advanceFrame 0 a) (asleep 99 0)).PeersWake := by
  unfold State.PeersWake; decide
theorem witness_RestLatchesK :
    bay.web.restDue = none ∧ { bay with web.restDue := some 9 }.web.restDue = some 9 ∧ bay.KnifeObeys
      ∧ (let s := { rewinding with rate.effective := 0, stand.overfill := true, web.restDue := some 9 }
         s.sets.line.standKind = .rewind ∧ s.stand.overfill = true ∧ s.port.state = .active ∧ s.rate.latch = false
           ∧ s.rate.effective = 0 ∧ s.stand.inState .winding = some .a ∧ (s.stand.spindle (otherSpindle .a)).state = .loaded)
      ∧ (let s := { online with peers := online.peers.set 0 { presence := .live, hist0 := some { outlet := 7, rate := 0 } } }
         s.link.mode = .on ∧ (0 : StationId).val + 1 = s.ownId.val ∧ (0 : StationId).val < s.sets.line.n ∧ s.rate.effective = 0
           ∧ s.web.restDue = none ∧ (s.peer 0).presence = .live ∧ (s.peer 0).hist0 = some { outlet := 7, rate := 0 })
      ∧ (online.peer 0).presence ≠ .live := by
  unfold State.KnifeObeys; decide
theorem witness_PanelLengthsMatch :
    online.link.mode = .on ∧ (0 : StationId).val < online.sets.line.n ∧ (0 : StationId) ≠ online.ownId ∧ online.web.baseline = false
      ∧ online.sets.line.role = .none ∧ online.web.pn = 0 ∧ (0 : StationId).val + 1 = online.ownId.val
      ∧ { online with web.pn := 9600 }.web.pn ≠ 0 ∧ online.web.span = [] ∧ online.port.state = .active
      ∧ (let s := { following with port.state := .joining, link.mode := .on }
         s.sets.line.role = .follower ∧ s.port.state = .joining ∧ (1 : StationId).val + 1 = s.ownId.val ∧ s.web.span = []
           ∧ s.pat.p = 9600)
      ∧ (let s := { unwinding with link.mode := .on, web.pn := 0 }
         s.sets.line.role = .none ∧ s.ownId.val = 0 ∧ (1 : StationId).val = 1 ∧ s.web.pn = 0) := by decide
theorem witness_SpanQueueRuns_entered :
    latched.link.mode = .on ∧ (1 : StationId).val < latched.sets.line.n ∧ (1 : StationId) ≠ latched.ownId
      ∧ (1 : StationId).val + 1 = latched.ownId.val ∧ (0 : StationId).val + 1 ≠ latched.ownId.val ∧ latched.KnifeObeys
      ∧ latched.web.baseline = true ∧ { someMark with count := 92 }.count ≠ latched.web.received + 1 ∧ latched.port.state = .active
      ∧ { someMark with kind := 0 }.kind = 0 ∧ 5 < { someMark with kind := 6 }.kind.toNat ∧ { someMark with value := 0 }.value = 0
      ∧ someMark.kind = 2 ∧ someMark.value ≠ 0 ∧ { latched with web.latched := false }.web.latched = false
      ∧ latched.web.span.length < 16 ∧ atOrBeyond (latched.web.i + latched.web.k) someMark.position = false
      ∧ (let s := { latched with web.span := List.replicate 16 { body := .missfold, origin := 1, pos := 60001 } }
         16 ≤ s.web.span.length ∧ atOrBeyond (s.web.i + s.web.k) 60001 = false ∧ someMark.count = s.web.received + 1
           ∧ s.port.state = .active) := by
  unfold State.KnifeObeys; decide
/-- A leader in the feed of a fold, with a span latched at 60000 and a splice in the span queue. -/
def leavingSpan (pos : Pos) (state : LeaderState) : State :=
  { folding with
    web.i := 2999, web.k := 60000, web.latched := true, web.span := [{ body := .splice 5, origin := 0, pos := pos }]
    leader.state := state
    knife.cycle := some { step := 2, dir := .left, w := 1200, f := 4800, start := 0, outletStart := 0, remaining := 9 } }
theorem witness_SpanQueueRuns_leaves :
    (let s := leavingSpan 63000 .panel
     s.web.span = [{ body := .splice 5, origin := 0, pos := 63000 }] ∧ s.web.latched = true ∧ s.web.bay = [] ∧ s.reg.expect = none
       ∧ s.sets.line.standKind = .none ∧ s.KnifeObeys ∧ s.knife.phase = .feed ∧ s.knife.halted = false
       ∧ s.knife.cycle.map Cycle.remaining = some 9 ∧ 0 < s.sets.feed.a ∧ s.sets.feed.a ≤ 200000
       ∧ (63000 : Pos) = s.web.i + 1 + s.web.k ∧ s.sets.line.role = .leader ∧ s.leader.state = .panel
       ∧ (s.cad.cur.map fun c => guardHit c.start c.pitch (s.web.i + 1) s.sets.knife.g) = some true)
      ∧ (let s := leavingSpan 63001 .closing
         atOrBeyond (s.web.i + 1 + s.web.k) 63001 = false ∧ s.leader.state = .closing ∧ s.leader.targetSet = false)
      ∧ (leavingSpan 63000 .bridge).leader.state = .bridge ∧ MarkBody.code .missfold ≠ 1 := by
  unfold State.KnifeObeys; decide
theorem witness_StopResumeFrames :
    online.link.mode = .on ∧ (2 : StationId).val < online.sets.line.n ∧ (2 : StationId) ≠ online.ownId ∧ online.rate.latch = false
      ∧ online.knife.phase ≠ .tuck ∧ { folding with link.mode := .on, knife.phase := .tuck }.knife.phase = .tuck
      ∧ { online with rate.latch := true }.rate.latch = true
      ∧ (let s := { zonesOf .keepwarm .off .fault with link.mode := .on, box.inForce := true, rate.effective := 0 }
         s.box.inForce = true ∧ s.isZone 0 = true ∧ (s.zone 0).state = .keepwarm ∧ (s.zone 1).state = .off) := by decide
theorem witness_OtherFramesCounted :
    online.link.mode = .on ∧ online.sets.line.n ≤ (3 : StationId).val ∧ (2 : StationId).val < online.sets.line.n
      ∧ (2 : StationId) ≠ online.ownId ∧ (3 : BitVec 4) ∉ [1, 2, 5, 8] ∧ online.port.state = .active
      ∧ (let s := { online with port.state := .fault, port.fault := some { first := .runOut .a 3, further := false } }
         s.port.state = .fault ∧ s.port.fault.isSome = true ∧ s.KnifeObeys) ∧ bay.link.mode ≠ .on := by
  unfold State.KnifeObeys; decide
theorem witness_StalenessTurns :
    let s := { online with peers := online.peers.set 2 { presence := .live, staleDue := some 50000 } }
    (s.peer 0).presence ≠ .live ∧ (s.peer 2).presence = .live ∧ (s.peer 2).staleDue = some 50000 ∧ s.KnifeObeys
      ∧ s.isPeer 2 = true := by
  unfold State.KnifeObeys; decide
theorem witness_StalenessTurns_keepwarm :
    ((asleep 100 0).peer 0).presence = .live ∧ ((asleep 100 0).peer 0).staleDue = some 50000 ∧ (asleep 100 0).box.inForce = true
      ∧ (after (.stalenessTimerExpiry 0) (asleep 100 0)).PeersWake
      ∧ ¬(after (.stalenessTimerExpiry 0) (asleep 99 0)).PeersWake := by
  unfold State.PeersWake; decide

end Sys2Proof.Machine
end

section
namespace Sys2Proof.Machine

/-! # Every step keeps Safe: the operations of a running station -/

/-- At most one spindle of a stand carries the web (R135). -/
def Stand.OneCarries (t : Stand) : Prop :=
  ¬(t.a.state = .running ∧ t.b.state = .running) ∧ ¬(t.a.state = .winding ∧ t.b.state = .winding)

/-- What a station that runs keeps through every operation inside a step: the promises of Safe but the three that the settling
makes good again, on the valves, the limits and the knife under the latch. -/
structure State.Sound (s : State) : Prop where
  runs : s.port.state ≠ .config
  store : s.StoreCanonical
  latch : s.LatchHolds
  dancer : s.rate.dancerLimit = 0 ∨ s.rate.dancerLimit = 60000
  effective : legalRate s.rate.effective
  span : s.web.span.length ≤ 16
  bay : s.web.bay.length ≤ 32
  outlet : s.web.outlet.length ≤ 16
  marks : s.link.marks.length ≤ 6
  history : s.reg.history.length ≤ 8
  verdicts : s.stand.verdicts.length ≤ 8
  log : s.stand.log.length ≤ 32
  drain : ∀ z : Fin 4, (s.zone z).state = .purge ↔ s.box.owner = some z
  debts : s.DebtsBounded
  carries : s.stand.OneCarries
  silent : s.SilentStill
  peers : ∀ id : StationId, (s.peer id).presence ≠ .unheard → s.isPeer id = true
  correction : s.CorrectionBounded
  counts : s.CountsBounded
  sets : s.SetsLawful

/-! ## Spindle records -/

@[simp] theorem setSpindle_verdicts (t : Stand) (id : SpindleId) (x : Spindle) : (t.setSpindle id x).verdicts = t.verdicts := by
  cases id <;> rfl

@[simp] theorem setSpindle_log (t : Stand) (id : SpindleId) (x : Spindle) : (t.setSpindle id x).log = t.log := by
  cases id <;> rfl

namespace Stand.OneCarries

/-- A record that does not come to carry beside the other spindle may be put in place. -/
theorem setSpindle {t : Stand} (id : SpindleId) (x : Spindle)
    (hr : x.state = .running → (t.spindle (otherSpindle id)).state ≠ .running)
    (hw : x.state = .winding → (t.spindle (otherSpindle id)).state ≠ .winding) : (t.setSpindle id x).OneCarries := by
  cases id
  · exact ⟨fun c => hr c.1 c.2, fun c => hw c.1 c.2⟩
  · exact ⟨fun c => hr c.2 c.1, fun c => hw c.2 c.1⟩

/-- A record that carries nothing may be put in place. -/
theorem setSpindle_idle {t : Stand} (id : SpindleId) (x : Spindle) (hr : x.state ≠ .running)
    (hw : x.state ≠ .winding) : (t.setSpindle id x).OneCarries :=
  Stand.OneCarries.setSpindle id x (fun c => absurd c hr) fun c => absurd c hw

/-- A record in the state of the old one may be put in place. -/
theorem setSpindle_same {t : Stand} (h : t.OneCarries) (id : SpindleId) (x : Spindle) (hx : x.state = (t.spindle id).state) :
    (t.setSpindle id x).OneCarries := by
  refine Stand.OneCarries.setSpindle id x (fun c d => ?_) fun c d => ?_
  · cases id
    · exact h.1 ⟨hx ▸ c, d⟩
    · exact h.1 ⟨d, hx ▸ c⟩
  · cases id
    · exact h.2 ⟨hx ▸ c, d⟩
    · exact h.2 ⟨d, hx ▸ c⟩

theorem countVerdict {t : Stand} (h : t.OneCarries) (c : ClosedPanel) (b : Bool) : (t.countVerdict c b).OneCarries := by
  unfold Stand.countVerdict
  split
  · exact h
  · simp only
    split
    · exact h.setSpindle_same _ _ (by split <;> rfl)
    · exact h

theorem countClosed {t : Stand} (h : t.OneCarries) (id : Option SpindleId) : (t.countClosed id).OneCarries := by
  unfold Stand.countClosed
  split
  · exact h
  · exact h.setSpindle_same _ _ rfl

end Stand.OneCarries

theorem countVerdict_lists (t : Stand) (c : ClosedPanel) (b : Bool) :
    (t.countVerdict c b).verdicts = t.verdicts ∧ (t.countVerdict c b).log = t.log := by
  unfold Stand.countVerdict
  split
  · exact ⟨rfl, rfl⟩
  · simp only
    split <;> simp

theorem countClosed_lists (t : Stand) (id : Option SpindleId) :
    (t.countClosed id).verdicts = t.verdicts ∧ (t.countClosed id).log = t.log := by
  unfold Stand.countClosed
  split <;> simp

namespace State.Sound

/-! ## Signals, the latch, slots and faults -/

theorem signal {s : State} (h : s.Sound) (x : Source) : (s.signal x).Sound := { h with }

theorem chosen {s : State} (h : s.Sound) : s.chosen.Sound := { h with }

theorem reachTime {s : State} (h : s.Sound) (due : Nat) : (s.reachTime due).Sound := { h with }

/-- A legal effective rate, 0 under the latch, may be taken. -/
theorem setEffective {s : State} (h : s.Sound) {e : Nat} (he : legalRate e) (hl : s.rate.latch = true → e = 0) :
    (s.setEffective e).Sound := by
  unfold State.setEffective
  split
  · exact h
  · exact { h with latch := hl, effective := he }

theorem setLatch {s : State} (h : s.Sound) (c : StopCause) : (s.setLatch c).Sound := by
  have ht : (State.setEffective { s with rate.latch := true, rate.cause := some c, knife := s.knife.latched } 0).Sound := by
    unfold State.setEffective
    split
    · rename_i h0
      exact { h with latch := fun _ => h0.symm }
    · exact { h with latch := fun _ => rfl, effective := .inl rfl }
  unfold State.setLatch
  simp only
  split
  · exact ht
  · exact ht.signal .stop

theorem clearLatch {s : State} (h : s.Sound) : s.clearLatch.Sound := by
  unfold State.clearLatch
  split
  · exact { h with latch := fun c => by cases c }
  · exact h

theorem requestRun {s : State} (h : s.Sound) (mode : CadenceMode) (pn : Nat) : (s.requestRun mode pn).Sound := { h with }

theorem rewind {s : State} (h : s.Sound) : s.rewind.Sound := { h with }

theorem beginSegment {s : State} (h : s.Sound) (k : SegmentKind) : (s.beginSegment k).Sound := { h with }

theorem handStopResume {s : State} (h : s.Sound) (f : StopResume) : (s.handStopResume f).Sound := by
  unfold State.handStopResume
  split
  · exact h
  · rename_i hn
    exact { h with silent := fun c => absurd c hn }

theorem enterFault {s : State} (h : s.Sound) (f : StationFault) : (s.enterFault f).Sound := by
  have ht : State.Sound { s with port.state := .fault, port.fault := some { first := f, further := false } } :=
    { h with
      runs := fun c => StationState.noConfusion c
      silent := fun c => StationState.noConfusion c }
  exact (ht.setLatch _).handStopResume _

theorem raiseFault {s : State} (h : s.Sound) (f : StationFault) : (s.raiseFault f).Sound := by
  unfold State.raiseFault
  split
  · exact h
  · exact (h.signal _).enterFault f
  · exact (h.signal _).enterFault f
  · exact { h with }
  · exact { h with }

theorem handMark {s : State} (h : s.Sound) (m : MarkPayload) : (s.handMark m).Sound := by
  unfold State.handMark
  split
  · exact h
  · rename_i hn
    split
    · exact h.raiseFault _
    · rename_i hm
      exact { h with marks := by simp; omega, silent := fun c => absurd c hn }

/-! ## Panels, verdicts and cuts -/

/-- A stand whose lists are within their bounds and of which one spindle carries may be put in place. -/
theorem withStand {s : State} (h : s.Sound) {t : Stand} (hc : t.OneCarries) (hv : t.verdicts.length ≤ 8) (hl : t.log.length ≤ 32) :
    State.Sound { s with stand := t } := { h with carries := hc, verdicts := hv, log := hl }

theorem setSpindle {s : State} (h : s.Sound) {id : SpindleId} {x : Spindle} (hc : (s.stand.setSpindle id x).OneCarries) :
    (s.setSpindle id x).Sound := h.withStand hc (by simpa using h.verdicts) (by simpa using h.log)

theorem rollEvent {s : State} (h : s.Sound) (c : RollCause) (id : SpindleId) : (s.rollEvent c id).Sound := { h with }

theorem logPanel {s : State} (h : s.Sound) (e : LogEntry) : (s.logPanel e).Sound := by
  have hl := h.log
  unfold State.logPanel
  split
  · exact { h with log := by simp; omega }
  · exact { h with log := by simp; omega }

theorem judge {s : State} (h : s.Sound) (c : ClosedPanel) : (s.judge c).Sound := by
  unfold State.judge
  refine State.Sound.logPanel ?_ _
  obtain ⟨hv, hl⟩ := countVerdict_lists s.stand c { c.reasons with underset := c.reasons.underset || s.rangeOverlaps c }.any
  exact h.withStand (h.carries.countVerdict _ _) (hv ▸ h.verdicts) (hl ▸ h.log)

theorem judgeEach {rest : List ClosedPanel} (hr : rest.length ≤ 8) (cs : List ClosedPanel) :
    ∀ {s : State}, s.Sound → (s.judgeEach cs rest).Sound := by
  induction cs with
  | nil => intro s h; exact { h with verdicts := hr }
  | cons c cs ih => intro s h; exact ih (h.judge c)

theorem judgeDue {s : State} (h : s.Sound) : s.judgeDue.Sound :=
  judgeEach ((List.length_filter_le _ _).trans h.verdicts) _ h

theorem makeVerdictRoom {s : State} (h : s.Sound) : s.makeVerdictRoom.Sound := by
  unfold State.makeVerdictRoom
  split
  · exact h
  · rename_i c cs hv
    split
    · have hl : (c :: cs).length ≤ 8 := hv ▸ h.verdicts
      rw [List.length_cons] at hl
      exact { h.judge c with verdicts := by show cs.length ≤ 8; omega }
    · exact h

end State.Sound

/-- A verdict list of at most eight has room for one more once room is made. -/
theorem makeVerdictRoom_verdicts {s : State} (h : s.stand.verdicts.length ≤ 8) : s.makeVerdictRoom.stand.verdicts.length ≤ 7 := by
  unfold State.makeVerdictRoom
  split
  · rename_i hv; simp [hv]
  · rename_i c cs hv
    rw [hv] at h
    split
    · exact Nat.le_of_succ_le_succ h
    · rw [hv]; omega

namespace State.Sound

theorem closePanel {s : State} (h : s.Sound) (p : Pos) (f : Reasons → Reasons) : (s.closePanel p f).Sound := by
  unfold State.closePanel
  split
  · exact h
  · obtain ⟨hv, hl⟩ := countClosed_lists s.stand (s.stand.inState .winding)
    have hs : State.Sound { s with stand := { s.stand.countClosed (s.stand.inState .winding) with panel := none } } :=
      h.withStand (h.carries.countClosed _) (hv ▸ h.verdicts) (hl ▸ h.log)
    have hr := makeVerdictRoom_verdicts hs.verdicts
    have ht := hs.makeVerdictRoom
    simp only
    split
    · refine judgeDue ?_
      exact { ht with verdicts := by rw [List.length_append]; exact Nat.add_le_add_right hr 1 }
    · exact { ht with verdicts := by rw [List.length_append]; exact Nat.add_le_add_right hr 1 }

theorem closeIfFull {s : State} (h : s.Sound) (p : Pos) : (s.closeIfFull p).Sound := by
  unfold State.closeIfFull
  split
  · exact h
  · exact h.closePanel _ _

theorem pulseCut {s : State} (h : s.Sound) : s.pulseCut.Sound := { h with }

theorem transferTo {s : State} (h : s.Sound) (dst : SpindleId) : (s.transferTo dst).Sound := by
  unfold State.transferTo
  refine rollEvent (pulseCut (h.withStand ?_ (by simpa using h.verdicts) (by simpa using h.log))) _ _
  refine Stand.OneCarries.setSpindle dst _ (fun c => by cases c) fun _ c => ?_
  rw [setSpindle_spindle, if_pos rfl] at c
  split at c
  · cases c
  · contradiction

theorem transferCut {s : State} (h : s.Sound) : s.transferCut.Sound := by
  unfold State.transferCut
  split
  · exact h
  · split
    · exact h
    · exact h.transferTo _

theorem splitCut {s : State} (h : s.Sound) (dst : SpindleId) : (s.splitCut dst).Sound :=
  ((h.closeIfFull _).closePanel _ _).transferTo dst

theorem cutAtMaximum {s : State} (h : s.Sound) : s.cutAtMaximum.Sound := by
  unfold State.cutAtMaximum
  split
  · exact h
  · exact h.splitCut _

theorem noteSplice {s : State} (h : s.Sound) (p : Pos) : (s.noteSplice p).Sound := { h with }

theorem openPanelAt {s : State} (h : s.Sound) (p : Pos) (n : BitVec 16) : (s.openPanelAt p n).Sound := { h with }

theorem flagPanel {s : State} (h : s.Sound) (p : Pos) (f : Reasons → Reasons) : (s.flagPanel p f).Sound := by
  unfold State.flagPanel
  split
  · exact h
  · split
    · exact { h with }
    · exact h

theorem undersetMark {s : State} (h : s.Sound) (p : Pos) (e : Nat) : (s.undersetMark p e).Sound :=
  { h with verdicts := by simpa [State.undersetMark] using h.verdicts }

theorem closeBeforeAbort {s : State} (h : s.Sound) (p : Pos) : (s.closeBeforeAbort p).Sound := by
  unfold State.closeBeforeAbort
  split
  · split
    · exact h.chosen
    · exact h.chosen.closeIfFull p
  · exact h.closeIfFull p

/-! ## Marks that leave and announcements -/

theorem handOff {s : State} (h : s.Sound) (m : Mark) : (s.handOff m).Sound := by
  have hc := h.closeIfFull m.pos
  unfold State.handOff
  split
  · exact ((hc.closePanel _ _).transferCut).openPanelAt _ _
  · exact (h.closeBeforeAbort _).closePanel _ _
  · exact (hc.flagPanel _ _).noteSplice _
  · exact hc.flagPanel _ _
  · exact hc.undersetMark _ _

theorem markLeaves {s : State} (h : s.Sound) (m : Mark) : (s.markLeaves m).Sound := by
  unfold State.markLeaves
  split
  · exact h.handOff m
  · exact h

theorem leaveFrom (limit : Pos) (ms : List Mark) : ∀ {s : State}, s.Sound → ms.length ≤ 16 → (s.leaveFrom limit ms).Sound := by
  induction ms with
  | nil => intro s h _; exact { h with outlet := Nat.zero_le _ }
  | cons m ms ih =>
    intro s h hl
    unfold State.leaveFrom
    split
    · exact ih (h.markLeaves m) (by simp at hl; omega)
    · exact { h with outlet := hl }

theorem endPanel {s : State} (h : s.Sound) (p : Pos) : (s.endPanel p).Sound := by
  unfold State.endPanel
  split
  · exact h.closeIfFull p
  · exact h

theorem sweepTo {s : State} (h : s.Sound) (p : Pos) : (s.sweepTo p).Sound := (leaveFrom p _ h h.outlet).endPanel p

theorem outletSweep {s : State} (h : s.Sound) : s.outletSweep.Sound := h.sweepTo _

theorem eitherOrder {f g : State → State} (hf : ∀ {t : State}, t.Sound → (f t).Sound) (hg : ∀ {t : State}, t.Sound → (g t).Sound)
    {s : State} (h : s.Sound) : (eitherOrder f g s).Sound := by
  unfold Machine.eitherOrder
  split
  · exact hg (hf h.chosen)
  · exact hf (hg h.chosen)

theorem account {s : State} (h : s.Sound) : s.account.Sound := by
  unfold State.account
  split
  · exact h.outletSweep
  · exact eitherOrder cutAtMaximum outletSweep (h.sweepTo _)

end State.Sound

@[simp] theorem insertMark_length {α : Type} (key : α → Pos) (x : α) (l : List α) : (insertMark key x l).length = l.length + 1 := by
  induction l with
  | nil => rfl
  | cons y ys ih =>
    unfold insertMark
    split
    · simp [ih]
    · rfl

namespace State.Sound

theorem insertOutlet {s : State} (h : s.Sound) (m : Mark) : (s.insertOutlet m).Sound := by
  unfold State.insertOutlet
  split
  · exact h.raiseFault _
  · exact { h with outlet := by simp; omega }

theorem announce {s : State} (h : s.Sound) (m : Mark) : (s.announce m).Sound := by
  have ht : (s.countAnnounced m).Sound := { h with }
  unfold State.announce
  simp only
  split
  · exact (ht.insertOutlet m).outletSweep
  · exact ((ht.handMark _).insertOutlet m).outletSweep

theorem announceOwn {s : State} (h : s.Sound) (b : MarkBody) (p : Pos) : (s.announceOwn b p).Sound := h.announce _

/-! ## The Dwell Table -/

theorem closeRange {s : State} (h : s.Sound) : s.closeRange.Sound := by
  unfold State.closeRange
  split
  · exact h
  · next r _ =>
    have ht := h.announceOwn (.underset (BitVec.ofNat 16 r.extent)) r.start
    simp only
    generalize s.announceOwn (.underset (BitVec.ofNat 16 r.extent)) r.start = t at ht ⊢
    exact { ht with }

theorem openRange {s : State} (h : s.Sound) (p : Pos) : (s.openRange p).Sound := { h with }

theorem undersetCell {s : State} (h : s.Sound) (p : Pos) : (s.undersetCell p).Sound := by
  unfold State.undersetCell
  split
  · exact h.openRange p
  · split
    · exact { h with }
    · exact h.closeRange.openRange p

theorem exitCell {s : State} (h : s.Sound) (c : DwellCell) : (s.exitCell c).Sound := by
  unfold State.exitCell
  simp only
  split
  · refine closeRange ?_
    exact { h with }
  · refine undersetCell ?_ _
    exact { h with }

theorem exitFrom (cs : List DwellCell) : ∀ {s : State}, s.Sound → (s.exitFrom cs).Sound := by
  induction cs with
  | nil => intro s h; exact { h with }
  | cons c cs ih =>
    intro s h
    unfold State.exitFrom
    split
    · exact ih (h.exitCell c)
    · exact { h with }

theorem dwellAdvance {s : State} (h : s.Sound) : s.dwellAdvance.Sound := { exitFrom _ h with }

/-! ## The Panel Planner's part in marks -/

theorem enterPending {s : State} (h : s.Sound) : s.enterPending.Sound := { h with }

theorem enterBridge {s : State} (h : s.Sound) : s.enterBridge.Sound := by
  unfold State.enterBridge
  split
  · exact h.enterPending
  · exact { h with }

theorem setTarget {s : State} (h : s.Sound) (p : Pos) : (s.setTarget p).Sound := { h with }

theorem spliceKnown {s : State} (h : s.Sound) (p : Pos) : (s.spliceKnown p).Sound := by
  unfold State.spliceKnown
  split
  · exact h
  · exact h
  · exact h
  · split
    · exact h
    · split
      · exact { h with }
      · exact h
  · split
    · exact h.setTarget _
    · exact h

theorem enterWaiting {s : State} (h : s.Sound) : s.enterWaiting.Sound := { h with }

theorem openFollowerPanel {s : State} (h : s.Sound) (n : BitVec 16) : (s.openFollowerPanel n).Sound := { h with }

theorem reportCrossing {s : State} (h : s.Sound) (m : Mark) : (s.reportCrossing m).Sound := by
  unfold State.reportCrossing
  split
  · refine spliceKnown ?_ _
    exact { h with }
  · unfold State.followerPanelMark
    split
    · exact h
    · exact h.openFollowerPanel _
    · refine openFollowerPanel ?_ _
      exact { h with }
  · unfold State.followerAbortMark
    split
    · exact h
    · exact h
    · exact h.enterWaiting
  · exact h

/-! ## The bay queue, the span queue and credits -/

theorem announceCrossed {s : State} (h : s.Sound) (m : Mark) (p : Pos) : (s.announceCrossed m p).Sound := h.announce _

theorem crossOne {s : State} (h : s.Sound) (e : BayEntry) : (s.crossOne e).1.Sound := by
  unfold State.crossOne
  split
  · exact { h with }
  · have ht := h.reportCrossing e.mark
    simp only
    split
    · exact ht.announceCrossed _ _
    · exact ht

theorem crossFrom (es : List BayEntry) : ∀ (kept : List BayEntry) {s : State}, s.Sound → kept.length + es.length ≤ 32 →
    (s.crossFrom kept es).Sound := by
  induction es with
  | nil => intro kept s h hl; exact { h with bay := by simpa [State.crossFrom] using hl }
  | cons e es ih =>
    intro kept s h hl
    simp only [List.length_cons] at hl
    unfold State.crossFrom
    split
    · exact ih _ h (by simp; omega)
    · split
      · have hc := h.crossOne e
        split <;> rename_i he <;> rw [he] at hc
        · exact ih _ hc (by omega)
        · exact ih _ hc (by simp; omega)
      · exact { h with bay := by simp; omega }

theorem crossings {s : State} (h : s.Sound) : s.crossings.Sound := crossFrom _ _ h (by simpa using h.bay)

theorem creditFrom (ok : Pos) (es : List BayEntry) : ∀ (kept : List BayEntry) {s : State}, s.Sound → kept.length + es.length ≤ 32 →
    (s.creditFrom ok kept es).Sound := by
  induction es with
  | nil => intro kept s h hl; exact { h with bay := by simpa [State.creditFrom] using hl }
  | cons e es ih =>
    intro kept s h hl
    simp only [List.length_cons] at hl
    unfold State.creditFrom
    split
    · exact ih _ (h.announceCrossed _ _) (by omega)
    · exact ih _ h (by simp; omega)

theorem enterBay {s : State} (h : s.Sound) (m : Mark) : (s.enterBay m).Sound := by
  unfold State.enterBay
  split
  · exact h.raiseFault _
  · have ht : State.Sound { s with web.bay := insertMark (fun e => e.mark.pos) { mark := m, awaiting := false } s.web.bay } :=
      { h with bay := by simp; omega }
    simp only
    split
    · exact (ht.spliceKnown _).crossings
    · exact ht.crossings

theorem leaveSpanFrom (ms : List Mark) : ∀ {s : State}, s.Sound → ms.length ≤ 16 → (s.leaveSpanFrom ms).Sound := by
  induction ms with
  | nil => intro s h _; exact { h with span := Nat.zero_le _ }
  | cons m ms ih =>
    intro s h hl
    have hm : ms.length ≤ 16 := by simp at hl; omega
    unfold State.leaveSpanFrom
    split
    · refine ih (enterBay ?_ _) hm
      exact { h with span := hm }
    · exact { h with span := hl }

theorem leaveSpan {s : State} (h : s.Sound) : s.leaveSpan.Sound := leaveSpanFrom _ h h.span

theorem enterSpan {s : State} (h : s.Sound) (m : Mark) : (s.enterSpan m).Sound := by
  unfold State.enterSpan
  split
  · exact h.raiseFault _
  · have ht : State.Sound { s with web.span := insertMark Mark.pos m s.web.span } := { h with span := by simp; omega }
    simp only
    split
    · split
      · exact (ht.spliceKnown _).leaveSpan
      · exact ht.leaveSpan
    · exact ht.leaveSpan

end State.Sound
end Sys2Proof.Machine
end

section
namespace Sys2Proof.Machine

/-! # What pulses, crossings and credits leave alone -/

/-- The part of a state that no crossing, credit, planner's decision or fault moves: the time, the sets, the inlet count with its rest
timer, the outlet count, the knife but for its feed's base and halt, and the box but for its idle timer. -/
structure Pace where
  now : Nat
  sets : Sets
  i : Pos
  restDue : Option Nat
  o : Pos
  phase : KnifePhase
  cycle : Option Cycle
  due : Nat
  missed : Nat
  zones : Vector Zone 4
  owner : Option (Fin 4)
  inForce : Bool
  change : Option ZoneEvent

/-- The pace of a state. -/
def State.pace (s : State) : Pace :=
  { now := s.now, sets := s.sets, i := s.web.i, restDue := s.web.restDue, o := s.web.o, phase := s.knife.phase, cycle := s.knife.cycle
    due := s.knife.due, missed := s.knife.missed, zones := s.box.zones, owner := s.box.owner, inForce := s.box.inForce
    change := s.box.change }

/-- What leaves the still and the steady part alone leaves the pace alone. -/
theorem pace_of_still {s t : State} (h : t.still = s.still) (g : t.steady = s.steady) : t.pace = s.pace := by
  have e : ∀ u : State, u.pace =
      { now := u.still.now, sets := u.still.sets, i := u.still.i, restDue := u.still.restDue, o := u.steady.o, phase := u.steady.phase
        cycle := u.steady.cycle, due := u.steady.due, missed := u.steady.missed, zones := u.steady.zones, owner := u.steady.owner
        inForce := u.steady.inForce, change := u.steady.change } := fun _ => rfl
  rw [e t, e s, h, g]

@[simp] theorem raiseFault_pace (s : State) (f : StationFault) : (s.raiseFault f).pace = s.pace :=
  pace_of_still (raiseFault_still s f) (raiseFault_steady s f)

@[simp] theorem announce_pace (s : State) (m : Mark) : (s.announce m).pace = s.pace :=
  pace_of_still (announce_still s m) (announce_steady s m)

@[simp] theorem announceOwn_pace (s : State) (b : MarkBody) (p : Pos) : (s.announceOwn b p).pace = s.pace := announce_pace _ _

@[simp] theorem announceCrossed_pace (s : State) (m : Mark) (p : Pos) : (s.announceCrossed m p).pace = s.pace := announce_pace _ _

@[simp] theorem account_pace (s : State) : s.account.pace = s.pace := pace_of_still (account_still s) (account_steady s)

@[simp] theorem dwellAdvance_pace (s : State) : s.dwellAdvance.pace = s.pace :=
  pace_of_still (dwellAdvance_still s) (dwellAdvance_steady s)

@[simp] theorem enterPending_pace (s : State) : s.enterPending.pace = s.pace := rfl

@[simp] theorem enterWaiting_pace (s : State) : s.enterWaiting.pace = s.pace := rfl

@[simp] theorem enterBridge_pace (s : State) : s.enterBridge.pace = s.pace := by
  unfold State.enterBridge; split <;> rfl

@[simp] theorem spliceKnown_pace (s : State) (p : Pos) : (s.spliceKnown p).pace = s.pace := by
  unfold State.spliceKnown; split
  · rfl
  · rfl
  · rfl
  · split
    · rfl
    · split <;> rfl
  · split <;> rfl

@[simp] theorem reportCrossing_pace (s : State) (m : Mark) : (s.reportCrossing m).pace = s.pace := by
  unfold State.reportCrossing; split
  · rw [spliceKnown_pace]; rfl
  · unfold State.followerPanelMark; split <;> rfl
  · unfold State.followerAbortMark; split <;> rfl
  · rfl

@[simp] theorem crossOne_pace (s : State) (e : BayEntry) : (s.crossOne e).1.pace = s.pace := by
  unfold State.crossOne
  split
  · rfl
  · simp only
    split <;> simp

@[simp] theorem crossFrom_pace (es : List BayEntry) : ∀ (kept : List BayEntry) (s : State), (s.crossFrom kept es).pace = s.pace := by
  induction es with
  | nil => intro kept s; rfl
  | cons e es ih =>
    intro kept s
    unfold State.crossFrom
    split
    · exact ih _ _
    · split
      · have hc := crossOne_pace s e
        split <;> rename_i he <;> rw [he] at hc
        · rw [ih]; exact hc
        · rw [ih]; exact hc
      · rfl

@[simp] theorem crossings_pace (s : State) : s.crossings.pace = s.pace := crossFrom_pace _ _ _

@[simp] theorem creditFrom_pace (ok : Pos) (es : List BayEntry) :
    ∀ (kept : List BayEntry) (s : State), (s.creditFrom ok kept es).pace = s.pace := by
  induction es with
  | nil => intro kept s; rfl
  | cons e es ih =>
    intro kept s
    unfold State.creditFrom
    split
    · rw [ih, announceCrossed_pace]
    · exact ih _ _

@[simp] theorem enterBay_pace (s : State) (m : Mark) : (s.enterBay m).pace = s.pace := by
  unfold State.enterBay
  split
  · simp
  · simp only [crossings_pace]
    split
    · rw [spliceKnown_pace]; rfl
    · rfl

@[simp] theorem leaveSpanFrom_pace (ms : List Mark) : ∀ s : State, (s.leaveSpanFrom ms).pace = s.pace := by
  induction ms with
  | nil => intro s; rfl
  | cons m ms ih =>
    intro s
    unfold State.leaveSpanFrom
    split
    · rw [ih, enterBay_pace]; rfl
    · rfl

@[simp] theorem leaveSpan_pace (s : State) : s.leaveSpan.pace = s.pace := leaveSpanFrom_pace _ _

@[simp] theorem miss_pace (s : State) : s.miss.pace = s.pace := by
  unfold State.miss
  split
  · rfl
  · simp only
    split
    · rw [raiseFault_pace]; rfl
    · rfl

@[simp] theorem deadlineTest_pace (s : State) : s.deadlineTest.pace = s.pace := by
  unfold State.deadlineTest
  split
  · rfl
  · split <;> simp

@[simp] theorem nipEffects_pace (s : State) : s.nipEffects.pace = s.pace := by simp [State.nipEffects]

theorem eitherOrder_pace (f g : State → State) (hf : ∀ t : State, (f t).pace = t.pace) (hg : ∀ t : State, (g t).pace = t.pace)
    (s : State) : (eitherOrder f g s).pace = s.pace := by
  unfold eitherOrder; split <;> simp only [hf, hg] <;> rfl

theorem afterAdvance_pace (f : State → State) (hf : ∀ t : State, (f t).pace = t.pace) (s : State) :
    (s.afterAdvance f).pace = s.pace := by
  unfold State.afterAdvance; split
  · rw [hf, account_pace]
  · exact eitherOrder_pace _ _ (fun t => by simp) hf s

/-- O advances, and nothing else of the pace (R45). -/
theorem advanceOutlet_pace (s : State) (n : Nat) : (s.advanceOutlet n).pace = { s.pace with o := s.web.o + toPos n } := by
  unfold State.advanceOutlet State.wind; split <;> rfl

/-- A credit moves O by the width, and nothing else of the pace (R44, R45, R47). -/
theorem creditFold_pace (s : State) (w : Nat) : (s.creditFold w).pace = { s.pace with o := s.web.o + toPos w } := by
  unfold State.creditFold
  simp only
  rw [afterAdvance_pace _ (fun t => by simp), advanceOutlet_pace]
  rfl

/-- Entry to ABORTING (R47): the phase with its due instant, the missed count, and the credit of the cycle's width. -/
theorem enterAborting_pace (s : State) :
    s.enterAborting.pace =
      { s.pace with
        phase := .aborting, due := s.now + 1000 * s.sets.knife.tRelease, missed := satInc s.knife.missed
        o := s.web.o + toPos s.cycleWidth } := by
  unfold State.enterAborting State.cycleWidth
  simp only
  split
  · rename_i hc
    simp [State.pace, hc, toPos]
  · rename_i c hc
    rw [announceOwn_pace, creditFold_pace]
    simp [State.pace, hc]

/-! # Every step keeps Safe: registration, pulses, credits and the settling -/

/-- The detection taken lies within the window, and the history keeps its length (R70). -/
theorem takeDetection_some {w : Nat} {x : Pos} {e : Int} : ∀ {l m : List Detection}, takeDetection w x l = some (e, m) →
    inWindow w e = true ∧ m.length = l.length
  | [], _, h => by cases h
  | d :: ds, m, h => by
    unfold takeDetection at h
    split at h
    · rename_i hd
      cases h
      exact ⟨hd.2, rfl⟩
    · obtain ⟨⟨e', m'⟩, hm, he⟩ := Option.map_eq_some_iff.mp h
      cases he
      obtain ⟨hw, hl⟩ := takeDetection_some hm
      exact ⟨hw, by simp [hl]⟩

/-- The floor average of two values within a bound is within it (R71). -/
theorem newCorrection_bounded {c e : Int} (hc : -4095 ≤ c ∧ c ≤ 4095) (he : -4095 ≤ e ∧ e ≤ 4095) :
    -4095 ≤ newCorrection c e ∧ newCorrection c e ≤ 4095 := by
  unfold newCorrection
  rw [Int.fdiv_eq_ediv_of_nonneg _ (by decide)]
  omega

theorem inWindow_bounded {w : Nat} {e : Int} (hw : w ≤ 4095) (h : inWindow w e = true) : -4095 ≤ e ∧ e ≤ 4095 := by
  simp only [inWindow, Bool.and_eq_true, decide_eq_true_eq] at h
  omega

theorem placeDetection_length {l : List Detection} (h : l.length ≤ 8) (d : Detection) : (placeDetection l d).length ≤ 8 := by
  unfold placeDetection
  split <;> simp <;> omega

namespace State.Sound

/-! ## Registration (R68 to R74) -/

theorem acceptDetection {s : State} (h : s.Sound) {e : Int} (he : inWindow s.sets.knife.window e = true) {l : List Detection}
    (hl : l.length ≤ 8) : (s.acceptDetection e l).Sound := by
  obtain ⟨hw, hc⟩ := h.correction
  unfold State.acceptDetection
  have ht : State.Sound { s with
      reg.history := l, reg.expect := none, reg.c := newCorrection s.reg.c e, reg.u := s.reg.u + (newCorrection s.reg.c e - s.reg.c)
      reg.misses := 0, reg.lastErr := e, reg.accepted := satInc s.reg.accepted } :=
    { h with
      history := hl
      correction := ⟨hw, newCorrection_bounded hc (inWindow_bounded hw he)⟩
      counts := ⟨Nat.zero_le _, h.counts.2⟩ }
  simp only
  split
  · exact ht.signal _
  · exact ht

theorem miss {s : State} (h : s.Sound) : s.miss.Sound := by
  unfold State.miss
  split
  · exact h
  · have ht : State.Sound { s with reg.expect := none, reg.misses := min (s.reg.misses + 1) 4 } :=
      { h with counts := ⟨Nat.min_le_right _ _, h.counts.2⟩ }
    simp only
    split
    · exact (ht.signal _).raiseFault _
    · exact ht.signal _

theorem deadlineTest {s : State} (h : s.Sound) : s.deadlineTest.Sound := by
  unfold State.deadlineTest
  split
  · exact h
  · split
    · exact h.miss
    · exact h

theorem openExpectation {s : State} (h : s.Sound) (n : Nat) : (s.openExpectation n).Sound := by
  have hm := h.miss
  unfold State.openExpectation
  simp only
  have ht : ∀ x : Option Expectation, State.Sound { s.miss with reg.expect := x } := fun _ => { hm with }
  split
  · rename_i hd
    obtain ⟨hw, hl⟩ := takeDetection_some hd
    exact (ht _).acceptDetection hw (hl ▸ hm.history)
  · exact (ht _).deadlineTest

theorem detect {s : State} (h : s.Sound) : s.detect.Sound := by
  unfold State.detect
  split
  · have ht : ∀ d n, State.Sound { s with reg.history := placeDetection s.reg.history d, reg.detections := n } := fun d _ =>
      { h with history := placeDetection_length h.history d }
    simp only
    split
    · exact ht _ _
    · split
      · rename_i hw
        refine (ht _ _).acceptDetection hw ?_
        exact placeDetection_length h.history { x := s.web.i - toPos s.sets.feed.aS, used := true }
      · exact ht _ _
  · exact h

theorem setFiltered {s : State} (h : s.Sound) (ch : Fin 8) (b : Bool) : (s.setFiltered ch b).Sound := by
  have ht : State.Sound { s with reg.filtered := setLevel s.reg.filtered ch b } := { h with }
  unfold State.setFiltered
  simp only
  split
  · exact ht.detect
  · exact ht

/-! ## Pulses and credits -/

theorem consume {s : State} (h : s.Sound) : s.consume.Sound := by
  unfold State.consume
  split
  · have ht := h.setSpindle (h.carries.setSpindle_same ‹SpindleId›
      { s.stand.spindle ‹SpindleId› with consumed := satAdd32 (s.stand.spindle ‹SpindleId›).consumed 1 } rfl)
    simp only
    split
    · exact ht.raiseFault _
    · exact ht
  · exact h

theorem nipPulse {s : State} (h : s.Sound) : s.nipPulse.Sound := by
  unfold State.nipPulse
  refine consume ?_
  exact { h with }

theorem nipEffects {s : State} (h : s.Sound) : s.nipEffects.Sound := h.deadlineTest.crossings.leaveSpan

theorem advanceOutlet {s : State} (h : s.Sound) (n : Nat) : (s.advanceOutlet n).Sound := by
  have ht : State.Sound { s with web.o := s.web.o + toPos n } := { h with }
  unfold State.advanceOutlet State.wind
  split
  · exact ht.setSpindle (ht.carries.setSpindle_same _ _ rfl)
  · exact ht

theorem afterAdvance {f : State → State} (hf : ∀ {t : State}, t.Sound → (f t).Sound) {s : State} (h : s.Sound) :
    (s.afterAdvance f).Sound := by
  unfold State.afterAdvance
  split
  · exact hf h.account
  · exact eitherOrder (fun ht => ht.dwellAdvance.account) hf h

theorem flowPulse {f : State → State} (hf : ∀ {t : State}, t.Sound → (f t).Sound) {s : State} (h : s.Sound) : (s.flowPulse f).Sound :=
  afterAdvance (fun ht => (hf ht).nipEffects) (h.nipPulse.advanceOutlet 1)

theorem creditFold {s : State} (h : s.Sound) (w : Nat) : (s.creditFold w).Sound := by
  have ht : State.Sound { s with web.seg := s.web.seg.credit } := { h with }
  exact afterAdvance (fun hx => creditFrom _ _ _ hx (by simpa using hx.bay)) (ht.advanceOutlet w)

/-! ## The settling -/

theorem enterAborting {s : State} (h : s.Sound) : s.enterAborting.Sound := by
  have ht : State.Sound { s with
      knife.phase := .aborting, knife.due := s.now + 1000 * s.sets.knife.tRelease, knife.missed := satInc s.knife.missed } := { h with }
  unfold State.enterAborting
  simp only
  split
  · exact ht
  · exact (ht.creditFold _).announceOwn _ _

theorem knifeSettle {s : State} (h : s.Sound) : s.knifeSettle.Sound := by
  unfold State.knifeSettle
  split
  · split
    · exact h.enterAborting
    · exact { h with }
    · exact h
    · exact h
    · exact h
    · exact h
  · exact h

theorem joinTest {s : State} (h : s.Sound) : s.joinTest.Sound := by
  unfold State.joinTest
  split
  · exact { h with
      runs := fun c => StationState.noConfusion c
      silent := fun c => StationState.noConfusion c }
  · exact h

theorem cutAtRest {s : State} (h : s.Sound) : s.cutAtRest.Sound := by
  unfold State.cutAtRest
  split
  · exact h
  · exact h.splitCut _

theorem armSpindle {s : State} (h : s.Sound) (id : SpindleId) : (s.armSpindle id).Sound := by
  have ht := h.setSpindle (Stand.OneCarries.setSpindle_idle (t := s.stand) id { s.stand.spindle id with state := .arming }
    (fun c => SpindleState.noConfusion c) fun c => SpindleState.noConfusion c)
  exact { ht with }

theorem transferArm {s : State} (h : s.Sound) : s.transferArm.Sound := by
  unfold State.transferArm
  split
  · split
    · exact h
    · split
      · exact h.armSpindle _
      · exact h
  · exact h

end State.Sound

/-! ### Zones -/

@[simp] theorem moveValves_zone (s : State) (z : Fin 4) : s.moveValves.zone z = (s.zone z).valveRule s.rate.effective :=
  tabulate_get (fun y => (s.zone y).valveRule s.rate.effective) z

theorem valveRule_purge (r : Zone) (rate : Nat) : (r.valveRule rate).state = .purge ↔ r.state = .purge := by
  unfold Zone.valveRule
  split
  · rename_i h; simp [h.1]
  · split
    · rename_i h; simp [h.1]
    · rfl

theorem valveRule_open {r : Zone} {rate : Nat} (h : (r.valveRule rate).state = .open) : 0 < rate := by
  unfold Zone.valveRule at h
  split at h
  · rename_i hr; exact hr.2.2
  · split at h
    · cases h
    · rename_i hr
      exact Nat.pos_of_ne_zero fun c => hr ⟨h, c⟩

@[simp] theorem valveRule_debt (r : Zone) (rate : Nat) : (r.valveRule rate).debt = r.debt := by
  unfold Zone.valveRule
  split
  · rfl
  · split <;> rfl

theorem grantDrain_zone (s : State) (z y : Fin 4) :
    (s.grantDrain z).zone y = if y = z then { s.zone z with state := .purge } else s.zone y := setZone_zone s z y _

/-- The zones after a keep-warm entry (R115). -/
theorem keepWarmEntry_zone (s : State) (z : Fin 4) :
    s.keepWarmEntry.zone z = s.zone z
      ∨ (s.zone z).state = .ready ∧ s.keepWarmEntry.zone z = (s.zone z).toKeepWarm (s.sets.box.mask.getLsbD z.val) := by
  unfold State.keepWarmEntry
  split
  · show (tabulate _)[z] = _ ∨ _ ∧ (tabulate _)[z] = _
    rw [tabulate_get]
    split
    · exact .inr ⟨‹_›, rfl⟩
    · exact .inl rfl
  · exact .inl rfl

/-- The zones after keep-warm is left (R117). -/
theorem keepWarmExit_zone (s : State) (h : s.box.inForce = true) (z : Fin 4) :
    s.keepWarmExit.zone z =
      if s.isZone z = true ∧ ((s.zone z).state = .keepwarm ∨ (s.zone z).state = .off) then (s.zone z).toWarming else s.zone z := by
  unfold State.keepWarmExit
  rw [if_pos h]
  exact tabulate_get _ z

theorem toKeepWarm_state (r : Zone) (b : Bool) : (r.toKeepWarm b).state ≠ .purge ∧ (r.toKeepWarm b).state ≠ .open := by
  unfold Zone.toKeepWarm
  split <;> exact ⟨fun c => ZoneState.noConfusion c, fun c => ZoneState.noConfusion c⟩

@[simp] theorem toKeepWarm_debt (r : Zone) (b : Bool) : (r.toKeepWarm b).debt = r.debt := by
  unfold Zone.toKeepWarm
  split <;> rfl

namespace State.Sound

/-- A zone in PURGE exactly where the old one was may be put in place. -/
theorem setZone {s : State} (h : s.Sound) {z : Fin 4} {r : Zone} (hr : r.state = .purge ↔ (s.zone z).state = .purge)
    (hd : r.debt ≤ 3) : (s.setZone z r).Sound :=
  { h with
    drain := fun y => by
      rw [setZone_zone]
      split
      · rename_i e
        subst e
        exact hr.trans (h.drain _)
      · exact h.drain y
    debts := fun y => by
      rw [setZone_zone]
      split
      · exact hd
      · exact h.debts y }

/-- The owner's purge may end with the drain released (R112, R113). -/
theorem endPurge {s : State} (h : s.Sound) {z : Fin 4} (ho : s.box.owner = some z) {r : Zone} (hr : r.state ≠ .purge)
    (hd : r.debt ≤ 3) : (s.releaseDrain.setZone z r).Sound :=
  { h with
    drain := fun y => by
      rw [setZone_zone]
      split
      · exact ⟨fun c => absurd c hr, fun c => by cases c⟩
      · rename_i e
        refine ⟨fun c => absurd (Option.some.inj (ho.symm.trans ((h.drain y).mp c))).symm e, fun c => by cases c⟩
    debts := fun y => by
      rw [setZone_zone]
      split
      · exact hd
      · exact h.debts y }

theorem moveValves {s : State} (h : s.Sound) : s.moveValves.Sound :=
  { h with
    drain := fun z => by rw [moveValves_zone, valveRule_purge]; exact h.drain z
    debts := fun z => by rw [moveValves_zone, valveRule_debt]; exact h.debts z }

theorem arbitrate {s : State} (h : s.Sound) : s.arbitrate.Sound := by
  unfold State.arbitrate
  split
  · exact h
  · rename_i ho
    split
    · exact h
    · rename_i z _
      exact { h with
        drain := fun y => by
          rw [grantDrain_zone]
          split
          · rename_i e; subst e; exact ⟨fun _ => rfl, fun _ => rfl⟩
          · rename_i e
            refine ⟨fun c => ?_, fun c => absurd (Option.some.inj c).symm e⟩
            rw [h.drain y, ho] at c
            cases c
        debts := fun y => by
          rw [grantDrain_zone]
          split
          · exact h.debts z
          · exact h.debts y }

theorem keepWarmEntry {s : State} (h : s.Sound) : s.keepWarmEntry.Sound := by
  have drain : ∀ z, (s.keepWarmEntry.zone z).state = .purge ↔ s.box.owner = some z := fun z => by
    rw [← h.drain z]
    rcases keepWarmEntry_zone s z with e | ⟨hr, e⟩
    · rw [e]
    · rw [e, hr]
      exact ⟨fun c => absurd c (toKeepWarm_state _ _).1, fun c => ZoneState.noConfusion c⟩
  have debts : s.keepWarmEntry.DebtsBounded := fun z => by
    rcases keepWarmEntry_zone s z with e | ⟨_, e⟩ <;> rw [e]
    · exact h.debts z
    · rw [toKeepWarm_debt]; exact h.debts z
  unfold State.keepWarmEntry at drain debts ⊢
  split
  · rename_i hc
    rw [if_pos hc] at drain debts
    exact { h with drain := drain, debts := debts }
  · exact h

theorem keepWarmExit {s : State} (h : s.Sound) : s.keepWarmExit.Sound := by
  by_cases hf : s.box.inForce = true
  · have hz := keepWarmExit_zone s hf
    have drain : ∀ z, (s.keepWarmExit.zone z).state = .purge ↔ s.box.owner = some z := fun z => by
      rw [← h.drain z, hz]
      split
      · rename_i hc
        refine ⟨fun c => ZoneState.noConfusion c, fun c => ?_⟩
        rcases hc.2 with e | e <;> rw [e] at c <;> cases c
      · rfl
    have debts : s.keepWarmExit.DebtsBounded := fun z => by
      rw [hz]
      split <;> exact h.debts z
    unfold State.keepWarmExit at drain debts ⊢
    rw [if_pos hf] at drain debts ⊢
    exact { h with drain := drain, debts := debts }
  · unfold State.keepWarmExit
    rw [if_neg hf]
    exact h

theorem zoneSettle {s : State} (h : s.Sound) : s.zoneSettle.Sound := h.moveValves.arbitrate.keepWarmEntry

theorem limits {s : State} (h : s.Sound) : s.limits.Sound := { h with }

theorem consequences {s : State} (h : s.Sound) : s.consequences.Sound :=
  h.judgeDue.joinTest.cutAtRest.transferArm.zoneSettle.limits

end State.Sound

/-! ## What the settling makes good -/

/-- The valves follow the rate once the zones have settled (R104). -/
theorem zoneSettle_valves (s : State) : s.zoneSettle.ValvesFollow := by
  have he : s.zoneSettle.rate.effective = s.rate.effective := congrArg Calm.effective (zoneSettle_calm s)
  intro z hz
  rw [he]
  unfold State.zoneSettle at hz
  rcases keepWarmEntry_zone s.moveValves.arbitrate z with e | ⟨_, e⟩
  · rw [e] at hz
    unfold State.arbitrate at hz
    split at hz
    · exact valveRule_open (moveValves_zone s z ▸ hz)
    · split at hz
      · exact valveRule_open (moveValves_zone s z ▸ hz)
      · rw [grantDrain_zone] at hz
        split at hz
        · cases hz
        · exact valveRule_open (moveValves_zone s z ▸ hz)
  · rw [e] at hz
    exact absurd hz (toKeepWarm_state _ _).2

/-- A settling leaves a knife that has obeyed the latch (R46, R47). -/
theorem settle_knifeObeys (s : State) : s.settle.KnifeObeys := by
  have hc : s.settle.calm = s.knifeSettle.calm := consequences_calm _
  have hk : s.settle.knife = s.knifeSettle.knife := congrArg Calm.knife hc
  have hl : s.settle.rate.latch = s.knifeSettle.rate.latch := congrArg Calm.latch hc
  unfold State.KnifeObeys
  rw [hk, hl]
  unfold State.knifeSettle
  split
  · intro _
    split
    · have hp : s.enterAborting.knife.phase = .aborting := congrArg Pace.phase (enterAborting_pace s)
      rw [hp]
      exact ⟨fun c => KnifePhase.noConfusion c, fun c => KnifePhase.noConfusion c⟩
    all_goals simp [*]
  · intro c
    exact absurd c ‹_›

/-- The least of numbers of 60000 at most is 60000 at most, whatever the peers publish. -/
theorem leastLimit_le (s : State) : s.leastLimit ≤ s.rate.own := by
  have h : ∀ (l : List StationId) (n : Nat), l.foldl
      (fun (n : Nat) (id : StationId) => if s.isPeer id = true ∧ (s.peer id).presence = .live then min n (s.peer id).lastLimit else n) n
        ≤ n := by
    intro l
    induction l with
    | nil => intro n; exact le_rfl
    | cons x l ih =>
      intro n
      refine (ih _).trans ?_
      simp only
      split
      · exact min_le_left _ _
      · exact le_rfl
  exact h _ _

/-- The resolved rate that the rules give is legal and no more than the own limit (R9). -/
theorem resolvedNow_cases (s : State) : s.resolvedNow = 0 ∨ 100 ≤ s.resolvedNow ∧ s.resolvedNow ≤ s.rate.own := by
  unfold State.resolvedNow
  split
  · split
    · exact .inl rfl
    · exact .inr ⟨by omega, leastLimit_le s⟩
  · exact .inl rfl

theorem ownLimitNow_le (s : State) : s.ownLimitNow ≤ s.rate.dancerLimit := by
  unfold State.ownLimitNow RateState.minimum
  split
  · simp
  · exact Nat.zero_le _

/-- Once the limits are formed the resolved rate is legal (R9). -/
theorem limits_resolved {s : State} (h : s.rate.dancerLimit = 0 ∨ s.rate.dancerLimit = 60000) : legalRate s.limits.rate.resolved := by
  have hr := resolvedNow_cases { s.deliverComponents with rate.own := s.deliverComponents.ownLimitNow }
  have ho : s.deliverComponents.ownLimitNow ≤ s.rate.dancerLimit := ownLimitNow_le s.deliverComponents
  rcases hr with hr | hr
  · exact .inl hr
  · refine .inr ⟨hr.1, hr.2.trans (ho.trans ?_)⟩
    rcases h with h | h
    · rw [h]; decide
    · rw [h]

/-- A sound state whose valves follow the rate and whose knife has obeyed is safe once its limits are formed. -/
theorem State.Sound.limits_safe {s : State} (h : s.Sound) (hv : s.ValvesFollow) (hk : s.KnifeObeys) : s.limits.Safe :=
  { store := h.store
    latch := h.latch
    rates := ⟨h.dancer, limits_resolved h.dancer, h.effective⟩
    limits := limits_idem s
    queues := ⟨h.span, h.bay, h.outlet, h.marks, h.history, h.verdicts, h.log⟩
    valves := hv
    drain := ⟨fun c => absurd c h.runs, h.drain⟩
    debts := h.debts
    carries := h.carries
    silent := h.silent
    peers := ⟨fun c => absurd c h.runs, fun id c => ⟨h.runs, h.peers id c⟩⟩
    correction := h.correction
    counts := h.counts
    knife := hk
    config := fun c => absurd c h.runs
    sets := h.sets }

/-- A sound state is safe once it has settled. -/
theorem State.Sound.settle_safe {s : State} (h : s.Sound) : s.settle.Safe := by
  have ht := h.knifeSettle.judgeDue.joinTest.cutAtRest.transferArm.zoneSettle
  have hv := zoneSettle_valves s.knifeSettle.judgeDue.joinTest.cutAtRest.transferArm
  have hk := settle_knifeObeys s
  rw [State.settle, State.consequences] at hk ⊢
  generalize State.zoneSettle _ = v at ht hv hk ⊢
  exact ht.limits_safe hv hk

end Sys2Proof.Machine
end

section
namespace Sys2Proof.Machine

/-! # Every step keeps Safe: CONFIG -/

/-- What a station in CONFIG keeps through every operation inside a step: Safe in CONFIG but the limits. -/
structure State.Parked (s : State) : Prop where
  rests : s.port.state = .config
  store : s.StoreCanonical
  dancer : s.rate.dancerLimit = 0 ∨ s.rate.dancerLimit = 60000
  span : s.web.span.length ≤ 16
  bay : s.web.bay.length ≤ 32
  outlet : s.web.outlet.length ≤ 16
  history : s.reg.history.length ≤ 8
  log : s.stand.log.length ≤ 32
  owner : s.box.owner = none
  off : ∀ z : Fin 4, (s.zone z).state = .off
  debts : s.DebtsBounded
  carries : s.stand.OneCarries
  mode : s.link.mode = .off
  unheard : ∀ id : StationId, (s.peer id).presence = .unheard
  correction : s.CorrectionBounded
  counts : s.CountsBounded
  sets : s.SetsLawful
  latch : s.rate.latch = false
  effective : s.rate.effective = 0
  knife : s.knife = {}
  cur : s.cad.cur = none
  panel : s.stand.panel = none
  verdicts : s.stand.verdicts = []
  fault : s.port.fault = none
  inForce : s.box.inForce = false
  idle : s.box.idle = .stopped
  advance : s.link.advance = false
  stopResume : s.link.stopResume = none
  marks : s.link.marks = []
  onLink : s.link.onLink = none
  pubDue : s.link.pubDue = none

namespace State.Safe

theorem sound {s : State} (h : s.Safe) (hr : s.port.state ≠ .config) : s.Sound := by
  obtain ⟨hspan, hbay, houtlet, hmarks, hhistory, hverdicts, hlog⟩ := h.queues
  exact
    { runs := hr, store := h.store, latch := h.latch, dancer := h.rates.1, effective := h.rates.2.2, span := hspan, bay := hbay
      outlet := houtlet, marks := hmarks, history := hhistory, verdicts := hverdicts, log := hlog, drain := h.drain.2
      debts := h.debts, carries := h.carries, silent := h.silent, peers := fun id c => (h.peers.2 id c).2
      correction := h.correction, counts := h.counts, sets := h.sets }

theorem parked {s : State} (h : s.Safe) (hc : s.port.state = .config) : s.Parked := by
  obtain ⟨hspan, hbay, houtlet, hmarks, hhistory, hverdicts, hlog⟩ := h.queues
  obtain ⟨latch, effective, _, knife, cur, panel, verdicts, fault, inForce, idle, advance, stopResume, marks, onLink, pubDue⟩ :=
    h.config hc
  exact
    { rests := hc, store := h.store, dancer := h.rates.1, span := hspan, bay := hbay, outlet := houtlet, history := hhistory, log := hlog
      owner := (h.drain.1 hc).1, off := (h.drain.1 hc).2, debts := h.debts, carries := h.carries, mode := h.peers.1 hc
      unheard := fun id => by_contra fun c => (h.peers.2 id c).1 hc
      correction := h.correction, counts := h.counts, sets := h.sets, latch, effective, knife, cur, panel, verdicts, fault, inForce, idle
      advance, stopResume, marks, onLink, pubDue }

/-- A safe station runs, or is parked in CONFIG. -/
theorem sound_or_parked {s : State} (h : s.Safe) : s.Sound ∨ s.Parked := by
  by_cases hc : s.port.state = .config
  · exact .inr (h.parked hc)
  · exact .inl (h.sound hc)

end State.Safe

namespace State.Parked

/-- In CONFIG the settling forms the limits and does nothing else. -/
theorem settle_eq {s : State} (h : s.Parked) : s.settle = s.limits := settle_config s h.rests h.latch h.verdicts h.owner h.off

theorem limits_safe {s : State} (h : s.Parked) : s.limits.Safe := by
  have hown : s.deliverComponents.ownLimitNow = 0 := by
    unfold State.ownLimitNow
    rw [if_neg]
    intro c
    exact StationState.noConfusion (h.rests.symm.trans c.1)
  have hres : s.limits.rate.resolved = 0 := by
    have hr := resolvedNow_cases { s.deliverComponents with rate.own := s.deliverComponents.ownLimitNow }
    rcases hr with hr | ⟨hl, hr⟩
    · exact hr
    · have : (100 : Nat) ≤ s.deliverComponents.ownLimitNow := hl.trans hr
      omega
  exact
    { store := h.store
      latch := fun _ => h.effective
      rates := ⟨h.dancer, .inl hres, .inl h.effective⟩
      limits := limits_idem s
      queues := ⟨h.span, h.bay, h.outlet, by show s.link.marks.length ≤ 6; rw [h.marks]; decide, h.history,
        by show s.stand.verdicts.length ≤ 8; rw [h.verdicts]; decide, h.log⟩
      valves := fun z c => ZoneState.noConfusion ((h.off z).symm.trans c)
      drain := ⟨fun _ => ⟨h.owner, h.off⟩, fun z =>
        ⟨fun c => ZoneState.noConfusion ((h.off z).symm.trans c), fun c => by cases h.owner.symm.trans c⟩⟩
      debts := h.debts
      carries := h.carries
      silent := fun c => StationState.noConfusion (h.rests.symm.trans c)
      peers := ⟨fun _ => h.mode, fun id c => absurd (h.unheard id) c⟩
      correction := h.correction
      counts := h.counts
      knife := fun c => Bool.noConfusion (h.latch.symm.trans c)
      config := fun _ => ⟨h.latch, h.effective, hres, h.knife, h.cur, h.panel, h.verdicts, h.fault, h.inForce, h.idle, h.advance,
        h.stopResume, h.marks, h.onLink, h.pubDue⟩
      sets := h.sets }

theorem settle_safe {s : State} (h : s.Parked) : s.settle.Safe := h.settle_eq ▸ h.limits_safe

end State.Parked

/-- A state that runs and is sound, or is parked in CONFIG, is safe once it has settled. -/
theorem settle_safe_of {s : State} (h : s.Sound ∨ s.Parked) : s.settle.Safe := h.elim State.Sound.settle_safe State.Parked.settle_safe

/-- A sound state with its limits formed, its valves closed at rate 0 and its knife halted under the latch is safe. -/
theorem State.Sound.safe {s : State} (h : s.Sound) (hl : s.LimitsCurrent) (hv : s.ValvesFollow) (hk : s.KnifeObeys) : s.Safe :=
  hl ▸ h.limits_safe hv hk

/-! ## The port's taking of a command -/

theorem refusalOf_eq_none {tests : List (Bool × Byte)} : refusalOf tests = none ↔ ∀ x ∈ tests, x.1 = false := by
  induction tests with
  | nil => simp
  | cons x xs ih =>
    obtain ⟨b, c⟩ := x
    rw [refusalOf_cons]
    cases b <;> simp [ih]

theorem countRefusal_eq_none {args : List Byte} {n : Nat} {r : Option Byte} (h : countRefusal args n r = none) :
    args.length = n ∧ r = none := by
  unfold countRefusal at h
  split at h
  · exact ⟨‹_›, h⟩
  · cases h

/-- A change that the forming of the limits does not see leaves them current. -/
theorem State.LimitsCurrent.update {s : State} (h : s.LimitsCurrent) (f : State → State) (hf : (f s).limits = f s.limits) :
    (f s).LimitsCurrent := hf.trans (congrArg f h)

namespace State.Safe

theorem respond {s : State} (h : s.Safe) (bytes : List Byte) : (s.respond bytes).Safe :=
  { h with limits := h.limits.update (fun u => u.respond bytes) rfl }

theorem shiftOut {s : State} (h : s.Safe) (edges : Nat) : (s.shiftOut edges).Safe :=
  { h with limits := h.limits.update (fun u => u.shiftOut edges) rfl }

/-- A command of the port keeps Safe where its effect does. -/
theorem takeCommand {s : State} (h : s.Safe) (args : List Byte) (refusal : Option Byte) (data : List Byte) (effect : State → State)
    (he : s.pat.status ≠ .checking → refusal = none → (effect (s.shiftOut (8 * (1 + args.length)))).Safe) :
    (s.takeCommand args refusal data effect).Safe := by
  rw [takeCommand_cases]
  split
  · exact (h.shiftOut _).respond _
  · split
    · exact (h.shiftOut _).respond _
    · exact (he ‹_› rfl).respond _

end State.Safe
end Sys2Proof.Machine
end

section
namespace Sys2Proof.Machine

/-! # Every step keeps Safe: the commands of the port -/

/-! ## The sets that a WRITE SET puts in force are in range (R182 to R185) -/

theorem within_eq_true {lo n hi : Nat} : within lo n hi = true ↔ lo ≤ n ∧ n ≤ hi := by simp [within]

theorem parseLine_lawful {f : List Byte} {x : LineSet} (h : parseLine f = some x) : x.Lawful := by
  unfold parseLine at h
  split at h
  · simp only at h
    split at h
    · rename_i kind role _ _ hc
      cases h
      simp only [Bool.and_eq_true, within_eq_true, decide_eq_true_eq, Bool.or_eq_true, bne_iff_ne, beq_iff_eq] at hc
      obtain ⟨⟨⟨⟨⟨⟨⟨hid, hn⟩, hlt⟩, hmax⟩, hup⟩, hdown⟩, hun⟩, hre⟩ := hc
      have hv : (Fin.ofNat 16 (numAt f 0 1)).val = numAt f 0 1 := Nat.mod_eq_of_lt (by omega)
      refine ⟨by rw [hv]; exact hlt, hn.1, hn.2, hmax.1, hmax.2, hup.1, hup.2, hdown.1, hdown.2, fun c => ?_, fun c => ?_⟩
      · rw [hv]; exact hun.resolve_left fun e => e c
      · rw [hv]; exact hre.resolve_left fun e => e c
    · cases h
  · cases h

theorem outletOk_eq_true {b : Nat} {box : BoxSet} : outletOk b box = true ↔ box.boxLength ≤ b ∧ tableSpan b box.cell ≤ 128 := by
  simp [outletOk]

theorem levelsOk_eq_true {x : FeedSet} : x.levelsOk = true ↔
    x.tripLo < x.holdLo ∧ x.holdLo < x.setpoint ∧ x.setpoint < x.holdHi ∧ x.holdHi < x.tripHi ∧ x.tripHi ≤ 1023 := by
  simp [FeedSet.levelsOk, within, and_assoc]

theorem feedOk_lawful {x : FeedSet} {line : LineSet} {box : BoxSet} (h : x.ok line box = true) : x.Lawful line box := by
  simp only [FeedSet.ok, Bool.and_eq_true, within_eq_true, Bool.or_eq_true, beq_iff_eq] at h
  obtain ⟨⟨⟨⟨⟨⟨_, ha⟩, hb⟩, hv⟩, hs⟩, hlev⟩, hbox⟩ := h
  refine ⟨fun c => ?_, fun c => ?_, hb.2, hv.1, hv.2, hs.2, fun c => ?_, fun c => ?_⟩
  · rw [if_pos c] at ha; simpa using ha
  · rw [if_neg c] at ha
    simp only [Bool.and_eq_true, within_eq_true, decide_eq_true_eq] at ha
    exact ⟨ha.1.1, ha.1.2, ha.2⟩
  · exact levelsOk_eq_true.mp (hlev.resolve_left fun e => c (by rw [e]; rfl))
  · exact outletOk_eq_true.mp (hbox.resolve_left (by omega))

theorem parseKnife_lawful {f : List Byte} {x : KnifeSet} (h : parseKnife f = some x) : x.Lawful := by
  unfold parseKnife at h
  split at h
  · split at h
    · rename_i hc
      cases h
      simp only [Bool.and_eq_true, within_eq_true] at hc
      obtain ⟨⟨⟨⟨⟨⟨⟨ht, hp⟩, hr⟩, hg⟩, hd⟩, hk⟩, hw⟩, hm⟩ := hc
      exact ⟨ht.1, ht.2, hp.1, hp.2, hr.1, hr.2, hg.2, hd.2, hk.1, hk.2, hw.2, hm.2⟩
    · cases h
  · cases h

theorem boxOk_lawful {x : BoxSet} {mask : Nat} {feedW : Bool} {b : Nat} (h : x.ok mask feedW b = true) :
    x.Lawful ∧ (feedW = true → 0 < x.zoneCount → x.boxLength ≤ b ∧ tableSpan b x.cell ≤ 128) := by
  simp only [BoxSet.ok, Bool.and_eq_true, within_eq_true, Bool.or_eq_true, beq_iff_eq, decide_eq_true_eq, List.all_eq_true,
    List.mem_finRange, true_implies] at h
  obtain ⟨⟨⟨⟨⟨⟨⟨⟨⟨⟨⟨⟨⟨⟨⟨⟨hcount, hzones⟩, _⟩, hspan⟩, hsum⟩, hband⟩, hhyst⟩, hmargin⟩, hsettle⟩, hdwell⟩, hinterval⟩, htime⟩, hcell⟩,
    hentry⟩, _⟩, hdrop⟩, hlast⟩ := h
  refine ⟨⟨hcount.2, fun z hz => ?_, hspan.1, hsum, hband.1, hband.2, hhyst.1, hhyst.2, by omega, hmargin.2, hsettle.1, hsettle.2,
    hdwell.1, hdwell.2, hinterval.1, hinterval.2, htime.1, htime.2, hcell.1, hcell.2, hentry.2, hdrop.2, fun c => ?_⟩, fun hw c => ?_⟩
  · have := hzones z
    simp only [BoxSet.zoneOk, Bool.or_eq_true, Bool.and_eq_true, within_eq_true, decide_eq_true_eq] at this
    obtain ⟨⟨hl, hs⟩, hd⟩ := this.resolve_left (by omega)
    exact ⟨hl.1, hl.2, hs.1, hs.2, hd⟩
  · exact (hlast.resolve_left (by omega)).1
  · have := (hlast.resolve_left (by omega)).2
    rw [hw] at this
    exact outletOk_eq_true.mp (this.resolve_left (by decide))

theorem standOk_lawful {x : StandSet} (h : x.ok = true) : x.Lawful := by
  simp only [StandSet.ok, Bool.and_eq_true, within_eq_true] at h
  obtain ⟨⟨⟨⟨⟨⟨hcap, harm⟩, hpaste⟩, hdp⟩, hmargin⟩, htarget⟩, hmax⟩ := h
  exact ⟨hcap.1, hcap.2, harm.1, harm.2, hpaste.1, hpaste.2, hdp.2, hmargin.2, htarget.1, htarget.2, hmax.1, hmax.2⟩

/-- What a set that parses is beside being in range: the SET set agrees with the FEED set in force. -/
def State.WriteLawful (s : State) : SetWrite → Prop
  | .line x => x.Lawful
  | .feed x => x.Lawful s.sets.line s.sets.box
  | .knife x => x.Lawful
  | .box x => x.Lawful
      ∧ (s.sets.feedW = true → 0 < x.zoneCount → x.boxLength ≤ s.sets.feed.b ∧ tableSpan s.sets.feed.b x.cell ≤ 128)
  | .stand x => x.Lawful

theorem parseSet_lawful {s : State} {code : Byte} {f : List Byte} {w : SetWrite} (h : s.parseSet code f = some w) :
    s.WriteLawful w := by
  unfold State.parseSet at h
  split at h
  · obtain ⟨x, hx, rfl⟩ := Option.map_eq_some_iff.mp h
    exact parseLine_lawful hx
  split at h
  · split at h
    · cases h; exact feedOk_lawful ‹_›
    · cases h
  split at h
  · obtain ⟨x, hx, rfl⟩ := Option.map_eq_some_iff.mp h
    exact parseKnife_lawful hx
  split at h
  · split at h
    · cases h; exact boxOk_lawful ‹_›
    · cases h
  split at h
  · split at h
    · cases h; exact standOk_lawful ‹_›
    · cases h
  · cases h

/-! ## The configuration commands -/

namespace State.Parked

/-- A pattern with the store in force or another canonical one may be put in place. -/
theorem withPattern {s : State} (h : s.Parked) {p : Pattern} (hp : Memory.wf p.store = true) : State.Parked { s with pat := p } :=
  { h with store := hp }

theorem putSet {s : State} (h : s.Parked) {w : SetWrite} (hw : s.WriteLawful w) : (s.putSet w).Parked := by
  obtain ⟨hline, hfeed, hknife, hbox, hstand⟩ := h.sets
  cases w with
  | line x =>
    have hs : Stand.OneCarries (s.stand.underKind s.sets.line.standKind x.standKind) := by
      unfold Stand.underKind
      split
      · exact h.carries
      · exact ⟨fun c => SpindleState.noConfusion c.1, fun c => SpindleState.noConfusion c.1⟩
    have hk : ∀ old new : StandKind, (s.stand.underKind old new).log = s.stand.log ∧ (s.stand.underKind old new).panel = s.stand.panel
        ∧ (s.stand.underKind old new).verdicts = s.stand.verdicts := fun old new => by
      unfold Stand.underKind
      split <;> exact ⟨rfl, rfl, rfl⟩
    obtain ⟨hlog, hpanel, hverdicts⟩ := hk s.sets.line.standKind x.standKind
    exact { h with
      carries := hs
      log := hlog ▸ h.log
      panel := hpanel.trans h.panel
      verdicts := hverdicts.trans h.verdicts
      correction := ⟨Nat.zero_le _, h.correction.2⟩
      sets := ⟨hw, rfl, rfl, rfl, rfl⟩ }
  | feed x => exact { h with sets := ⟨hline, hw, hknife, hbox, hstand⟩ }
  | knife x =>
    have hwin : x.window ≤ 4095 := by
      obtain ⟨_, _, _, _, _, _, _, _, _, _, hwin, _⟩ := hw
      exact hwin
    exact { h with correction := ⟨hwin, h.correction.2⟩, sets := ⟨hline, hfeed, hw, hbox, hstand⟩ }
  | box x =>
    have hz : ∀ z, (s.putSet (.box x)).zone z = (s.zone z).underNewSet := tabulate_get _
    have hf : if s.sets.feedW then s.sets.feed.Lawful s.sets.line x else s.sets.feed = {} := by
      split at hfeed <;> rename_i hfw
      · obtain ⟨h1, h2, h3, h4, h5, h6, h7, _⟩ := hfeed
        rw [if_pos hfw]
        exact ⟨h1, h2, h3, h4, h5, h6, h7, hw.2 hfw⟩
      · rw [if_neg hfw]
        exact hfeed
    exact { h with
      off := fun z => by rw [hz]; rfl
      debts := fun z => by rw [hz]; exact Nat.zero_le _
      sets := ⟨hline, hf, hknife, hw.1, hstand⟩ }
  | stand x => exact { h with sets := ⟨hline, hfeed, hknife, hbox, hw⟩ }

theorem shiftOut {s : State} (h : s.Parked) (edges : Nat) : (s.shiftOut edges).Parked := { h with }

end State.Parked

namespace State.Safe

/-- A station that does not run is parked. -/
theorem parked_of_running {s : State} (h : s.Safe) (hr : s.running = false) : s.Parked :=
  h.parked (by simpa [State.running] using hr)

theorem sound_of_running {s : State} (h : s.Safe) (hr : s.running = true) : s.Sound :=
  h.sound (by simpa [State.running] using hr)

theorem writeSet {s : State} (h : s.Safe) (args : List Byte) : Completes (.writeSet args) s State.Safe := by
  refine ⟨_, rfl, h.takeCommand _ _ _ _ fun _ hr => ?_⟩
  unfold State.writeSet
  split
  · exact h.shiftOut _
  · split
    · exact h.shiftOut _
    · rename_i w hw
      have hrun : s.running = false := refusalOf_eq_none.mp hr _ (List.mem_cons_self)
      exact (((h.shiftOut _).parked_of_running hrun).putSet (parseSet_lawful hw)).settle_safe

theorem loadPattern {s : State} (h : s.Safe) (args : List Byte) : Completes (.loadPattern args) s State.Safe := by
  refine ⟨_, rfl, h.takeCommand _ _ _ _ fun _ hr => ?_⟩
  simp only [State.loadPatternRefusal, refusalOf_eq_none, List.forall_mem_cons, Bool.or_eq_false_iff, decide_eq_false_iff_not,
    List.not_mem_nil, false_implies, implies_true, and_true] at hr
  obtain ⟨hrun, ⟨⟨hlo, hhi⟩, hend⟩, _⟩ := hr
  refine (((h.shiftOut _).parked_of_running hrun).withPattern (writeChunk_wf _ _ _ ?_ h.store)).settle_safe
  simp only [List.length_drop]
  omega

theorem checkPattern {s : State} (h : s.Safe) (args : List Byte) : Completes (.checkPattern args) s State.Safe := by
  refine ⟨_, rfl, h.takeCommand _ _ _ _ fun _ hr => ?_⟩
  have hrun : s.running = false := refusalOf_eq_none.mp (countRefusal_eq_none hr).2 _ (List.mem_cons_self)
  unfold State.beginCheck
  exact (((h.shiftOut _).parked_of_running hrun).withPattern (p := s.pat.cleared .checking) h.store).settle_safe

end State.Safe

@[simp] theorem checked_store (x : Pattern) (feed : FeedSet) (knife : KnifeSet) : (x.checked feed knife).store = x.store := by
  unfold Pattern.checked
  split
  · rfl
  · simp only
    split <;> rfl

namespace State.Safe

theorem checkPatternEnd {s : State} (h : s.Safe) : Completes .checkPatternEnd s State.Safe := by
  show ∃ t, execCheckPatternEnd s = .next t ∧ t.Safe
  unfold execCheckPatternEnd
  split
  · refine ⟨_, rfl, ?_⟩
    unfold State.endCheck
    refine settle_safe_of (h.sound_or_parked.imp (fun k => ?_) fun k => ?_)
    · exact { k with store := by show Memory.wf _ = true; rw [checked_store]; exact k.store }
    · exact k.withPattern (by rw [checked_store]; exact k.store)
  · exact ⟨s, rfl, h⟩

/-! ## START, RESTART, POWER_ON and CLEAR FAULT -/

end State.Safe

namespace State.Sound

theorem handAdvance {s : State} (h : s.Sound) : s.handAdvance.Sound := by
  unfold State.handAdvance
  split
  · exact h
  · rename_i hn
    exact { h with silent := fun c => absurd c hn }

theorem startPlanner {s : State} (h : s.Sound) : s.startPlanner.Sound := by
  unfold State.startPlanner
  split
  · exact h
  · exact { h with }
  · exact { h with }

end State.Sound

/-- The zones at START are WARMING, or above the zone count and as they were (R102). -/
theorem startBox_zone (s : State) (z : Fin 4) :
    s.startBox.zone z = if s.isZone z then (s.zone z).started s.sets.box.purgeInterval else s.zone z := tabulate_get _ z

@[simp] theorem startPlanner_owner (s : State) : s.startPlanner.box.owner = s.box.owner := by
  unfold State.startPlanner
  split <;> rfl

theorem State.Sound.startBox {s : State} (h : s.Sound) (ho : s.box.owner = none) : s.startBox.Sound :=
  { h with
    drain := fun z => by
      refine ⟨fun c => ?_, fun c => by cases c⟩
      rw [startBox_zone] at c
      split at c
      · cases c
      · cases ho.symm.trans ((h.drain z).mp c)
    debts := fun z => by
      rw [startBox_zone]
      split <;> exact h.debts z }

/-- START leaves a sound state before it settles. -/
theorem State.Parked.started {s : State} (h : s.Parked) :
    State.Sound (State.startLink (State.startDwell (State.startBox (State.startPlanner (State.startCadence (State.startTracker
      { s with
        port.state := .joining
        reg := s.reg.started
        stand := s.stand.started
        peers := tabulate fun _ => {} })))))) := by
  have hb : State.Sound (State.startCadence (State.startTracker
      { s with
        port.state := .joining
        reg := s.reg.started
        stand := s.stand.started
        peers := tabulate fun _ => {} })) :=
    { runs := fun c => StationState.noConfusion c
      store := h.store
      latch := fun _ => h.effective
      dancer := .inr rfl
      effective := .inl h.effective
      span := h.span
      bay := h.bay
      outlet := h.outlet
      marks := by show s.link.marks.length ≤ 6; rw [h.marks]; decide
      history := Nat.zero_le _
      verdicts := Nat.zero_le _
      log := h.log
      drain := fun z => ⟨fun c => ZoneState.noConfusion ((h.off z).symm.trans c), fun c => by cases h.owner.symm.trans c⟩
      debts := h.debts
      carries := h.carries
      silent := fun c => StationState.noConfusion c
      peers := fun id c => absurd (congrArg Peer.presence (tabulate_get (fun _ : StationId => ({} : Peer)) id)) c
      correction := ⟨h.correction.1, by show (-4095 : Int) ≤ 0 ∧ (0 : Int) ≤ 4095; decide⟩
      counts := ⟨Nat.zero_le _, h.counts.2⟩
      sets := h.sets }
  have hx := hb.startPlanner.startBox ((startPlanner_owner _).trans h.owner)
  have hs : ∀ t : State, t.startPlanner.startBox.port.state = t.port.state := fun t => by
    unfold State.startPlanner
    split <;> rfl
  have hstate := hs (State.startCadence (State.startTracker
      { s with
        port.state := .joining
        reg := s.reg.started
        stand := s.stand.started
        peers := tabulate fun _ => {} }))
  generalize State.startBox _ = t at hx hstate ⊢
  unfold State.startLink
  refine State.Sound.handAdvance ?_
  exact { hx with silent := fun c => StationState.noConfusion (hstate.symm.trans c) }

theorem State.Safe.start {s : State} (h : s.Safe) (args : List Byte) : Completes (.start args) s State.Safe := by
  refine ⟨_, rfl, h.takeCommand _ _ _ _ fun _ hr => ?_⟩
  have hrun : s.running = false := refusalOf_eq_none.mp (countRefusal_eq_none hr).2 _ (List.mem_cons_self)
  unfold State.startStation
  exact ((h.shiftOut _).parked_of_running hrun).started.settle_safe

end Sys2Proof.Machine
end

section
namespace Sys2Proof.Machine

/-! ## RESTART and POWER_ON -/

/-- A spindle comes out of a RESTART carrying only where it carried before. -/
theorem restarted_state {x : Spindle} {st : SpindleState} (hs : st ≠ .loaded) (h : x.restarted.state = st) : x.state = st := by
  unfold Spindle.restarted at h
  split at h
  · exact absurd h.symm hs
  · exact h

theorem Stand.OneCarries.restarted {t : Stand} (h : t.OneCarries) (due : Option Nat) : (t.restarted due).OneCarries :=
  have run {x : Spindle} (c : x.restarted.state = .running) : x.state = .running := restarted_state (fun e => SpindleState.noConfusion e) c
  have wind {x : Spindle} (c : x.restarted.state = .winding) : x.state = .winding := restarted_state (fun e => SpindleState.noConfusion e) c
  ⟨fun c => h.1 ⟨run c.1, run c.2⟩, fun c => h.2 ⟨wind c.1, wind c.2⟩⟩

/-- The stand after the roll change of a paste: the new roll carries, and the old one carries no more (R144). -/
theorem Stand.OneCarries.rollChange {t : Stand} (dst : SpindleId) :
    ((t.setSpindle (otherSpindle dst)
        (if (t.spindle (otherSpindle dst)).state = .running then { t.spindle (otherSpindle dst) with state := .spent }
         else t.spindle (otherSpindle dst))).setSpindle dst { t.spindle dst with state := .running, consumed := 0 }).OneCarries := by
  refine Stand.OneCarries.setSpindle dst _ (fun _ c => ?_) fun c => SpindleState.noConfusion c
  rw [setSpindle_spindle, if_pos rfl] at c
  split at c
  · cases c
  · contradiction

@[simp] theorem setSpindle_panel (t : Stand) (id : SpindleId) (x : Spindle) : (t.setSpindle id x).panel = t.panel := by
  cases id <;> rfl

theorem State.Sound.rollChange {s : State} (h : s.Sound) : s.rollChange.Sound := by
  unfold State.rollChange
  split
  · exact { h with }
  · refine State.Sound.rollEvent (State.Sound.pulseCut (h.withStand ?_ ?_ ?_)) _ _
    · exact Stand.OneCarries.rollChange _
    · simpa using h.verdicts
    · simpa using h.log

theorem State.Sound.judgeAll {s : State} (h : s.Sound) : s.judgeAll.Sound := judgeEach (Nat.zero_le _) _ h

theorem State.Sound.endStand {s : State} (h : s.Sound) : s.endStand.Sound := by
  unfold State.endStand
  split
  · exact h.rollChange.judgeAll
  · exact h.judgeAll

namespace State.Parked

theorem reachTime {s : State} (h : s.Parked) (due : Nat) : (s.reachTime due).Parked := { h with }

theorem withStand {s : State} (h : s.Parked) {t : Stand} (hc : t.OneCarries) (hv : t.verdicts = []) (hl : t.log.length ≤ 32)
    (hp : t.panel = none) : State.Parked { s with stand := t } := { h with carries := hc, verdicts := hv, log := hl, panel := hp }

theorem setSpindle {s : State} (h : s.Parked) {id : SpindleId} {x : Spindle} (hc : (s.stand.setSpindle id x).OneCarries) :
    (s.setSpindle id x).Parked :=
  h.withStand hc (by simpa using h.verdicts) (by simpa using h.log) (by simpa using h.panel)

theorem rollEvent {s : State} (h : s.Parked) (c : RollCause) (id : SpindleId) : (s.rollEvent c id).Parked := { h with }

theorem pulseCut {s : State} (h : s.Parked) : s.pulseCut.Parked := { h with }

theorem rollChange {s : State} (h : s.Parked) : s.rollChange.Parked := by
  unfold State.rollChange
  split
  · exact { h with }
  · refine rollEvent (pulseCut (h.withStand ?_ ?_ ?_ ?_)) _ _
    · exact Stand.OneCarries.rollChange _
    · simpa using h.verdicts
    · simpa using h.log
    · simpa using h.panel

theorem judgeAll {s : State} (h : s.Parked) : s.judgeAll.Parked := by
  unfold State.judgeAll
  rw [h.verdicts]
  exact { h with verdicts := rfl }

theorem endStand {s : State} (h : s.Parked) : s.endStand.Parked := by
  unfold State.endStand
  split
  · exact h.rollChange.judgeAll
  · exact h.judgeAll

end State.Parked

/-- What a RESTART keeps is parked (R192). -/
theorem restarted_parked {u : State} (h : u.Sound ∨ u.Parked) (due : Option Nat) : State.Parked
    { pending := u.pending
      now := u.now
      choices := u.choices
      sets := u.sets
      rate := { rampDue := u.rate.rampDue }
      pat := u.pat
      reg := { raw := u.reg.raw, filtered := u.reg.raw }
      box := { zones := tabulate fun (z : Fin 4) => (u.zone z).restarted,
               converterDue := u.box.converterDue, secondsDue := u.box.secondsDue }
      dwell := { dwellDue := u.dwell.dwellDue }
      stand := u.stand.restarted due
      port := { response := u.port.response, sdo := u.port.sdo, ie := u.port.ie } } :=
  have hz (z : Fin 4) : (tabulate fun (y : Fin 4) => (u.zone y).restarted)[z] = (u.zone z).restarted := tabulate_get _ z
  { rests := rfl
    store := h.elim (·.store) (·.store)
    dancer := .inr rfl
    span := Nat.zero_le _
    bay := Nat.zero_le _
    outlet := Nat.zero_le _
    history := Nat.zero_le _
    log := h.elim (·.log) (·.log)
    owner := rfl
    off := fun z => congrArg Zone.state (hz z)
    debts := fun z => (congrArg Zone.debt (hz z)).trans_le (Nat.zero_le _)
    carries := (h.elim (·.carries) (·.carries)).restarted due
    mode := rfl
    unheard := fun id => congrArg Peer.presence (tabulate_get (fun _ : StationId => ({} : Peer)) id)
    correction := ⟨(h.elim (·.correction) (·.correction)).1, by show (-4095 : Int) ≤ 0 ∧ (0 : Int) ≤ 4095; decide⟩
    counts := ⟨Nat.zero_le _, Nat.zero_le _⟩
    sets := h.elim (·.sets) (·.sets)
    latch := rfl
    effective := rfl
    knife := rfl
    cur := rfl
    panel := rfl
    verdicts := rfl
    fault := rfl
    inForce := rfl
    idle := rfl
    advance := rfl
    stopResume := rfl
    marks := rfl
    onLink := rfl
    pubDue := rfl }

theorem State.Parked.beginSegment {s : State} (h : s.Parked) (k : SegmentKind) : (s.beginSegment k).Parked := { h with }

/-- The state after power-on is parked with its limits formed (R193). -/
theorem reset_parked : State.reset.Parked :=
  { rests := rfl, store := rfl, dancer := .inr rfl, span := Nat.zero_le _, bay := Nat.zero_le _, outlet := Nat.zero_le _
    history := Nat.zero_le _, log := Nat.zero_le _, owner := rfl, off := by decide, debts := by unfold State.DebtsBounded; decide
    carries := ⟨fun c => SpindleState.noConfusion c.1, fun c => SpindleState.noConfusion c.1⟩, mode := rfl
    unheard := by decide, correction := ⟨Nat.zero_le _, by decide⟩, counts := ⟨Nat.zero_le _, Nat.zero_le _⟩
    sets := ⟨rfl, rfl, rfl, rfl, rfl⟩, latch := rfl, effective := rfl, knife := rfl, cur := rfl, panel := rfl, verdicts := rfl
    fault := rfl, inForce := rfl, idle := rfl, advance := rfl, stopResume := rfl, marks := rfl, onLink := rfl, pubDue := rfl }

namespace State.Safe

theorem restart {s : State} (h : s.Safe) (args : List Byte) : Completes (.restart args) s State.Safe := by
  refine ⟨_, rfl, h.takeCommand _ _ _ _ fun _ _ => ?_⟩
  unfold State.restartStation
  have ht := (h.shiftOut (8 * (1 + args.length))).sound_or_parked.imp State.Sound.endStand State.Parked.endStand
  exact ((restarted_parked ht _).beginSegment .flow).limits_safe

/-- The state after power-on is safe, with any queue and choice counter. -/
theorem powerUp (s : State) : s.powerUp.Safe := by
  have hr : State.reset.LimitsCurrent := by unfold State.LimitsCurrent; decide
  have hp : s.powerUp.Parked := { reset_parked with }
  have hl : s.powerUp.LimitsCurrent := hr.update (fun u => { u with pending := s.pending, choices := s.choices }) rfl
  exact hl ▸ hp.limits_safe

theorem chosen {s : State} (h : s.Safe) : s.chosen.Safe := { h with limits := h.limits.update State.chosen rfl }

theorem powerOn {s : State} (h : s.Safe) (cause : ResetCause) : Completes (.powerOn cause) s State.Safe := by
  show ∃ t, execPowerOn cause s = .next t ∧ t.Safe
  unfold execPowerOn
  split
  · exact ⟨_, rfl, powerUp s⟩
  · split
    · exact ⟨_, rfl, powerUp s.chosen⟩
    · exact ⟨_, rfl, h.chosen⟩

end State.Safe

/-! ## Commands to the running station -/

theorem State.Sound.clearPlanner {s : State} (h : s.Sound) : s.clearPlanner.Sound := by
  unfold State.clearPlanner
  simp only
  split
  · split
    · exact { h with }
    · exact { h with }
  · split
    · exact { h with }
    · exact h

/-- With no spindle in a state no record stands in it. -/
theorem inState_eq_none {t : Stand} {st : SpindleState} (h : t.inState st = none) (id : SpindleId) : (t.spindle id).state ≠ st := by
  unfold Stand.inState at h
  split at h
  · cases h
  · split at h
    · cases h
    · cases id <;> assumption

/-- A roll that is loaded carries only where no other does (R136). -/
theorem Stand.OneCarries.loaded (s : State) (args : List Byte) :
    (s.stand.setSpindle (namedSpindle args) (s.loadedSpindle args)).OneCarries := by
  have hnone (st : SpindleState) (hst : st ≠ .loaded) (c : (s.loadedSpindle args).state = st) : s.stand.inState st = none := by
    unfold State.loadedSpindle at c
    simp only at c
    split at c
    · exact absurd c.symm hst
    · rename_i hs
      rw [← c]
      simpa using hs
  refine Stand.OneCarries.setSpindle _ _ (fun c => ?_) fun c => ?_
  · exact inState_eq_none (hnone _ (fun e => SpindleState.noConfusion e) c) _
  · exact inState_eq_none (hnone _ (fun e => SpindleState.noConfusion e) c) _

namespace State.Safe

theorem clearFault {s : State} (h : s.Safe) (args : List Byte) : Completes (.clearFault args) s State.Safe := by
  refine ⟨_, rfl, h.takeCommand _ _ _ _ fun _ hr => ?_⟩
  have hf : s.port.state = .fault := by
    have := refusalOf_eq_none.mp (countRefusal_eq_none hr).2 _ (List.mem_cons_self)
    simpa using this
  have hs := (h.shiftOut (8 * (1 + args.length))).sound (fun c => StationState.noConfusion (hf.symm.trans c))
  generalize s.shiftOut (8 * (1 + args.length)) = t at hs ⊢
  unfold State.clearFaultNow
  refine State.Sound.settle_safe (State.Sound.clearPlanner ?_)
  exact { hs with
    runs := fun c => StationState.noConfusion c
    silent := fun c => StationState.noConfusion c
    span := Nat.zero_le _
    bay := Nat.zero_le _
    history := Nat.zero_le _
    counts := ⟨Nat.zero_le _, hs.counts.2⟩ }

/-- The states in which STOP and RESUME are accepted are running ones (R6). -/
theorem sound_of_sending {s : State} (h : s.Safe) (hs : s.sending = true) : s.Sound := by
  refine h.sound fun c => ?_
  simp [State.sending, c] at hs

theorem stop {s : State} (h : s.Safe) (args : List Byte) : Completes (.stop args) s State.Safe := by
  refine ⟨_, rfl, h.takeCommand _ _ _ _ fun _ hr => ?_⟩
  have hsend : s.sending = true := by
    simpa using refusalOf_eq_none.mp (countRefusal_eq_none hr).2 _ (List.mem_cons_self)
  exact (((sound_of_sending (h.shiftOut _) hsend).setLatch _).handStopResume _).settle_safe

theorem resume {s : State} (h : s.Safe) (args : List Byte) : Completes (.resume args) s State.Safe := by
  refine ⟨_, rfl, h.takeCommand _ _ _ _ fun _ hr => ?_⟩
  have hsend : s.sending = true := by
    simpa using refusalOf_eq_none.mp (countRefusal_eq_none hr).2 _ (List.mem_cons_self)
  exact ((((sound_of_sending (h.shiftOut _) hsend).clearLatch).handStopResume _).keepWarmExit).settle_safe

theorem wake {s : State} (h : s.Safe) (args : List Byte) : Completes (.wake args) s State.Safe := by
  refine ⟨_, rfl, h.takeCommand _ _ _ _ fun _ hr => ?_⟩
  have hrun : s.running = true := by
    simpa using refusalOf_eq_none.mp (countRefusal_eq_none hr).2 _ (List.mem_cons_self)
  exact ((h.shiftOut _).sound_of_running hrun).keepWarmExit.settle_safe

theorem loadRoll {s : State} (h : s.Safe) (args : List Byte) : Completes (.loadRoll args) s State.Safe := by
  refine ⟨_, rfl, h.takeCommand _ _ _ _ fun _ _ => ?_⟩
  have hc := Stand.OneCarries.loaded (s.shiftOut (8 * (1 + args.length))) args
  unfold State.loadRoll
  exact settle_safe_of ((h.shiftOut _).sound_or_parked.imp (·.setSpindle hc) (·.setSpindle hc))

theorem unload {s : State} (h : s.Safe) (args : List Byte) : Completes (.unload args) s State.Safe := by
  refine ⟨_, rfl, h.takeCommand _ _ _ _ fun _ _ => ?_⟩
  have hc : ((s.shiftOut (8 * (1 + args.length))).stand.setSpindle (namedSpindle args) {}).OneCarries :=
    Stand.OneCarries.setSpindle_idle _ _ (fun c => SpindleState.noConfusion c) fun c => SpindleState.noConfusion c
  exact settle_safe_of ((h.shiftOut _).sound_or_parked.imp (·.setSpindle hc) (·.setSpindle hc))

theorem clearZone {s : State} (h : s.Safe) (args : List Byte) : Completes (.clearZone args) s State.Safe := by
  refine ⟨_, rfl, h.takeCommand _ _ _ _ fun _ hr => ?_⟩
  have hr := (countRefusal_eq_none hr).2
  simp only [State.clearZoneRefusal, refusalOf_eq_none, List.forall_mem_cons, List.not_mem_nil, false_implies, implies_true,
    and_true, Bool.not_eq_false', bne_eq_false_iff_eq] at hr
  obtain ⟨hrun, _, hfault, _⟩ := hr
  have hs := (h.shiftOut (8 * (1 + args.length))).sound_of_running hrun
  have hz : ((s.shiftOut (8 * (1 + args.length))).zone ((s.zoneArg args).getD 0)).state = .fault := hfault
  generalize s.shiftOut (8 * (1 + args.length)) = t at hs hz ⊢
  generalize (s.zoneArg args).getD 0 = z at hz ⊢
  unfold State.clearZone
  refine State.Sound.settle_safe (hs.setZone ?_ ?_)
  · rw [hz]
    refine ⟨fun c => ?_, fun c => ZoneState.noConfusion c⟩
    split at c
    · exact absurd c (toKeepWarm_state _ _).1
    · cases c
  · split
    · rw [toKeepWarm_debt]; exact hs.debts z
    · exact hs.debts z

/-! ## Reads, the Event Unit and the commands without effect -/

theorem readStatus {s : State} (h : s.Safe) (args : List Byte) : Completes (.readStatus args) s State.Safe := by
  refine ⟨_, rfl, ?_⟩
  unfold State.answer
  split
  · exact (h.shiftOut _).respond _
  · exact (h.shiftOut _).respond _

theorem readPeerView {s : State} (h : s.Safe) (args : List Byte) : Completes (.readPeerView args) s State.Safe :=
  ⟨_, rfl, h.takeCommand _ _ _ _ fun _ _ => h.shiftOut _⟩

theorem readQueues {s : State} (h : s.Safe) (args : List Byte) : Completes (.readQueues args) s State.Safe :=
  ⟨_, rfl, h.takeCommand _ _ _ _ fun _ _ => h.shiftOut _⟩

theorem dropLog {s : State} (h : s.Safe) (count : Nat) : (s.dropLog count).Safe := by
  obtain ⟨hspan, hbay, houtlet, hmarks, hhistory, hverdicts, hlog⟩ := h.queues
  exact { h with
    limits := h.limits.update (·.dropLog count) rfl
    queues := ⟨hspan, hbay, houtlet, hmarks, hhistory, hverdicts, by simp; omega⟩ }

theorem readPanelLog {s : State} (h : s.Safe) (args : List Byte) : Completes (.readPanelLog args) s State.Safe :=
  ⟨_, rfl, h.takeCommand _ _ _ _ fun _ _ => (h.shiftOut _).dropLog _⟩

/-- The bits of the Event Unit may take any value. -/
theorem withEvents {s : State} (h : s.Safe) (ip ius ie : BitVec 7) :
    State.Safe { s with port.ip := ip, port.ius := ius, port.ie := ie } :=
  { h with limits := h.limits.update (fun u => { u with port.ip := ip, port.ius := ius, port.ie := ie }) rfl }

theorem eventEnable {s : State} (h : s.Safe) (args : List Byte) : Completes (.eventEnable args) s State.Safe :=
  ⟨_, rfl, h.takeCommand _ _ _ _ fun _ _ => (h.shiftOut _).withEvents _ _ _⟩

theorem eventAcknowledge {s : State} (h : s.Safe) (args : List Byte) : Completes (.eventAcknowledge args) s State.Safe := by
  refine ⟨_, rfl, h.takeCommand _ _ _ _ fun _ _ => ?_⟩
  unfold State.acknowledge
  split
  · exact h.shiftOut _
  · exact (h.shiftOut _).withEvents _ _ _

theorem eventEnd {s : State} (h : s.Safe) (args : List Byte) : Completes (.eventEnd args) s State.Safe := by
  refine ⟨_, rfl, h.takeCommand _ _ _ _ fun _ _ => ?_⟩
  unfold State.endService
  split
  · exact h.shiftOut _
  · exact (h.shiftOut _).withEvents _ _ _

theorem eventClear {s : State} (h : s.Safe) (args : List Byte) : Completes (.eventClear args) s State.Safe :=
  ⟨_, rfl, h.takeCommand _ _ _ _ fun _ _ => (h.shiftOut _).withEvents _ _ _⟩

theorem fetch {s : State} (h : s.Safe) (bytes : Nat) : Completes (.fetch bytes) s State.Safe := ⟨_, rfl, h.shiftOut _⟩

theorem transactionDiscarded {s : State} (h : s.Safe) (edges : Nat) : Completes (.transactionDiscarded edges) s State.Safe :=
  ⟨_, rfl, h.shiftOut _⟩

theorem unknownCommand {s : State} (h : s.Safe) (command : Byte) (args : List Byte) :
    Completes (.unknownCommand command args) s State.Safe := by
  show ∃ t, execUnknownCommand command args s = .next t ∧ t.Safe
  unfold execUnknownCommand
  split
  · exact ⟨s, rfl, h⟩
  · exact ⟨_, rfl, h.takeCommand _ _ _ _ fun _ c => by cases c⟩

end State.Safe
end Sys2Proof.Machine
end

section
namespace Sys2Proof.Machine

/-! # Every step keeps Safe: rates, runs, steps, pulses and the knife -/

/-- The table of R11 keeps rates legal. -/
theorem rampRate_legal {e r : Nat} (he : legalRate e) (hr : legalRate r) (latch : Bool) (up down : Nat) :
    legalRate (rampRate latch e r up down) := by
  unfold legalRate at *
  unfold rampRate
  split
  · exact .inl rfl
  · split
    · exact he
    · split
      · omega
      · split
        · omega
        · split
          · exact .inl rfl
          · omega

theorem rampRate_latched (e r up down : Nat) : rampRate true e r up down = 0 := rfl

theorem dancerLimitAfter_cases (feed : FeedSet) {limit : Nat} (h : limit = 0 ∨ limit = 60000) (level : Nat) :
    dancerLimitAfter feed limit level = 0 ∨ dancerLimitAfter feed limit level = 60000 := by
  unfold dancerLimitAfter
  split
  · split
    · exact .inl rfl
    · exact .inr rfl
  · split
    · exact .inr rfl
    · exact h

namespace State.Sound

theorem tripTest {s : State} (h : s.Sound) (level : Nat) : (s.tripTest level).Sound := by
  unfold State.tripTest
  split
  · exact h
  · split
    · exact h.raiseFault _
    · exact h

/-! ## The planner's decisions and steps -/

theorem beginStepping {s : State} (h : s.Sound) : s.beginStepping.Sound := { h with }

theorem startPanel {s : State} (h : s.Sound) : s.startPanel.Sound := by
  have ht : State.Sound { s with leader.start := s.knifePoint, leader.outlet := s.web.o } := { h with }
  have hu := (ht.announceOwn (.panel s.panelNumber) s.web.o).rewind
  unfold State.startPanel
  simp only
  generalize State.rewind _ = u at hu ⊢
  exact { hu with }

theorem decidePanel {s : State} (h : s.Sound) : s.decidePanel.Sound := by
  unfold State.decidePanel
  split
  · exact h.startPanel
  · exact (h.setTarget _).enterBridge

theorem afterAbort {s : State} (h : s.Sound) : s.afterAbort.Sound := by
  have ht : State.Sound { s.rewind with leader.aborts := satInc s.leader.aborts, leader.number := nextPanelNumber s.leader.number } :=
    { h with }
  unfold State.afterAbort
  simp only
  split
  · exact ht.enterBridge
  · exact ht.enterPending

theorem abortPanel {s : State} (h : s.Sound) : s.abortPanel.Sound := (h.announceOwn _ _).afterAbort

theorem panelEnd {s : State} (h : s.Sound) : s.panelEnd.Sound := by
  unfold State.panelEnd
  split
  · exact { h with }
  · exact h.abortPanel
  · exact h.enterWaiting
  · exact h

theorem completeStep {s : State} (h : s.Sound) (c : StepInfo) : (s.completeStep c).Sound := by
  have ht : State.Sound { s with cad.cur := some { c with complete := true } } := { h with }
  unfold State.completeStep
  simp only
  split
  · exact ht.panelEnd
  · exact ht

theorem countOverrun {s : State} (h : s.Sound) : s.countOverrun.Sound := by
  unfold State.countOverrun
  split
  · exact h
  · exact { h with }

theorem openRegistration {s : State} (h : s.Sound) : s.openRegistration.Sound := by
  unfold State.openRegistration
  split
  · exact { h with }
  · exact h

theorem startCadenceStep {s : State} (h : s.Sound) (st : Step) : (s.startCadenceStep st).Sound := { h with }

theorem registerStep {s : State} (h : s.Sound) (st : Step) : (s.registerStep st).Sound := by
  have moved {t : State} (ht : t.Sound) : State.Sound { t with reg.nominal := t.reg.nominal + toPos st.pitch } := { ht with }
  unfold State.registerStep
  split
  · refine moved ?_
    split
    · exact h.openExpectation _
    · exact h
  · exact h

theorem takeFeed {s : State} (h : s.Sound) (pitch : Nat) : (s.takeFeed pitch).2.Sound := by
  unfold State.takeFeed
  split
  · exact { h with }
  · exact h

theorem startFold {s : State} (h : s.Sound) (st : Step) : (s.startFold st).Sound := by
  have ht := h.takeFeed st.pitch
  unfold State.startFold
  generalize s.takeFeed st.pitch = x at ht ⊢
  exact { ht with }

theorem startFlat {s : State} (h : s.Sound) (st : Step) : (s.startFlat st).Sound := { h with }

theorem takeStep {s : State} (h : s.Sound) (st : Step) : (s.takeStep st).Sound := by
  have ht := (h.openRegistration.startCadenceStep st).registerStep st
  unfold State.takeStep
  simp only
  split
  · exact ht.startFlat st
  · exact ht.startFold st

theorem stepBoundary {s : State} (h : s.Sound) (st : Step) : (s.stepBoundary st).Sound := by
  unfold State.stepBoundary
  split
  · exact h.abortPanel
  · split
    · exact h.takeStep st
    · exact (h.setTarget _).abortPanel
  · exact h.takeStep st
  · exact h.takeStep st
  · exact h.takeStep st

/-! ## Pulses and phases -/

theorem countPulse {s : State} (h : s.Sound) : s.countPulse.Sound := { h with }

theorem flatPulse {s : State} (h : s.Sound) (c : StepInfo) : (s.flatPulse c).Sound := by
  have ht := (h.reachTime (s.flatPulseAt c)).countPulse
  unfold State.flatPulse
  simp only
  refine flowPulse (fun hx => ?_) ?_
  · split
    · exact hx.completeStep c
    · exact hx
  · exact { ht with }

theorem continuousPulse {s : State} (h : s.Sound) : s.continuousPulse.Sound := by
  refine flowPulse (fun hx => ?_) (h.reachTime _).countPulse
  split
  · exact hx.enterPending
  · exact hx

theorem feedStep {s : State} (h : s.Sound) (c : Cycle) : (s.feedStep c).Sound := by
  unfold State.feedStep
  simp only
  split
  · exact { h with }
  · exact { h with }

theorem feedPulse {s : State} (h : s.Sound) (c : Cycle) : (s.feedPulse c).Sound :=
  ((h.reachTime _).feedStep c).nipPulse.nipEffects

theorem enterPhase {s : State} (h : s.Sound) (p : KnifePhase) (ms : Nat) : (s.enterPhase p ms).Sound := { h with }

theorem pressEnd {s : State} (h : s.Sound) : s.pressEnd.Sound := ((h.reachTime _).enterPhase _ _).creditFold _

end State.Sound

/-- An effective rate set to what it is stays as it is. -/
theorem setEffective_same {s : State} {e : Nat} (h : e = s.rate.effective) : s.setEffective e = s := by
  unfold State.setEffective
  exact if_pos h

namespace State.Safe

/-- A station with an effective rate above 0 runs. -/
theorem sound_of_effective {s : State} (h : s.Safe) (he : 0 < s.rate.effective) : s.Sound := by
  refine h.sound fun c => ?_
  have := (h.parked c).effective
  omega

/-- A station whose knife is not as after power-on runs. -/
theorem sound_of_knife {s : State} (h : s.Safe) (hk : s.knife ≠ {}) : s.Sound := h.sound fun c => hk (h.parked c).knife

theorem rampTimerExpiry {s : State} (h : s.Safe) : Completes .rampTimerExpiry s State.Safe := by
  refine ⟨_, rfl, ?_⟩
  have hl : s.rate.latch = true → rampRate s.rate.latch s.rate.effective s.rate.resolved s.sets.line.up s.sets.line.down = 0 := by
    intro c
    rw [c, rampRate_latched]
  have he := rampRate_legal h.rates.2.2 h.rates.2.1 s.rate.latch s.sets.line.up s.sets.line.down
  by_cases hc : s.port.state = .config
  · have hp := h.parked hc
    have h0 : rampRate s.rate.latch s.rate.effective s.rate.resolved s.sets.line.up s.sets.line.down = s.rate.effective := by
      obtain ⟨_, _, hres, _⟩ := h.config hc
      rw [hp.latch, hp.effective, hres]
      rfl
    have ht : State.Parked { s.reachTime s.rate.rampDue with rate.rampDue := s.rate.rampDue + 10000 } := { hp with }
    rw [setEffective_same (s := { s.reachTime s.rate.rampDue with rate.rampDue := s.rate.rampDue + 10000 }) h0]
    exact ht.settle_safe
  · have ht : State.Sound { s.reachTime s.rate.rampDue with rate.rampDue := s.rate.rampDue + 10000 } := { h.sound hc with }
    exact (ht.setEffective he hl).settle_safe

theorem dancerSample {s : State} (h : s.Safe) (level : BitVec 10) : Completes (.dancerSample level) s State.Safe := by
  show ∃ t, execDancerSample level s = .next t ∧ t.Safe
  unfold execDancerSample
  split
  · rename_i hd
    simp only [State.samplesDancer, Bool.and_eq_true] at hd
    have ht := (h.sound_of_running hd.2).reachTime s.cad.sampleDue
    refine ⟨_, rfl, ?_⟩
    unfold State.sampleDancer
    refine State.Sound.settle_safe (State.Sound.tripTest ?_ _)
    exact { ht with dancer := dancerLimitAfter_cases _ h.rates.1 _ }
  · exact ⟨s, rfl, h⟩

/-- Where a run can begin the station runs. -/
theorem sound_of_runCanBegin {s : State} (h : s.Safe) (hr : s.runCanBegin = true) : s.Sound := by
  simp only [State.runCanBegin, Bool.and_eq_true, decide_eq_true_eq] at hr
  exact h.sound_of_effective hr.2

/-- The planner, the cadence and the segment of a station that runs may take any value. -/
theorem withRun {s : State} (h : s.Safe) (hr : s.port.state ≠ .config) (c : Cadence) (l : Leader) (g : Segment) :
    State.Safe { s with cad := c, leader := l, web.seg := g } :=
  { h with
    limits := h.limits.update (fun u => { u with cad := c, leader := l, web.seg := g }) rfl
    config := fun k => absurd k hr }

theorem beginRun {s : State} (h : s.Safe) (hr : s.port.state ≠ .config) : s.beginRun.Safe := by
  unfold State.beginRun
  split
  · exact h.withRun hr _ _ _
  · split
    · exact h.withRun hr _ _ _
    · exact h.withRun hr _ _ _

theorem runBegin {s : State} (h : s.Safe) : Completes .runBegin s State.Safe := by
  show ∃ t, execRunBegin s = .next t ∧ t.Safe
  unfold execRunBegin
  split
  · rename_i hd
    simp only [State.runDue, Bool.and_eq_true] at hd
    exact ⟨_, rfl, h.beginRun (h.sound_of_runCanBegin hd.1.1.2).runs⟩
  · exact ⟨s, rfl, h⟩

theorem panelDecision {s : State} (h : s.Safe) : Completes .panelDecision s State.Safe := by
  show ∃ t, execPanelDecision s = .next t ∧ t.Safe
  unfold execPanelDecision
  split
  · rename_i hd
    simp only [State.decisionDue, Bool.and_eq_true] at hd
    exact ⟨_, rfl, (h.sound_of_runCanBegin hd.2).decidePanel.settle_safe⟩
  · exact ⟨s, rfl, h⟩

theorem stepStart {s : State} (h : s.Safe) : Completes .stepStart s State.Safe := by
  show ∃ t, execStepStart s = .next t ∧ t.Safe
  unfold execStepStart
  split
  · exact ⟨s, rfl, h⟩
  · split
    · rename_i hd
      simp only [State.stepDue, Bool.and_eq_true] at hd
      exact ⟨_, rfl, ((h.sound_of_runCanBegin hd.1.2).stepBoundary _).settle_safe⟩
    · exact ⟨s, rfl, h⟩

theorem decodeEnd {s : State} (h : s.Safe) : Completes .decodeEnd s State.Safe := by
  show ∃ t, execDecodeEnd s = .next t ∧ t.Safe
  unfold execDecodeEnd
  split
  · split
    · exact ⟨s, rfl, h⟩
    · rename_i d _
      exact ⟨_, rfl, { h with limits := h.limits.update (fun u => { u with dec := d }) rfl }⟩
  · exact ⟨s, rfl, h⟩

theorem stepTimerExpiry {s : State} (h : s.Safe) : Completes .stepTimerExpiry s State.Safe := by
  show ∃ t, execStepTimerExpiry s = .next t ∧ t.Safe
  unfold execStepTimerExpiry
  split
  · exact ⟨s, rfl, h⟩
  · rename_i c hd
    have hs : s.Sound := h.sound fun k => by
      rw [State.timedFold, (h.parked k).cur] at hd
      cases hd
    exact ⟨_, rfl, ((((hs.reachTime _).countOverrun).completeStep c)).settle_safe⟩

theorem flatStepPulse {s : State} (h : s.Safe) : Completes .flatStepPulse s State.Safe := by
  show ∃ t, execFlatStepPulse s = .next t ∧ t.Safe
  unfold execFlatStepPulse
  split
  · exact ⟨s, rfl, h⟩
  · rename_i c hd
    have hs : s.Sound := h.sound fun k => by
      rw [State.flatDue, (h.parked k).cur] at hd
      cases hd
    exact ⟨_, rfl, (hs.flatPulse c).settle_safe⟩

theorem continuousPulse {s : State} (h : s.Safe) : Completes .continuousPulse s State.Safe := by
  show ∃ t, execContinuousPulse s = .next t ∧ t.Safe
  unfold execContinuousPulse
  split
  · rename_i hd
    simp only [State.continuousDue, Bool.and_eq_true, decide_eq_true_eq] at hd
    exact ⟨_, rfl, (h.sound_of_effective hd.2).continuousPulse.settle_safe⟩
  · exact ⟨s, rfl, h⟩

theorem feedPulse {s : State} (h : s.Safe) : Completes .feedPulse s State.Safe := by
  show ∃ t, execFeedPulse s = .next t ∧ t.Safe
  unfold execFeedPulse
  split
  · exact ⟨s, rfl, h⟩
  · rename_i c hd
    have hs : s.Sound := h.sound_of_knife fun k => by
      rw [State.feedDue, k] at hd
      cases hd
    exact ⟨_, rfl, (hs.feedPulse c).settle_safe⟩

/-- A knife outside IDLE is not as after power-on. -/
theorem sound_of_phase {s : State} (h : s.Safe) (hp : s.knife.phase ≠ .idle) : s.Sound :=
  h.sound_of_knife fun c => hp (by rw [c])

/-- A knife that a set latch finds neither in TUCK nor in FEED may be put in place. -/
theorem withKnife {s : State} (h : s.Safe) (hr : s.port.state ≠ .config) (due : Nat) {k : Knife} (ht : k.phase ≠ .tuck)
    (hf : k.phase ≠ .feed) : State.Safe { s.reachTime due with knife := k } :=
  { h with
    limits := h.limits.update (fun u => { u.reachTime due with knife := k }) rfl
    knife := fun _ => ⟨ht, fun c => absurd c hf⟩
    config := fun c => absurd c hr }

theorem tuckEnd {s : State} (h : s.Safe) : Completes .tuckEnd s State.Safe := by
  show ∃ t, execTuckEnd s = .next t ∧ t.Safe
  unfold execTuckEnd
  split
  · rename_i hp
    have hs := h.sound_of_phase (fun c => KnifePhase.noConfusion (hp.symm.trans c))
    exact ⟨_, rfl, h.withKnife hs.runs _ (fun c => KnifePhase.noConfusion c) fun c => KnifePhase.noConfusion c⟩
  · exact ⟨s, rfl, h⟩

theorem pressEnd {s : State} (h : s.Safe) : Completes .pressEnd s State.Safe := by
  show ∃ t, execPressEnd s = .next t ∧ t.Safe
  unfold execPressEnd
  split
  · rename_i hp
    have hs := h.sound_of_phase (fun c => KnifePhase.noConfusion (hp.symm.trans c))
    exact ⟨_, rfl, hs.pressEnd.settle_safe⟩
  · exact ⟨s, rfl, h⟩

theorem knifeIdle {s : State} (h : s.Safe) (hp : s.knife.phase ≠ .idle) : s.knifeIdle.Safe :=
  h.withKnife (h.sound_of_phase hp).runs _ (fun c => KnifePhase.noConfusion c) fun c => KnifePhase.noConfusion c

theorem releaseEnd {s : State} (h : s.Safe) : Completes .releaseEnd s State.Safe := by
  show ∃ t, execReleaseEnd s = .next t ∧ t.Safe
  unfold execReleaseEnd
  split
  · rename_i hp
    exact ⟨_, rfl, h.knifeIdle (fun c => KnifePhase.noConfusion (hp.symm.trans c))⟩
  · exact ⟨s, rfl, h⟩

theorem abortingEnd {s : State} (h : s.Safe) : Completes .abortingEnd s State.Safe := by
  show ∃ t, execAbortingEnd s = .next t ∧ t.Safe
  unfold execAbortingEnd
  split
  · rename_i hp
    exact ⟨_, rfl, h.knifeIdle (fun c => KnifePhase.noConfusion (hp.symm.trans c))⟩
  · exact ⟨s, rfl, h⟩

end State.Safe
end Sys2Proof.Machine
end

section
namespace Sys2Proof.Machine

/-! # Every step keeps Safe: the sensors, the zones and the stand -/

theorem detect_config {s : State} (h : s.port.state = .config) : s.detect = s := by
  unfold State.detect State.running
  rw [if_neg]
  rw [h]
  simp

namespace State.Parked

theorem setFiltered {s : State} (h : s.Parked) (ch : Fin 8) (b : Bool) : (s.setFiltered ch b).Parked := by
  have ht : State.Parked { s with reg.filtered := setLevel s.reg.filtered ch b } := { h with }
  unfold State.setFiltered
  simp only
  split
  · rw [detect_config ht.rests]
    exact ht
  · exact ht

/-- In CONFIG a zone that is OFF may be put in place. -/
theorem setZone {s : State} (h : s.Parked) {z : Fin 4} {r : Zone} (hr : r.state = .off) (hd : r.debt ≤ 3) : (s.setZone z r).Parked :=
  { h with
    off := fun y => by
      rw [setZone_zone]
      split
      · exact hr
      · exact h.off y
    debts := fun y => by
      rw [setZone_zone]
      split
      · exact hd
      · exact h.debts y }

theorem sampleZone {s : State} (h : s.Parked) (z : Fin 4) (raw : BitVec 12) : (s.sampleZone z raw).Parked := by
  have hr : ((s.zone z).sampled s.sets.box raw).state = .off := h.off z
  unfold State.sampleZone
  split
  · unfold State.sampleActs
    rw [hr]
    exact h.setZone hr (h.debts z)
  · exact h

theorem zoneSecond {s : State} (h : s.Parked) (z : Fin 4) : (s.zoneSecond z).Parked := by
  unfold State.zoneSecond
  rw [if_neg (fun c => ZoneState.noConfusion ((h.off z).symm.trans c))]
  exact h

theorem armSpindle {s : State} (h : s.Parked) (id : SpindleId) : (s.armSpindle id).Parked := by
  have ht := h.setSpindle (Stand.OneCarries.setSpindle_idle (t := s.stand) id { s.stand.spindle id with state := .arming }
    (fun c => SpindleState.noConfusion c) fun c => SpindleState.noConfusion c)
  exact { ht with }

end State.Parked

/-! ## Zones -/

@[simp] theorem heated_state (r : Zone) (b : BoxSet) (z : Fin 4) : (r.heated b z).state = r.state := by
  unfold Zone.heated
  simp only
  split
  · rfl
  · split <;> rfl

@[simp] theorem heated_debt (r : Zone) (b : BoxSet) (z : Fin 4) : (r.heated b z).debt = r.debt := by
  unfold Zone.heated
  simp only
  split
  · rfl
  · split <;> rfl

/-- The band rules move no zone into or out of PURGE and no debt. -/
theorem banded_purge_debt (r : Zone) (b : BoxSet) (z : Fin 4) (now : Nat) :
    ((r.banded b z now).state = .purge ↔ r.state = .purge) ∧ (r.banded b z now).debt = r.debt := by
  unfold Zone.banded
  split
  · rename_i hr
    split
    · split <;> exact ⟨by simp [hr], rfl⟩
    · exact ⟨by simp [hr], rfl⟩
  · rename_i hr
    split <;> exact ⟨by simp [hr, Zone.toWarming], rfl⟩
  · rename_i hr
    split <;> exact ⟨by simp [hr, Zone.toWarming], rfl⟩
  all_goals exact ⟨Iff.rfl, rfl⟩

theorem countSecond_state (r : Zone) (interval : Nat) : (r.countSecond interval).state = r.state := by
  unfold Zone.countSecond
  split <;> rfl

theorem countSecond_debt {r : Zone} (h : r.debt ≤ 3) (interval : Nat) : (r.countSecond interval).debt ≤ 3 := by
  unfold Zone.countSecond
  split
  · exact min_le_right _ _
  · exact h

theorem purged_state (r : Zone) (b : BoxSet) (z : Fin 4) : (r.purged b z).state ≠ .purge ∧ (r.purged b z).debt = 0 := by
  unfold Zone.purged
  simp only
  split <;> exact ⟨fun c => ZoneState.noConfusion c, rfl⟩

namespace State.Sound

/-- A zone's event with a record in PURGE exactly where the old one was. -/
theorem zoneEvent {s : State} (h : s.Sound) {z : Fin 4} {r : Zone} (hr : r.state = .purge ↔ (s.zone z).state = .purge)
    (hd : r.debt ≤ 3) (e : ZoneEvent) : (s.zoneEvent z r e).Sound := by
  unfold State.zoneEvent
  refine State.Sound.signal (h.setZone ?_ ?_) _
  · exact hr
  · exact hd

theorem zoneFault {s : State} (h : s.Sound) {z : Fin 4} {r : Zone} (cause : ZoneCause) (hd : r.debt ≤ 3) :
    (s.zoneFault z r cause).Sound := by
  unfold State.zoneFault State.zoneEvent
  refine State.Sound.signal ?_ _
  split
  · exact h.endPurge ‹_› (fun c => ZoneState.noConfusion c) hd
  · rename_i ho
    exact h.setZone ⟨fun c => ZoneState.noConfusion c, fun c => absurd ((h.drain z).mp c) ho⟩ hd

/-- A zone's sample keeps a running station sound (R99 to R106). -/
theorem sampleActs {s : State} (h : s.Sound) {z : Fin 4} {r : Zone} (hs : r.state = (s.zone z).state) (hd : r.debt ≤ 3) :
    (s.sampleActs z r).Sound := by
  have hheated : (match zoneCauseOf s.sets.box z r s.choice with
      | some cause => (if overTemperature s.sets.box z r ∧ r.sensorFault = true then s.chosen else s).zoneFault z r cause
      | none => s.setZone z ((r.heated s.sets.box z).banded s.sets.box z s.now)).Sound := by
    split
    · split
      · exact h.chosen.zoneFault _ hd
      · exact h.zoneFault _ hd
    · obtain ⟨hp, hb⟩ := banded_purge_debt (r.heated s.sets.box z) s.sets.box z s.now
      refine h.setZone (hp.trans ?_) (hb ▸ ?_)
      · rw [heated_state, hs]
      · rw [heated_debt]; exact hd
  unfold State.sampleActs
  split
  · exact h.setZone (by rw [hs]) hd
  · exact h.setZone (by rw [hs]) hd
  all_goals exact hheated

theorem sampleZone {s : State} (h : s.Sound) (z : Fin 4) (raw : BitVec 12) : (s.sampleZone z raw).Sound := by
  unfold State.sampleZone
  split
  · exact h.sampleActs rfl (h.debts z)
  · exact h

theorem zoneSecond {s : State} (h : s.Sound) (z : Fin 4) : (s.zoneSecond z).Sound := by
  have hd := countSecond_debt (h.debts z) s.sets.box.purgeInterval
  unfold State.zoneSecond
  split
  · rename_i ho
    simp only
    split
    · have ht : State.Sound (s.zoneEvent z { (s.zone z).countSecond s.sets.box.purgeInterval with state := .ready } .forcedClose) := by
        refine h.zoneEvent ?_ ?_ _
        case refine_2 => exact hd
        rw [ho]
        exact ⟨fun c => ZoneState.noConfusion c, fun c => ZoneState.noConfusion c⟩
      exact { ht with }
    · exact h.setZone (by rw [countSecond_state]) hd
  · exact h

/-! ## The stand -/

theorem standDistances {s : State} (h : s.Sound) : s.standDistances.Sound := by
  unfold State.standDistances
  split
  · exact h
  · exact { h with }
  · exact { h with }

theorem unwindTests {s : State} (h : s.Sound) : s.unwindTests.Sound := by
  unfold State.unwindTests
  split
  · exact h
  · rename_i id _
    simp only
    split
    · exact { h.armSpindle (otherSpindle id) with }
    · split
      · exact { h with }
      · exact h

theorem rewindTest {s : State} (h : s.Sound) : s.rewindTest.Sound := by
  unfold State.rewindTest
  split
  · exact h
  · split
    · exact { h with }
    · exact h

theorem standTest {s : State} (h : s.Sound) : s.standTest.Sound := by
  unfold State.standTest
  simp only
  split
  · exact h.standDistances
  · exact h.standDistances.unwindTests
  · exact h.standDistances.rewindTest

theorem placeSplice {s : State} (h : s.Sound) (j : Pos) (roll : Byte) : (s.placeSplice j roll).Sound := by
  unfold State.placeSplice
  split
  · exact h.announceOwn _ _
  · refine State.Sound.enterBay (State.Sound.spliceKnown ?_ j) _
    exact { h with }
  · exact h.enterBay _

theorem pasteNow {s : State} (h : s.Sound) (id : SpindleId) : (s.pasteNow id).Sound := by
  unfold State.pasteNow
  refine State.Sound.placeSplice ?_ _ _
  exact { h with }

end State.Sound

/-- An arming or synced record, or one back at LOADED, keeps a stand of which one spindle carries. -/
theorem Stand.OneCarries.armFailed (t : Stand) (id : SpindleId) :
    (t.setSpindle id { t.spindle id with state := .loaded, armFailed := true }).OneCarries :=
  Stand.OneCarries.setSpindle_idle _ _ (fun c => SpindleState.noConfusion c) fun c => SpindleState.noConfusion c

theorem Stand.OneCarries.synced (t : Stand) (id : SpindleId) :
    (t.setSpindle id { t.spindle id with state := .synced }).OneCarries :=
  Stand.OneCarries.setSpindle_idle _ _ (fun c => SpindleState.noConfusion c) fun c => SpindleState.noConfusion c

@[simp] theorem setSpeed_lists (t : Stand) (id : SpindleId) (b : Bool) :
    (t.setSpeed id b).a = t.a ∧ (t.setSpeed id b).b = t.b ∧ (t.setSpeed id b).verdicts = t.verdicts
      ∧ (t.setSpeed id b).log = t.log ∧ (t.setSpeed id b).panel = t.panel := by
  cases id <;> exact ⟨rfl, rfl, rfl, rfl, rfl⟩

theorem Stand.OneCarries.setSpeed {t : Stand} (h : t.OneCarries) (id : SpindleId) (b : Bool) : (t.setSpeed id b).OneCarries := by
  cases id <;> exact h

namespace State.Safe

/-! ## The fold sensor and the rest timer -/

theorem filterChange {s : State} (h : s.Sound ∨ s.Parked) (ch : Fin 8) (level : Bool) :
    (s.filterChange ch level).Sound ∨ (s.filterChange ch level).Parked := by
  have hd : ∀ due, (s.setDeskew ch due).Sound ∨ (s.setDeskew ch due).Parked := fun _ => h.imp (fun h => { h with }) fun h => { h with }
  unfold State.filterChange
  split
  · exact hd _
  · split
    · exact (hd _).imp (·.setFiltered _ _) (·.setFiltered _ _)
    · split
      · exact hd _
      · exact h

theorem foldSensorChange {s : State} (h : s.Safe) (ch : Fin 8) (level : Bool) : Completes (.foldSensorChange ch level) s State.Safe := by
  show ∃ t, execFoldSensorChange ch level s = .next t ∧ t.Safe
  unfold execFoldSensorChange
  split
  · exact ⟨s, rfl, h⟩
  · refine ⟨_, rfl, settle_safe_of (filterChange ?_ ch level)⟩
    exact h.sound_or_parked.imp (fun h => { h with }) fun h => { h with }

theorem deskewTimerExpiry {s : State} (h : s.Safe) (ch : Fin 8) : Completes (.deskewTimerExpiry ch) s State.Safe := by
  show ∃ t, execDeskewTimerExpiry ch s = .next t ∧ t.Safe
  unfold execDeskewTimerExpiry
  split
  · exact ⟨s, rfl, h⟩
  · rename_i due _
    have ht : ((s.reachTime due).setDeskew ch none).Sound ∨ ((s.reachTime due).setDeskew ch none).Parked :=
      h.sound_or_parked.imp (fun h => { h with }) fun h => { h with }
    exact ⟨_, rfl, settle_safe_of (ht.imp (·.setFiltered _ _) (·.setFiltered _ _))⟩

theorem restTimerExpiry {s : State} (h : s.Safe) : Completes .restTimerExpiry s State.Safe := by
  show ∃ t, execRestTimerExpiry s = .next t ∧ t.Safe
  unfold execRestTimerExpiry
  split
  · exact ⟨s, rfl, h⟩
  · refine ⟨_, rfl, settle_safe_of ?_⟩
    exact h.sound_or_parked.imp (fun h => { h with }) fun h => { h with }

/-! ## The zones' timers -/

theorem converterTimerExpiry {s : State} (h : s.Safe) (r0 r1 r2 r3 : BitVec 12) :
    Completes (.converterTimerExpiry r0 r1 r2 r3) s State.Safe := by
  refine ⟨_, rfl, settle_safe_of ?_⟩
  have ht : State.Sound { s.reachTime s.box.converterDue with box.converterDue := s.box.converterDue + 100000 }
      ∨ State.Parked { s.reachTime s.box.converterDue with box.converterDue := s.box.converterDue + 100000 } :=
    h.sound_or_parked.imp (fun h => { h with }) fun h => { h with }
  exact ht.imp (fun h => (((h.sampleZone 0 r0).sampleZone 1 r1).sampleZone 2 r2).sampleZone 3 r3)
    fun h => (((h.sampleZone 0 r0).sampleZone 1 r1).sampleZone 2 r2).sampleZone 3 r3

theorem settleTimerExpiry {s : State} (h : s.Safe) (z : Fin 4) : Completes (.settleTimerExpiry z) s State.Safe := by
  show ∃ t, execSettleTimerExpiry z s = .next t ∧ t.Safe
  unfold execSettleTimerExpiry
  split
  · exact ⟨s, rfl, h⟩
  · rename_i due _
    split
    · rename_i hw
      have hs := h.sound fun c => ZoneState.noConfusion (((h.parked c).off z).symm.trans hw)
      refine ⟨_, rfl, State.Sound.settle_safe (State.Sound.zoneEvent (hs.reachTime due) ?_ ?_ _)⟩
      case refine_2 => exact hs.debts z
      show ZoneState.ready = .purge ↔ (s.zone z).state = .purge
      rw [hw]
      exact ⟨fun c => ZoneState.noConfusion c, fun c => ZoneState.noConfusion c⟩
    · exact ⟨s, rfl, h⟩

theorem zoneSeconds (zs : List (Fin 4)) : ∀ {s : State}, s.Sound ∨ s.Parked →
    (zs.foldl State.zoneSecond s).Sound ∨ (zs.foldl State.zoneSecond s).Parked := by
  induction zs with
  | nil => intro s h; exact h
  | cons z zs ih => intro s h; exact ih (h.imp (·.zoneSecond z) (·.zoneSecond z))

theorem secondsTimerExpiry {s : State} (h : s.Safe) : Completes .secondsTimerExpiry s State.Safe := by
  refine ⟨_, rfl, settle_safe_of (zoneSeconds _ ?_)⟩
  exact h.sound_or_parked.imp (fun h => { h with }) fun h => { h with }

theorem purgeTimerExpiry {s : State} (h : s.Safe) : Completes .purgeTimerExpiry s State.Safe := by
  show ∃ t, execPurgeTimerExpiry s = .next t ∧ t.Safe
  unfold execPurgeTimerExpiry
  split
  · exact ⟨s, rfl, h⟩
  · rename_i z ho
    have hs := h.sound fun c => by
      have := ho.symm.trans (h.parked c).owner
      cases this
    obtain ⟨hp, hd⟩ := purged_state (s.zone z) s.sets.box z
    refine ⟨_, rfl, State.Sound.settle_safe ((hs.reachTime s.box.purgeDue).endPurge ho hp ?_)⟩
    rw [hd]
    exact Nat.zero_le _

theorem idleTimerExpiry {s : State} (h : s.Safe) : Completes .idleTimerExpiry s State.Safe := by
  show ∃ t, execIdleTimerExpiry s = .next t ∧ t.Safe
  unfold execIdleTimerExpiry
  split
  · rename_i due hi
    have hs := h.sound fun c => by
      have := hi.symm.trans (h.parked c).idle
      cases this
    refine ⟨_, rfl, State.Sound.settle_safe ?_⟩
    exact { hs with }
  · exact ⟨s, rfl, h⟩
  · exact ⟨s, rfl, h⟩

/-- The time, the dwell clock and the cells may take any value. -/
theorem withCells {s : State} (h : s.Safe) (now due : Nat) (cells : List DwellCell) :
    State.Safe { s with now := now, dwell.dwellDue := due, dwell.cells := cells } :=
  { h with limits := h.limits.update (fun s => { s with now := now, dwell.dwellDue := due, dwell.cells := cells }) rfl }

theorem dwellTimerExpiry {s : State} (h : s.Safe) : Completes .dwellTimerExpiry s State.Safe := by
  show ∃ t, execDwellTimerExpiry s = .next t ∧ t.Safe
  unfold execDwellTimerExpiry
  simp only
  split
  · exact ⟨_, rfl, h.withCells _ _ _⟩
  · exact ⟨_, rfl, h.withCells _ _ s.dwell.cells⟩

/-! ## The stand's rows -/

/-- The time and the stand's clock may take any value. -/
theorem withStandDue {s : State} (h : s.Safe) (now due : Nat) : State.Safe { s with now := now, stand.standDue := due } :=
  { h with limits := h.limits.update (fun s => { s with now := now, stand.standDue := due }) rfl }

theorem standTimerExpiry {s : State} (h : s.Safe) : Completes .standTimerExpiry s State.Safe := by
  show ∃ t, execStandTimerExpiry s = .next t ∧ t.Safe
  unfold execStandTimerExpiry
  simp only
  split
  · rename_i hr
    refine ⟨_, rfl, State.Sound.settle_safe (State.Sound.standTest ?_)⟩
    exact { h.sound_of_running hr with }
  · exact ⟨_, rfl, h.withStandDue _ _⟩

theorem speedRise {s : State} (h : s.Sound ∨ s.Parked) (id : SpindleId) : (s.speedRise id).Sound ∨ (s.speedRise id).Parked := by
  have ht : (s.setSpindle id { s.stand.spindle id with state := .synced }).Sound
      ∨ (s.setSpindle id { s.stand.spindle id with state := .synced }).Parked :=
    h.imp (·.setSpindle (Stand.OneCarries.synced _ id)) (·.setSpindle (Stand.OneCarries.synced _ id))
  unfold State.speedRise
  split
  · exact ht.imp (fun h => { h with }) fun h => { h with }
  · exact h

theorem speedFall {s : State} (h : s.Sound ∨ s.Parked) (id : SpindleId) : (s.speedFall id).Sound ∨ (s.speedFall id).Parked := by
  unfold State.speedFall
  split
  · exact h.imp (·.armSpindle id) (·.armSpindle id)
  · exact h

theorem setSpeed {s : State} (h : s.Sound ∨ s.Parked) (id : SpindleId) (level : Bool) :
    State.Sound { s with stand := s.stand.setSpeed id level } ∨ State.Parked { s with stand := s.stand.setSpeed id level } := by
  obtain ⟨_, _, hv, hl, hp⟩ := setSpeed_lists s.stand id level
  refine h.imp (fun h => ?_) fun h => ?_
  · exact h.withStand (h.carries.setSpeed id level) (hv ▸ h.verdicts) (hl ▸ h.log)
  · exact h.withStand (h.carries.setSpeed id level) (hv ▸ h.verdicts) (hl ▸ h.log) (hp ▸ h.panel)

theorem atSpeedChange {s : State} (h : s.Safe) (id : SpindleId) (level : Bool) : Completes (.atSpeedChange id level) s State.Safe := by
  show ∃ t, execAtSpeedChange id level s = .next t ∧ t.Safe
  unfold execAtSpeedChange
  split
  · exact ⟨s, rfl, h⟩
  · have ht := setSpeed h.sound_or_parked id level
    simp only
    refine ⟨_, rfl, settle_safe_of ?_⟩
    split
    · exact speedRise ht id
    · exact speedFall ht id

theorem armFail {s : State} (h : s.Sound ∨ s.Parked) (id : SpindleId) : (s.armFail id).Sound ∨ (s.armFail id).Parked := by
  have ht := h.imp (·.setSpindle (Stand.OneCarries.armFailed _ id)) (·.setSpindle (Stand.OneCarries.armFailed _ id))
  unfold State.armFail
  exact ht.imp (fun h => { h with }) fun h => { h with }

theorem armingTimerExpiry {s : State} (h : s.Safe) : Completes .armingTimerExpiry s State.Safe := by
  show ∃ t, execArmingTimerExpiry s = .next t ∧ t.Safe
  unfold execArmingTimerExpiry
  split
  · exact ⟨_, rfl, settle_safe_of (armFail (h.sound_or_parked.imp (·.reachTime _) (·.reachTime _)) _)⟩
  · exact ⟨s, rfl, h⟩

theorem paste {s : State} (h : s.Safe) : Completes .paste s State.Safe := by
  show ∃ t, execPaste s = .next t ∧ t.Safe
  unfold execPaste
  split
  · exact ⟨s, rfl, h⟩
  · rename_i id hp
    have hs : s.Sound := h.sound fun c => by
      unfold State.pasteDueNow at hp
      split at hp
      · rename_i hc
        obtain ⟨_, _, _, ha, _⟩ := hc
        exact StationState.noConfusion (ha.symm.trans c)
      · cases hp
    exact ⟨_, rfl, (hs.pasteNow id).settle_safe⟩

theorem pasteTimerExpiry {s : State} (h : s.Safe) : Completes .pasteTimerExpiry s State.Safe := by
  show ∃ t, execPasteTimerExpiry s = .next t ∧ t.Safe
  unfold execPasteTimerExpiry
  split
  · exact ⟨s, rfl, h⟩
  · exact ⟨_, rfl, settle_safe_of (h.sound_or_parked.imp (fun h => (h.reachTime _).rollChange) fun h => (h.reachTime _).rollChange)⟩

theorem cutPulseEnd {s : State} (h : s.Safe) : Completes .cutPulseEnd s State.Safe := by
  show ∃ t, execCutPulseEnd s = .next t ∧ t.Safe
  unfold execCutPulseEnd
  split
  · exact ⟨s, rfl, h⟩
  · rename_i due _
    exact ⟨_, rfl, { h with limits := h.limits.update (fun s => { s.reachTime due with stand.cutDue := none }) rfl }⟩

end State.Safe

end Sys2Proof.Machine
end

section
namespace Sys2Proof.Machine

/-! # Every step keeps Safe: the link -/

namespace State.Sound

theorem linkEvent {s : State} (h : s.Sound) (cause : LinkCause) (peer : Option StationId) : (s.linkEvent cause peer).Sound := { h with }

theorem enterSilent {s : State} (h : s.Sound) : s.enterSilent.Sound := by
  unfold State.enterSilent
  refine State.Sound.linkEvent ?_ _ _
  exact { h with
    runs := fun c => StationState.noConfusion c
    silent := fun _ => ⟨rfl, rfl, rfl, rfl⟩
    marks := Nat.zero_le _ }

/-- The record of an expected peer may take any value. -/
theorem setPeer {s : State} (h : s.Sound) {id : StationId} (hp : s.isPeer id = true) (p : Peer) : (s.setPeer id p).Sound :=
  { h with
    peers := fun y hy => by
      by_cases e : y = id
      · exact e ▸ hp
      · refine h.peers y fun c => hy ?_
        show (s.peers.set id p)[y].presence = .unheard
        have : (s.peers.set id p)[y] = s.peers[y] := Vector.getElem_set_ne _ _ fun c => e (Fin.ext c).symm
        rw [this]
        exact c }

theorem enterPeer {s : State} (h : s.Sound) {id : StationId} (hp : s.isPeer id = true) (f : Peer → Peer) : (s.enterPeer id f).Sound := by
  unfold State.enterPeer
  simp only
  split
  · exact (h.setPeer hp _).linkEvent _ _
  · exact h.setPeer hp _

theorem keepWarmPeers {s : State} (h : s.Sound) : s.keepWarmPeers.Sound := by
  unfold State.keepWarmPeers
  split
  · exact h.keepWarmExit
  · exact h

theorem checkCount {s : State} (h : s.Sound) (expected count : Byte) (id : StationId) : (s.checkCount expected count id).Sound := by
  unfold State.checkCount
  simp only
  split
  · exact { h.raiseFault (.markGap expected count id) with }
  · exact { h with }

theorem latchK {s : State} (h : s.Sound) (outlet : Pos) : (s.latchK outlet).Sound := by
  unfold State.latchK
  refine State.Sound.leaveSpan ?_
  exact { h with }

theorem upstreamAdvance {s : State} (h : s.Sound) (id : StationId) (a : AdvancePayload) : (s.upstreamAdvance id a).Sound := by
  have ht := h.checkCount s.web.received a.sent id
  unfold State.upstreamAdvance
  simp only
  split
  · exact ht.latchK _
  · exact ht

theorem noneLengths {s : State} (h : s.Sound) (id : StationId) (a : AdvancePayload) : (s.noneLengths id a).Sound := by
  unfold State.noneLengths
  split
  · exact { h with }
  · split
    · exact h.raiseFault _
    · exact h

theorem followerMatch {s : State} (h : s.Sound) (id : StationId) (a : AdvancePayload) : (s.followerMatch id a).Sound := by
  unfold State.followerMatch
  split
  · exact { h with }
  · split
    · exact { h with }
    · exact h.raiseFault _

theorem advanceLengths {s : State} (h : s.Sound) (id : StationId) (a : AdvancePayload) : (s.advanceLengths id a).Sound := by
  unfold State.advanceLengths
  split
  · split
    · exact h.noneLengths _ _
    · exact h
  · exact h
  · split
    · exact h.followerMatch _ _
    · exact h

theorem upstreamMark {s : State} (h : s.Sound) (id : StationId) (m : MarkPayload) : (s.upstreamMark id m).Sound := by
  have ht := h.checkCount (s.web.received + 1) m.count id
  unfold State.upstreamMark
  simp only
  generalize s.checkCount (s.web.received + 1) m.count id = t at ht ⊢
  split
  · exact { ht with }
  · exact ht.enterSpan _

end State.Sound

/-- A sender below the station count that is not the own id is a peer. -/
theorem isPeer_of_sender {s : State} {id : StationId} (hn : ¬s.sets.line.n ≤ id.val) (ho : ¬id = s.ownId) : s.isPeer id = true := by
  unfold State.isPeer
  simp only [Bool.and_eq_true, decide_eq_true_eq, bne_iff_ne]
  exact ⟨Nat.lt_of_not_le hn, ho⟩

namespace State.Safe

/-! ## Sending -/

/-- A safe station whose Link Controller is not off runs. -/
theorem sound_of_mode {s : State} (h : s.Safe) (hm : s.link.mode ≠ .off) : s.Sound := h.sound fun c => hm (h.parked c).mode

/-- The Link Controller's records of sending may take any value in a station that runs. -/
theorem withLink {s : State} (h : s.Safe) (hr : s.port.state ≠ .config) (now : Nat) {l : Link} (hm : l.marks.length ≤ 6)
    (hf : l.failures ≤ 16)
    (hs : s.port.state = .silent → l.advance = false ∧ l.stopResume = none ∧ l.marks = [] ∧ l.pubDue = none) :
    State.Safe { s with now := now, link := l } :=
  { h with
    limits := h.limits.update (fun s => { s with now := now, link := l }) rfl
    queues := ⟨h.queues.1, h.queues.2.1, h.queues.2.2.1, hm, h.queues.2.2.2.2⟩
    silent := hs
    peers := ⟨fun c => absurd c hr, h.peers.2⟩
    counts := ⟨h.counts.1, hf⟩
    config := fun c => absurd c hr }

theorem handAdvance {s : State} (h : s.Safe) (hr : s.port.state ≠ .config) : s.handAdvance.Safe := by
  have hm := (h.sound hr).marks
  unfold State.handAdvance
  split
  · exact h
  · rename_i hn
    exact h.withLink hr s.now
      (l := { s.link with
        advance := true
        onLink := s.link.replacedIn .advance
        pubOverruns := if s.link.advance then satInc s.link.pubOverruns else s.link.pubOverruns })
      hm h.counts.2 fun c => absurd c hn

theorem publicationTimerExpiry {s : State} (h : s.Safe) : Completes .publicationTimerExpiry s State.Safe := by
  show ∃ t, execPublicationTimerExpiry s = .next t ∧ t.Safe
  unfold execPublicationTimerExpiry
  split
  · exact ⟨s, rfl, h⟩
  · rename_i due hd
    have hr : s.port.state ≠ .config := fun c => by
      have := hd.symm.trans (h.parked c).pubDue
      cases this
    have hn : s.port.state ≠ .silent := fun c => by
      have := hd.symm.trans (h.silent c).2.2.2
      cases this
    refine ⟨_, rfl, handAdvance (h.withLink hr (s.reachTime due).now (l := { s.link with pubDue := some (due + 10000) }) (h.sound hr).marks
      h.counts.2 fun c => absurd c hn) hr⟩

theorem linkJoinIdle {s : State} (h : s.Safe) : Completes .linkJoinIdle s State.Safe := by
  show ∃ t, execLinkJoinIdle s = .next t ∧ t.Safe
  unfold execLinkJoinIdle
  split
  · rename_i hm
    have hs := h.sound_of_mode fun c => LinkMode.noConfusion (hm.symm.trans c)
    exact ⟨_, rfl, h.withLink hs.runs s.now (l := { s.link with mode := .on }) hs.marks h.counts.2 h.silent⟩
  · exact ⟨s, rfl, h⟩

theorem transmissionStart {s : State} (h : s.Safe) : Completes .transmissionStart s State.Safe := by
  show ∃ t, execTransmissionStart s = .next t ∧ t.Safe
  unfold execTransmissionStart
  split
  · rename_i hm
    simp only [State.maySend, Bool.and_eq_true] at hm
    have hs := h.sound_of_sending hm.1.2
    split
    · exact ⟨s, rfl, h⟩
    · rename_i slot body _
      exact ⟨_, rfl, h.withLink hs.runs s.now
        (l := { s.link with onLink := some { slot := slot, body := body, began := s.now, replaced := false } }) hs.marks h.counts.2
        h.silent⟩
  · exact ⟨s, rfl, h⟩

/-- A station with a frame on the link runs. -/
theorem sound_of_onLink {s : State} (h : s.Safe) (ho : s.link.onLink ≠ none) : s.Sound := h.sound fun c => ho (h.parked c).onLink

theorem arbitrationLost {s : State} (h : s.Safe) : Completes .arbitrationLost s State.Safe := by
  show ∃ t, execArbitrationLost s = .next t ∧ t.Safe
  unfold execArbitrationLost
  split
  · rename_i ho
    have hs := h.sound_of_onLink (Option.isSome_iff_ne_none.mp ho)
    exact ⟨_, rfl, h.withLink hs.runs s.now (l := { s.link with onLink := none, lost := satInc s.link.lost }) hs.marks h.counts.2 h.silent⟩
  · exact ⟨s, rfl, h⟩

theorem transmitFailure {s : State} (h : s.Safe) : Completes .transmitFailure s State.Safe := by
  show ∃ t, execTransmitFailure s = .next t ∧ t.Safe
  unfold execTransmitFailure
  split
  · rename_i ho
    have hs := h.sound_of_onLink (Option.isSome_iff_ne_none.mp ho)
    refine ⟨_, rfl, ?_⟩
    simp only
    split
    · refine State.Sound.settle_safe (State.Sound.enterSilent ?_)
      exact { hs with counts := ⟨hs.counts.1, min_le_right _ _⟩ }
    · exact h.withLink hs.runs s.now (l := { s.link with onLink := none, failures := min (s.link.failures + 1) 16 }) hs.marks
        (min_le_right _ _) h.silent
  · exact ⟨s, rfl, h⟩

/-- What a frame that is sent takes out of the buffer (R164). -/
theorem sentFrame_fields (l : Link) (f : OnLink) : (l.sentFrame f).marks.length ≤ l.marks.length
    ∧ (l.advance = false ∧ l.stopResume = none ∧ l.marks = [] ∧ l.pubDue = none →
      (l.sentFrame f).advance = false ∧ (l.sentFrame f).stopResume = none ∧ (l.sentFrame f).marks = [] ∧ (l.sentFrame f).pubDue = none) := by
  unfold Link.sentFrame
  split
  · split
    · exact ⟨le_rfl, id⟩
    · exact ⟨le_rfl, fun ⟨ha, _, hm, hp⟩ => ⟨ha, rfl, hm, hp⟩⟩
  · split
    · exact ⟨le_rfl, id⟩
    · exact ⟨le_rfl, fun ⟨_, hs, hm, hp⟩ => ⟨rfl, hs, hm, hp⟩⟩
  · refine ⟨by simp, fun ⟨ha, hs, hm, hp⟩ => ⟨ha, hs, ?_, hp⟩⟩
    show l.marks.drop 1 = []
    rw [hm]
    rfl

theorem transmissionSuccess {s : State} (h : s.Safe) : Completes .transmissionSuccess s State.Safe := by
  show ∃ t, execTransmissionSuccess s = .next t ∧ t.Safe
  unfold execTransmissionSuccess
  split
  · exact ⟨s, rfl, h⟩
  · rename_i f ho
    have hs := h.sound_of_onLink (by rw [ho]; exact Option.some_ne_none f)
    obtain ⟨hm, hb⟩ := sentFrame_fields s.link f
    exact ⟨_, rfl, h.withLink hs.runs (s.reachTime (f.began + frameLength f.body)).now
      (l := { s.link.sentFrame f with onLink := none, failures := 0 }) (hm.trans hs.marks) (Nat.zero_le _) fun c => hb (h.silent c)⟩

/-! ## Receiving -/

/-- The count of foreign frames, of unknown kinds and of receive errors may take any value. -/
theorem withReceiveCounts {s : State} (h : s.Safe) (foreign unknown rxErrors : Nat) :
    State.Safe { s with link.foreign := foreign, link.unknown := unknown, link.rxErrors := rxErrors } :=
  { h with limits := h.limits.update (fun s => { s with link.foreign := foreign, link.unknown := unknown, link.rxErrors := rxErrors }) rfl }

theorem countForeign {s : State} (h : s.Safe) : s.countForeign.Safe := h.withReceiveCounts _ s.link.unknown s.link.rxErrors

/-- A frame is taken from a peer of a running station, or counted, or a duplicate's fault (R157, R171 to R173). -/
theorem receive {s : State} (h : s.Safe) (sender : StationId) (kind : BitVec 4) {act : State → State}
    (hact : s.Sound → s.isPeer sender = true → (act s).Safe) : (s.receive sender kind act).Safe := by
  unfold State.receive
  split
  · exact h
  · rename_i hm
    have hs : s.Sound := h.sound_of_mode fun c => hm fun e => LinkMode.noConfusion (e.symm.trans c)
    split
    · exact h.countForeign
    · split
      · exact (hs.raiseFault _).settle_safe
      · exact hact hs (isPeer_of_sender ‹_› ‹_›)

theorem advanceFrame {s : State} (h : s.Safe) (sender : StationId) (a : AdvancePayload) :
    Completes (.advanceFrame sender a) s State.Safe := by
  refine ⟨_, rfl, h.receive _ _ fun hs hp => ?_⟩
  have ht := hs.enterPeer hp fun p => p.advanced (s.isNeighbour sender) a
  unfold State.takeAdvance
  simp only
  generalize (s.enterPeer sender _) = t at ht ⊢
  split
  · exact ((ht.upstreamAdvance _ _).advanceLengths _ _).keepWarmPeers.settle_safe
  · exact (ht.advanceLengths _ _).keepWarmPeers.settle_safe

theorem markFrame {s : State} (h : s.Safe) (sender : StationId) (m : MarkPayload) : Completes (.markFrame sender m) s State.Safe := by
  refine ⟨_, rfl, h.receive _ _ fun hs hp => ?_⟩
  have ht := hs.enterPeer hp fun p => p.marked (s.isNeighbour sender) m.count
  unfold State.takeMark
  simp only
  generalize (s.enterPeer sender _) = t at ht ⊢
  split
  · exact (ht.upstreamMark _ _).settle_safe
  · exact ht.settle_safe

theorem stopFrame {s : State} (h : s.Safe) (sender : StationId) (reason : Byte) : Completes (.stopFrame sender reason) s State.Safe :=
  ⟨_, rfl, h.receive _ _ fun hs hp => ((hs.enterPeer hp _).setLatch _).settle_safe⟩

theorem resumeFrame {s : State} (h : s.Safe) (sender : StationId) : Completes (.resumeFrame sender) s State.Safe :=
  ⟨_, rfl, h.receive _ _ fun hs hp => (hs.enterPeer hp _).clearLatch.keepWarmExit.settle_safe⟩

theorem badFrame {s : State} (h : s.Safe) : Completes .badFrame s State.Safe := by
  show ∃ t, execBadFrame s = .next t ∧ t.Safe
  unfold execBadFrame
  split
  · exact ⟨_, rfl, h.withReceiveCounts s.link.foreign s.link.unknown _⟩
  · exact ⟨s, rfl, h⟩

theorem foreignFrame {s : State} (h : s.Safe) (sender : StationId) : Completes (.foreignFrame sender) s State.Safe := by
  show ∃ t, execForeignFrame sender s = .next t ∧ t.Safe
  unfold execForeignFrame
  split
  · exact ⟨_, rfl, h.countForeign⟩
  · exact ⟨s, rfl, h⟩

theorem unknownKindFrame {s : State} (h : s.Safe) (sender : StationId) (kind : BitVec 4) :
    Completes (.unknownKindFrame sender kind) s State.Safe := by
  show ∃ t, execUnknownKindFrame sender kind s = .next t ∧ t.Safe
  unfold execUnknownKindFrame
  split
  · exact ⟨s, rfl, h⟩
  · exact ⟨_, rfl, h.receive _ _ fun _ _ => h.withReceiveCounts s.link.foreign _ s.link.rxErrors⟩

theorem stalenessTimerExpiry {s : State} (h : s.Safe) (id : StationId) : Completes (.stalenessTimerExpiry id) s State.Safe := by
  show ∃ t, execStalenessTimerExpiry id s = .next t ∧ t.Safe
  unfold execStalenessTimerExpiry
  split
  · exact ⟨s, rfl, h⟩
  · rename_i due _
    split
    · rename_i hl
      have hu : (s.peer id).presence ≠ .unheard := fun c => Presence.noConfusion (hl.symm.trans c)
      have hs := h.sound (h.peers.2 id hu).1
      exact ⟨_, rfl, (((hs.reachTime due).setPeer (h.peers.2 id hu).2 _).linkEvent _ _).keepWarmPeers.settle_safe⟩
    · exact ⟨s, rfl, h⟩

theorem duplicateIdFrame {s : State} (h : s.Safe) (kind : BitVec 4) : Completes (.duplicateIdFrame kind) s State.Safe := by
  show ∃ t, execDuplicateIdFrame kind s = .next t ∧ t.Safe
  unfold execDuplicateIdFrame
  split
  · rename_i hm
    have hs := h.sound_of_mode fun c => LinkMode.noConfusion (hm.symm.trans c)
    exact ⟨_, rfl, (hs.raiseFault _).settle_safe⟩
  · exact ⟨s, rfl, h⟩

/-! ## The step -/

/-- Every command keeps Safe. -/
theorem exec {s : State} (h : s.Safe) : ∀ c : Instr, Completes c s State.Safe
  | .powerOn cause => h.powerOn cause
  | .fetch bytes => h.fetch bytes
  | .transactionDiscarded edges => h.transactionDiscarded edges
  | .unknownCommand command args => h.unknownCommand command args
  | .writeSet args => h.writeSet args
  | .loadPattern args => h.loadPattern args
  | .checkPattern args => h.checkPattern args
  | .checkPatternEnd => h.checkPatternEnd
  | .start args => h.start args
  | .restart args => h.restart args
  | .clearFault args => h.clearFault args
  | .stop args => h.stop args
  | .resume args => h.resume args
  | .wake args => h.wake args
  | .loadRoll args => h.loadRoll args
  | .unload args => h.unload args
  | .clearZone args => h.clearZone args
  | .readStatus args => h.readStatus args
  | .readPeerView args => h.readPeerView args
  | .readQueues args => h.readQueues args
  | .readPanelLog args => h.readPanelLog args
  | .eventEnable args => h.eventEnable args
  | .eventAcknowledge args => h.eventAcknowledge args
  | .eventEnd args => h.eventEnd args
  | .eventClear args => h.eventClear args
  | .rampTimerExpiry => h.rampTimerExpiry
  | .dancerSample level => h.dancerSample level
  | .runBegin => h.runBegin
  | .panelDecision => h.panelDecision
  | .stepStart => h.stepStart
  | .decodeEnd => h.decodeEnd
  | .stepTimerExpiry => h.stepTimerExpiry
  | .flatStepPulse => h.flatStepPulse
  | .continuousPulse => h.continuousPulse
  | .feedPulse => h.feedPulse
  | .tuckEnd => h.tuckEnd
  | .pressEnd => h.pressEnd
  | .releaseEnd => h.releaseEnd
  | .abortingEnd => h.abortingEnd
  | .deskewTimerExpiry channel => h.deskewTimerExpiry channel
  | .foldSensorChange channel level => h.foldSensorChange channel level
  | .restTimerExpiry => h.restTimerExpiry
  | .converterTimerExpiry r0 r1 r2 r3 => h.converterTimerExpiry r0 r1 r2 r3
  | .settleTimerExpiry zone => h.settleTimerExpiry zone
  | .secondsTimerExpiry => h.secondsTimerExpiry
  | .purgeTimerExpiry => h.purgeTimerExpiry
  | .idleTimerExpiry => h.idleTimerExpiry
  | .dwellTimerExpiry => h.dwellTimerExpiry
  | .standTimerExpiry => h.standTimerExpiry
  | .atSpeedChange id level => h.atSpeedChange id level
  | .armingTimerExpiry => h.armingTimerExpiry
  | .paste => h.paste
  | .pasteTimerExpiry => h.pasteTimerExpiry
  | .cutPulseEnd => h.cutPulseEnd
  | .publicationTimerExpiry => h.publicationTimerExpiry
  | .linkJoinIdle => h.linkJoinIdle
  | .transmissionStart => h.transmissionStart
  | .arbitrationLost => h.arbitrationLost
  | .transmitFailure => h.transmitFailure
  | .transmissionSuccess => h.transmissionSuccess
  | .advanceFrame sender payload => h.advanceFrame sender payload
  | .markFrame sender payload => h.markFrame sender payload
  | .stopFrame sender reason => h.stopFrame sender reason
  | .resumeFrame sender => h.resumeFrame sender
  | .badFrame => h.badFrame
  | .foreignFrame sender => h.foreignFrame sender
  | .unknownKindFrame sender kind => h.unknownKindFrame sender kind
  | .stalenessTimerExpiry peer => h.stalenessTimerExpiry peer
  | .duplicateIdFrame kind => h.duplicateIdFrame kind

theorem tick {s : State} (h : s.Safe) : s.tick.Safe := { h with limits := h.limits.update State.tick rfl }

theorem withPending {s : State} (h : s.Safe) (rest : List Instr) : State.Safe { s with pending := rest } :=
  { h with limits := h.limits.update (fun s => { s with pending := rest }) rfl }

end State.Safe

/-- Settles O6. A safe station runs and is `Sound`, or is `Parked` in CONFIG; every operation keeps these, and the settling that ends a step
makes good what they leave out. -/
theorem stepKeepsSafe : Obligations.StepKeepsSafe := by
  intro s t h hstep
  unfold step at hstep
  split at hstep
  · cases hstep
    exact h.tick
  · rename_i c rest _
    obtain ⟨u, hu, hsafe⟩ := (h.withPending rest).exec c
    rw [hu] at hstep
    cases hstep
    exact hsafe

end Sys2Proof.Machine
end

section
namespace Sys2Proof.Machine

/-! # Refusals of the station commands -/

/-- A command of the right argument count that a test of its table refuses (R179, R180). -/
theorem takeCommand_counted_refused {s : State} (hb : s.pat.status ≠ .checking) {args : List Byte} {n : Nat} (hn : args.length = n)
    {refusal : Option Byte} {code : Byte} (hr : refusal = some code) (data : List Byte) (effect : State → State) :
    s.takeCommand args (countRefusal args n refusal) data effect = s.answered args [code] := by
  rw [countRefusal, if_pos hn, hr]
  exact takeCommand_refused hb args code data effect

/-- The refusals of START are made in the order of R186. -/
theorem startRefusal_running {s : State} (h : s.port.state ≠ .config) : s.startRefusal = some 0x02 := by
  simp [State.startRefusal, State.running, h, refusedState]

theorem startRefusal_order {s : State} (hc : s.port.state = .config)
    (h : s.sets.lineW = false
      ∨ s.sets.feedW = false ∧ (s.ownId ≠ 0 ∨ s.sets.line.role ≠ .none ∨ 0 < s.sets.box.zoneCount)
      ∨ s.sets.knifeW = false ∧ s.sets.line.role ≠ .none
      ∨ s.sets.standW = false ∧ s.sets.line.standKind ≠ .none
      ∨ s.pat.status ≠ .valid ∧ s.sets.line.role ≠ .none) : s.startRefusal = some 0x04 := by
  simp only [State.startRefusal, State.running, refusalOf_cons, refusalOf_nil, hc]
  rcases h with h | ⟨h, hw⟩ | ⟨h, hw⟩ | ⟨h, hw⟩ | ⟨h, hw⟩
  · simp [h, refusedOrder]
  · rcases hw with hw | hw | hw <;> simp [h, hw, refusedOrder]
  all_goals simp [h, hw, refusedOrder]

theorem not_sending {s : State} (h : s.port.state = .config ∨ s.port.state = .silent) : s.sending = false := by
  rcases h with h | h <;> simp [State.sending, h]

/-- The tests of R136 and R137 that stand in front of the spindle's own (R199). -/
theorem standTests_value {s : State} {args : List Byte} (h : spindleArg args = none) (rest : List (Bool × Byte)) :
    refusalOf (s.standTests args ++ rest) = some 0x03 := by
  simp [State.standTests, h, refusedValue]

theorem standTests_order {s : State} {args : List Byte} {id : SpindleId} (h : spindleArg args = some id)
    (hs : s.sets.lineW = false ∨ s.sets.line.standKind = .none) (rest : List (Bool × Byte)) :
    refusalOf (s.standTests args ++ rest) = some 0x04 := by
  rcases hs with hs | hs <;> simp [State.standTests, h, hs, refusedOrder]

theorem standTests_pass {s : State} {args : List Byte} {id : SpindleId} (h : spindleArg args = some id) (hl : s.sets.lineW = true)
    (hk : s.sets.line.standKind ≠ .none) (rest : List (Bool × Byte)) :
    refusalOf (s.standTests args ++ rest) = refusalOf rest := by
  simp [State.standTests, h, hl, hk]

/-- Settles O15, test by test of each command's table. -/
theorem stationCommandsRefused : Obligations.StationCommandsRefused := by
  refine ⟨fun s hb => ⟨fun hr => ?_, fun hc h => ?_⟩, fun s hb => ⟨fun hs => ⟨?_, ?_⟩, fun hc => ?_⟩, fun args s hb =>
    ⟨fun hn => ⟨fun hi => ?_, fun id hi => ⟨fun ho => ?_, fun hl hk => ⟨fun he => ?_, fun he hu hz => ?_⟩⟩⟩,
      fun hn => ⟨fun hi => ?_, fun id hi => ⟨fun ho => ?_, fun hl hk hm => ?_⟩⟩⟩⟩
  case refine_1 => exact congrArg _ (takeCommand_counted_refused hb rfl (startRefusal_running hr) _ _)
  case refine_2 => exact congrArg _ (takeCommand_counted_refused hb rfl (startRefusal_order hc h) _ _)
  case refine_3 => exact congrArg _ (takeCommand_counted_refused hb rfl (by rw [not_sending hs]; rfl) _ _)
  case refine_4 => exact congrArg _ (takeCommand_counted_refused hb rfl (by rw [not_sending hs]; rfl) _ _)
  case refine_5 => exact congrArg _ (takeCommand_counted_refused hb rfl (by simp [State.running, hc, refusedState]) _ _)
  case refine_6 => exact congrArg _ (takeCommand_counted_refused hb hn (standTests_value hi _) _ _)
  case refine_7 => exact congrArg _ (takeCommand_counted_refused hb hn (standTests_order hi ho _) _ _)
  case refine_8 =>
    refine congrArg _ (takeCommand_counted_refused hb hn ((standTests_pass hi hl hk _).trans ?_) _ _)
    simp [namedSpindle, hi, he, refusedState]
  case refine_9 =>
    refine congrArg _ (takeCommand_counted_refused hb hn ((standTests_pass hi hl hk _).trans ?_) _ _)
    simp [namedSpindle, hi, he, hu, hz, refusedValue]
  case refine_10 => exact congrArg _ (takeCommand_counted_refused hb hn (standTests_value hi _) _ _)
  case refine_11 => exact congrArg _ (takeCommand_counted_refused hb hn (standTests_order hi ho _) _ _)
  case refine_12 =>
    refine congrArg _ (takeCommand_counted_refused hb hn ((standTests_pass hi hl hk _).trans ?_) _ _)
    have hu : (s.stand.spindle id).state.unloadable = false := by
      generalize (s.stand.spindle id).state = st at hm ⊢
      cases st <;> simp_all [SpindleState.unloadable]
    simp [namedSpindle, hi, hu, refusedState]

end Sys2Proof.Machine
end

section
namespace Sys2Proof.Machine

/-! # The step periods of a panel and the beginning of a run -/

/-- A step started after others, with the sum of the step periods before trim. -/
def startedAfter (x : Nat × State) (st : Step) : Nat × State :=
  (x.1 + (x.2.startCadenceStep st).cad.stepPeriod, x.2.startCadenceStep st)

/-- The step period before trim and the carry share out what the panel period times the pitch adds (R16). -/
theorem startCadenceStep_shares (s : State) (st : Step) :
    s.pat.p * (s.startCadenceStep st).cad.stepPeriod + (s.startCadenceStep st).cad.carry
      = 60000000000 / s.rate.effective * st.pitch + s.cad.carry :=
  Nat.div_add_mod _ _

/-- Over any steps the periods and the last carry share out the panel period times the pitches (R16). -/
theorem foldl_startedAfter (steps : List Step) : ∀ x : Nat × State, x.2.cad.carry < x.2.pat.p →
    (steps.foldl startedAfter x).2.cad.carry < x.2.pat.p
      ∧ x.2.pat.p * (steps.foldl startedAfter x).1 + (steps.foldl startedAfter x).2.cad.carry
        = x.2.pat.p * x.1 + 60000000000 / x.2.rate.effective * (steps.map Step.pitch).sum + x.2.cad.carry := by
  induction steps with
  | nil => intro x h; exact ⟨h, by simp⟩
  | cons st steps ih =>
    intro x h
    have hshare := startCadenceStep_shares x.2 st
    have hcarry : (startedAfter x st).2.cad.carry < (startedAfter x st).2.pat.p := Nat.mod_lt _ (Nat.zero_lt_of_lt h)
    obtain ⟨hlt, hsum⟩ := ih (startedAfter x st) hcarry
    refine ⟨hlt, hsum.trans ?_⟩
    show x.2.pat.p * (x.1 + (x.2.startCadenceStep st).cad.stepPeriod) + 60000000000 / x.2.rate.effective * (steps.map Step.pitch).sum
        + (x.2.startCadenceStep st).cad.carry = _
    rw [List.map_cons, List.sum_cons, Nat.mul_add, Nat.mul_add]
    omega

/-- The numerator of a step period stays below 2^46 at every rate the line has (R16). -/
theorem stepNumerator_lt {rate pitch carry : Nat} (hr : 100 ≤ rate) (hp : pitch ≤ 65535) (hc : carry < 1000000) :
    60000000000 / rate * pitch + carry < 2 ^ 46 := by
  have hd : 60000000000 / rate ≤ 600000000 := Nat.div_le_div_left hr (by omega)
  have hm := Nat.mul_le_mul hd hp
  omega

/-! ## RUN_BEGIN -/

/-- The test of RUN_BEGIN, condition by condition (R13). -/
theorem runDue_iff (s : State) : s.runDue = true ↔
    s.cad.mode ≠ .idle ∧ s.cad.begun = false ∧ (s.knife.phase = .idle ∧ 0 < s.rate.effective) ∧ s.leader.state ≠ .pending
      ∧ (s.cad.mode = .stepping ∨ s.cad.pn ≠ 0) := by
  simp [State.runDue, State.runCanBegin, and_assoc]

theorem exec_runBegin_waits {s : State} (h : s.runDue ≠ true) : exec .runBegin s = .next s := if_neg h

/-- A run begins unless it is that of a bridge which has nowhere to go (R13, R52). -/
theorem exec_runBegin_bridgeDone {s : State} (h : s.runDue = true) (hb : s.bridgeDone = true) :
    exec .runBegin s = .next s.enterPending := by
  show (if s.runDue then Host.Outcome.next s.beginRun else .next s) = _
  rw [if_pos h, State.beginRun, if_pos hb]

theorem exec_runBegin_stepping {s : State} (h : s.runDue = true) (hb : ¬s.bridgeDone = true) (hm : s.cad.mode = .stepping) :
    exec .runBegin s = .next s.beginStepping := by
  show (if s.runDue then Host.Outcome.next s.beginRun else .next s) = _
  rw [if_pos h, State.beginRun, if_neg hb, if_pos hm]

theorem exec_runBegin_continuous {s : State} (h : s.runDue = true) (hb : ¬s.bridgeDone = true) (hm : s.cad.mode = .continuous) :
    exec .runBegin s = .next s.beginContinuous := by
  show (if s.runDue then Host.Outcome.next s.beginRun else .next s) = _
  rw [if_pos h, State.beginRun, if_neg hb, if_neg (fun c => CadenceMode.noConfusion (hm.symm.trans c))]

theorem bridgeDone_iff (s : State) :
    s.bridgeDone = true ↔ s.leader.state = .bridge ∧ atOrBeyond s.knifePoint s.leader.target = true := by
  simp [State.bridgeDone]

/-- Settles O33, by what lets a run begin and what it begins as. -/
theorem runBegins : Obligations.RunBegins := by
  intro s
  refine ⟨fun h => exec_runBegin_waits ?_, fun hb hk he hp ht => ⟨fun hm => ?_, fun hm hpn => ?_⟩, fun hb hk he hl ht hm => ?_⟩
  · rw [Ne, runDue_iff]
    rintro ⟨hmode, hbegun, ⟨hk, he⟩, hl, hpn⟩
    rcases h with h | h | h | h | ⟨h, h0⟩
    · exact hmode h
    · rw [h] at hbegun; cases hbegun
    · exact h hk
    · omega
    · rcases hpn with hpn | hpn
      · rw [h] at hpn; cases hpn
      · exact hpn h0
  · have hdone : ¬s.bridgeDone = true := by
      rw [bridgeDone_iff]; rintro ⟨hl, ha⟩
      exact ht.elim (fun c => c hl) fun c => Bool.noConfusion (c.symm.trans ha)
    exact exec_runBegin_stepping ((runDue_iff s).mpr ⟨by rw [hm]; decide, hb, ⟨hk, he⟩, hp, .inl hm⟩) hdone hm
  · have hdone : ¬s.bridgeDone = true := by
      rw [bridgeDone_iff]; rintro ⟨hl, ha⟩
      exact ht.elim (fun c => c hl) fun c => Bool.noConfusion (c.symm.trans ha)
    exact exec_runBegin_continuous ((runDue_iff s).mpr ⟨by rw [hm]; decide, hb, ⟨hk, he⟩, hp, .inr hpn⟩) hdone hm
  · have hdue : s.runDue = true := by
      refine (runDue_iff s).mpr ⟨?_, hb, ⟨hk, he⟩, by rw [hl]; decide, hm.imp_right And.right⟩
      rcases hm with hm | ⟨hm, _⟩ <;> rw [hm] <;> decide
    rw [exec_runBegin_bridgeDone hdue ((bridgeDone_iff s).mpr ⟨hl, ht⟩)]
    simp only [State.enterPending, State.requestRun, hb]

/-- Settles O28, by induction on the steps: the periods and the carry share out what each pitch adds. -/
theorem panelPeriodsSum : Obligations.PanelPeriodsSum := by
  refine ⟨fun st s => ⟨rfl, rfl, fun hp => Nat.mod_lt _ hp, stepNumerator_lt⟩, fun s hm hb hk he hp hl => ?_, fun steps s hc hp hs => ?_⟩
  · have hdue : s.runDue = true := (runDue_iff s).mpr ⟨by rw [hm]; decide, hb, ⟨hk, he⟩, hp, .inl hm⟩
    have hdone : ¬s.bridgeDone = true := by rw [bridgeDone_iff]; exact fun c => hl c.1
    exact ⟨_, exec_runBegin_stepping hdue hdone hm, rfl, rfl⟩
  · obtain ⟨hlt, hsum⟩ := foldl_startedAfter steps (0, s) (by rw [hc]; exact hp)
    show (steps.foldl startedAfter (0, s)).1 = _ ∧ (steps.foldl startedAfter (0, s)).2.cad.carry = 0
    generalize steps.foldl startedAfter (0, s) = run at hlt hsum ⊢
    simp only [hs, hc, Nat.mul_zero, Nat.zero_add, Nat.add_zero] at hlt hsum
    have hcarry : run.2.cad.carry = 0 := by
      have hmod := congrArg (· % s.pat.p) hsum
      simpa [Nat.mul_add_mod, Nat.mod_eq_of_lt hlt] using hmod
    refine ⟨?_, hcarry⟩
    rw [hcarry, Nat.add_zero, Nat.mul_comm] at hsum
    exact Nat.eq_of_mul_eq_mul_right hp hsum

end Sys2Proof.Machine
end

section
namespace Sys2Proof.Machine

/-! # The limits as they stand -/

/-- Lowers a least limit by what a LIVE peer publishes (R9). -/
def State.lowered (s : State) (n : Nat) (id : StationId) : Nat :=
  if s.isPeer id = true ∧ (s.peer id).presence = .live then min n (s.peer id).lastLimit else n

theorem lowered_le (s : State) (n : Nat) (id : StationId) : s.lowered n id ≤ n := by
  unfold State.lowered
  split
  · exact min_le_left _ _
  · exact le_rfl

theorem foldl_lowered_le (s : State) (ids : List StationId) : ∀ n, ids.foldl s.lowered n ≤ n := by
  induction ids with
  | nil => intro n; exact le_rfl
  | cons x ids ih => intro n; exact (ih _).trans (lowered_le s n x)

theorem foldl_lowered_le_peer (s : State) {id : StationId} (hp : s.isPeer id = true) (hl : (s.peer id).presence = .live)
    (ids : List StationId) : ∀ n, id ∈ ids → ids.foldl s.lowered n ≤ (s.peer id).lastLimit := by
  induction ids with
  | nil => intro n h; cases h
  | cons x ids ih =>
    intro n h
    rcases List.mem_cons.mp h with rfl | h
    · refine (foldl_lowered_le s ids _).trans ?_
      rw [State.lowered, if_pos ⟨hp, hl⟩]
      exact min_le_right _ _
    · exact ih _ h

theorem lowered_cases (s : State) (n : Nat) (id : StationId) :
    s.lowered n id = n ∨ s.isPeer id = true ∧ s.lowered n id = (s.peer id).lastLimit := by
  by_cases hl : s.isPeer id = true ∧ (s.peer id).presence = .live
  · have hm : s.lowered n id = min n (s.peer id).lastLimit := if_pos hl
    rw [hm]
    exact (min_choice n (s.peer id).lastLimit).imp_right fun hm => ⟨hl.1, hm⟩
  · exact .inl (if_neg hl)

theorem foldl_lowered_attained (s : State) (ids : List StationId) : ∀ n, ids.foldl s.lowered n = n
    ∨ ∃ id, s.isPeer id = true ∧ ids.foldl s.lowered n = (s.peer id).lastLimit := by
  induction ids with
  | nil => intro n; exact .inl rfl
  | cons x ids ih =>
    intro n
    rcases ih (s.lowered n x) with h | h
    · rw [List.foldl_cons, h]
      exact (lowered_cases s n x).imp_right fun h => ⟨x, h⟩
    · exact .inr h

/-- The resolved rate is at most a bound that the least limit keeps (R9). -/
theorem resolvedNow_le {s : State} {n : Nat} (h : s.leastLimit ≤ n) : s.resolvedNow ≤ n := by
  unfold State.resolvedNow
  split
  · split
    · exact Nat.zero_le _
    · exact h
  · exact Nat.zero_le _

/-- The resolved rate is 0 while an expected peer is not LIVE (R9). -/
theorem resolvedNow_of_not_live {s : State} {id : StationId} (hp : s.isPeer id = true) (hl : (s.peer id).presence ≠ .live) :
    s.resolvedNow = 0 := by
  unfold State.resolvedNow
  rw [if_neg]
  simp only [State.peersLive, List.all_eq_true, Bool.or_eq_true]
  intro h
  rcases h id (List.mem_finRange id) with h | h
  · rw [hp] at h; cases h
  · exact hl (by simpa using h)

/-- With every expected peer LIVE the resolved rate is the least limit, 0 below 100 (R9). -/
theorem resolvedNow_of_live {s : State} (h : ∀ id, s.isPeer id = true → (s.peer id).presence = .live) :
    s.resolvedNow = if s.leastLimit < 100 then 0 else s.leastLimit := by
  unfold State.resolvedNow
  rw [if_pos]
  simp only [State.peersLive, List.all_eq_true, Bool.or_eq_true]
  intro id _
  by_cases hp : s.isPeer id = true
  · exact .inr (by simp [h id hp])
  · exact .inl (by simpa using hp)

/-! ## The ready length and the limits of current states -/

theorem foldl_add_if (f : Fin 4 → Nat) (p : Fin 4 → Prop) [DecidablePred p] (zs : List (Fin 4)) : ∀ n,
    zs.foldl (fun n z => if p z then n + f z else n) n = n + (zs.map fun z => if p z then f z else 0).sum := by
  induction zs with
  | nil => intro n; rfl
  | cons z zs ih =>
    intro n
    rw [List.foldl_cons, ih, List.map_cons, List.sum_cons]
    split <;> omega

/-- The ready length as a sum over the zones (R119). -/
theorem readyLength_eq (s : State) : s.readyLength = ((List.finRange 4).map fun z =>
    if z.val < s.sets.box.zoneCount ∧ ((s.zone z).state = .ready ∨ (s.zone z).state = .open) then s.sets.box.zones[z].length
    else 0).sum := by
  have h := foldl_add_if (fun z => s.sets.box.zones[z].length)
    (fun z => s.isZone z = true ∧ ((s.zone z).state = .ready ∨ (s.zone z).state = .open)) (List.finRange 4) 0
  simpa [State.readyLength, State.isZone] using h

theorem outletLength_eq (s : State) : s.outletLength = if s.sets.line.role = .none then s.web.pn else s.pat.q := by
  unfold State.outletLength
  cases s.sets.line.role <;> rfl

theorem inState_isSome (t : Stand) (st : SpindleState) : (t.inState st).isSome = true ↔ t.a.state = st ∨ t.b.state = st := by
  unfold Stand.inState
  by_cases ha : t.a.state = st
  · simp [ha]
  · by_cases hb : t.b.state = st
    · simp [ha, hb]
    · simp [ha, hb]

theorem arming_iff (t : Stand) :
    t.arming = true ↔ t.a.state = .arming ∨ t.a.state = .synced ∨ t.b.state = .arming ∨ t.b.state = .synced := by
  rw [Stand.arming, Bool.or_eq_true, inState_isSome, inState_isSome]
  tauto

/-- A splice or paste sequence is on where a spindle is ARMING or SYNCED or the paste timer runs (R138). -/
theorem standLimitNow_unwind {s : State} (hk : s.sets.line.standKind = .unwind) (hr : s.stand.runOut = false) (ho : s.stand.overfill = false) :
    s.standLimitNow = if s.stand.a.state = .arming ∨ s.stand.a.state = .synced ∨ s.stand.b.state = .arming ∨ s.stand.b.state = .synced
      ∨ s.stand.pasteDue.isSome = true then s.sets.stand.cap else 60000 := by
  unfold State.standLimitNow
  rw [hk, hr, ho]
  simp [arming_iff, or_assoc]

theorem standLimitNow_held {s : State} (hk : s.sets.line.standKind ≠ .none) (hh : s.stand.runOut = true ∨ s.stand.overfill = true) :
    s.standLimitNow = 0 := by
  have : (s.stand.runOut || s.stand.overfill) = true := by rcases hh with h | h <;> simp [h]
  unfold State.standLimitNow
  cases h : s.sets.line.standKind with
  | none => exact absurd h hk
  | unwind => simp [this]
  | rewind => simp [this]

theorem standLimitNow_rewind {s : State} (hk : s.sets.line.standKind = .rewind) (hr : s.stand.runOut = false) (ho : s.stand.overfill = false) :
    s.standLimitNow = 60000 := by
  unfold State.standLimitNow
  rw [hk, hr, ho]
  rfl

namespace State.LimitsCurrent

theorem own {s : State} (h : s.LimitsCurrent) : s.rate.own = s.ownLimitNow :=
  (congrArg (fun t => t.rate.own) h).symm.trans (show s.limits.ownLimitNow = s.ownLimitNow from congrArg State.ownLimitNow h)

theorem resolved {s : State} (h : s.LimitsCurrent) : s.rate.resolved = s.resolvedNow :=
  (congrArg (fun t => t.rate.resolved) h).symm.trans (show s.limits.resolvedNow = s.resolvedNow from congrArg State.resolvedNow h)

theorem stationMax {s : State} (h : s.LimitsCurrent) : s.rate.stationMax = if s.sets.lineW = true then s.sets.line.stationMax else 60000 :=
  (congrArg (fun t => t.rate.stationMax) h).symm

theorem knifeLimit {s : State} (h : s.LimitsCurrent) : s.rate.knifeLimit = s.knifeLimitNow :=
  (congrArg (fun t => t.rate.knifeLimit) h).symm

theorem setLimit {s : State} (h : s.LimitsCurrent) : s.rate.setLimit = s.setLimitNow := (congrArg (fun t => t.rate.setLimit) h).symm

theorem standLimit {s : State} (h : s.LimitsCurrent) : s.rate.standLimit = s.standLimitNow :=
  (congrArg (fun t => t.rate.standLimit) h).symm

end State.LimitsCurrent

theorem knifeLimitNow_of_role {s : State} (h : s.sets.line.role ≠ .none) :
    s.knifeLimitNow = if s.pat.status = .valid then s.pat.knifeLimit else 0 := by
  unfold State.knifeLimitNow
  split
  · contradiction
  · rfl
  · rfl

/-- Settles O25: each limit of a state whose limits are current is what the rules form of that state. -/
theorem resolvedRate : Obligations.ResolvedRate := by
  refine ⟨fun s h => ?_, fun s h => ?_⟩
  · refine ⟨fun hs => ?_, fun ha hl => ?_, ?_, fun id hp hl => ?_, fun id hp hl => ?_, ?_, fun hall ho => ?_⟩
    · rw [h.own, State.ownLimitNow, if_neg]
      rintro ⟨ha, hl⟩
      exact hs.elim (fun c => c ha) fun c => Bool.noConfusion (hl.symm.trans c)
    · rw [h.own, State.ownLimitNow, if_pos ⟨ha, hl⟩]
      rfl
    · rw [h.resolved]
      exact resolvedNow_le (leastLimit_le s)
    · rw [h.resolved]
      exact resolvedNow_le (foldl_lowered_le_peer s hp hl _ _ (List.mem_finRange id))
    · rw [h.resolved, resolvedNow_of_not_live hp hl]
    · rw [h.resolved]
      exact (resolvedNow_cases s).imp_right And.left
    · have hleast : s.leastLimit = s.rate.own ∨ ∃ id, s.isPeer id = true ∧ s.leastLimit = (s.peer id).lastLimit :=
        foldl_lowered_attained s _ _
      have h100 : ¬s.leastLimit < 100 := by
        rcases hleast with e | ⟨id, hp, e⟩
        · omega
        · have := (hall id hp).2
          omega
      rw [h.resolved, resolvedNow_of_live fun id hp => (hall id hp).1, if_neg h100]
      exact hleast
  · intro r q ready shortest limit held sequence
    have hready : ready = s.readyLength := (readyLength_eq s).symm
    have hq : q = s.outletLength := (outletLength_eq s).symm
    have hset : s.sets.box.zoneCount ≠ 0 → r.setLimit = setLimitOf s.sets.box.dwell q ready := fun hz => by
      rw [hready, hq]
      exact h.setLimit.trans (if_neg hz)
    refine ⟨h.stationMax, fun hr => ?_, fun hr hv => ?_, fun hr hv => ?_, fun hz => ?_, fun hz h0 => ?_, fun hz hr0 hq0 => ?_, fun hk => ?_,
      fun hk hh => ?_, fun hk hh => ?_, fun hk hh => ?_⟩
    · exact h.knifeLimit.trans (by rw [State.knifeLimitNow, hr])
    · exact h.knifeLimit.trans ((knifeLimitNow_of_role hr).trans (if_pos hv))
    · exact h.knifeLimit.trans ((knifeLimitNow_of_role hr).trans (if_neg hv))
    · exact h.setLimit.trans (if_pos hz)
    · exact (hset hz).trans (if_pos h0)
    · exact (hset hz).trans (if_neg (not_or.mpr ⟨hr0, hq0⟩))
    · exact h.standLimit.trans (by rw [State.standLimitNow, hk])
    · exact h.standLimit.trans (standLimitNow_held hk hh)
    · obtain ⟨hr, ho⟩ := not_or.mp hh
      exact h.standLimit.trans (standLimitNow_unwind hk (by simpa using hr) (by simpa using ho))
    · obtain ⟨hr, ho⟩ := not_or.mp hh
      exact h.standLimit.trans (standLimitNow_rewind hk (by simpa using hr) (by simpa using ho))

end Sys2Proof.Machine
end

section
namespace Sys2Proof.Machine

/-! # What a settling leaves where the knife has obeyed the latch -/

/-- Where the knife has obeyed, a settling leaves the calm part. -/
theorem settle_calm_of_obeys {s : State} (h : s.KnifeObeys) : s.settle.calm = s.calm := by
  rw [settle_of_obeys h, consequences_calm]

/-- Where the knife has obeyed, a settling leaves every station state but JOINING. -/
theorem settle_state_of_obeys {s : State} (h : s.KnifeObeys) (hj : s.port.state ≠ .joining) : s.settle.port.state = s.port.state := by
  rw [settle_of_obeys h]
  exact (consequences_state_cases s).resolve_right fun c => hj c.1

/-- A settled station that is not ACTIVE, or whose latch is set, has the own limit 0 (R5). -/
theorem settle_own_zero {s : State} (h : s.settle.port.state ≠ .active ∨ s.settle.rate.latch = true) : s.settle.rate.own = 0 := by
  rw [(settle_limitsCurrent s).own, State.ownLimitNow, if_neg]
  rintro ⟨ha, hl⟩
  exact h.elim (fun c => c ha) fun c => Bool.noConfusion (hl.symm.trans c)

/-! # What is sent, and how a transmission ends -/

/-- Outside these states, or with a frame on the link, nothing is sent (R157, R160). -/
theorem maySend_iff (s : State) : s.maySend = true ↔
    s.link.mode = .on ∧ (s.port.state = .joining ∨ s.port.state = .active ∨ s.port.state = .fault) ∧ s.link.onLink = none := by
  unfold State.maySend State.sending
  cases s.port.state <;> simp

theorem exec_transmissionStart_waits {s : State} (h : s.maySend ≠ true ∨ s.chosenFrame = none) :
    exec .transmissionStart s = .next s := by
  show (if s.maySend then _ else Host.Outcome.next s) = _
  split
  · rename_i hm
    rw [h.resolve_left (fun c => c hm)]
  · rfl

/-- The frame that the slots choose goes on the link (R160, R164). -/
theorem exec_transmissionStart {s : State} (h : s.maySend = true) {slot : Slot} {body : FrameBody} (hf : s.chosenFrame = some (slot, body)) :
    exec .transmissionStart s
      = .next { s with link.onLink := some { slot := slot, body := body, began := s.now, replaced := false } } := by
  show (if s.maySend then _ else Host.Outcome.next s) = _
  rw [if_pos h, hf]

theorem chosenFrame_stopResume {s : State} {f : StopResume} (h : s.link.stopResume = some f) :
    s.chosenFrame = some (.stopResume, f.frame) := by
  rw [State.chosenFrame, h]

theorem chosenFrame_mark {s : State} {m : MarkPayload} {ms : List MarkPayload} (h : s.link.stopResume = none)
    (hm : s.link.marks = m :: ms) : s.chosenFrame = some (.mark, .mark m) := by
  rw [State.chosenFrame, h, hm]

theorem chosenFrame_advance {s : State} (h : s.link.stopResume = none) (hm : s.link.marks = []) (ha : s.link.advance = true) :
    s.chosenFrame = some (.advance, .advance s.advancePayload) := by
  rw [State.chosenFrame, h, hm, ha]

theorem chosenFrame_none {s : State} (h : s.link.stopResume = none) (hm : s.link.marks = []) (ha : s.link.advance = false) :
    s.chosenFrame = none := by
  rw [State.chosenFrame, h, hm, ha]

/-- A bit of a flag byte (11.1). -/
theorem flagAt_getLsbD (n k : Nat) (b : Bool) : (flagAt n b).getLsbD k = (b && (decide (n < 8) && decide (n = k))) := by
  cases b
  · simp [flagAt]
  · simp [flagAt, BitVec.getLsbD_twoPow]

theorem holds_eq (r : RateState) (component : Nat) :
    r.holds component = decide (component = r.minimum ∧ r.minimum < r.stationMax) := by
  rw [RateState.holds, Bool.decide_and]
  rfl

/-- The flags of an ADVANCE, bit by bit (R1, R116, R168). -/
theorem advanceFlags_bits (s : State) :
    s.advanceFlags.getLsbD 7 = s.rate.holds s.rate.knifeLimit ∧ s.advanceFlags.getLsbD 6 = s.rate.holds s.rate.setLimit
      ∧ s.advanceFlags.getLsbD 5 = s.rate.holds s.rate.standLimit ∧ s.advanceFlags.getLsbD 4 = s.rate.holds s.rate.dancerLimit
      ∧ s.advanceFlags.getLsbD 3 = s.box.inForce ∧ s.advanceFlags.getLsbD 2 = (s.port.state == .fault)
      ∧ s.advanceFlags.getLsbD 1 = (s.port.state == .joining) ∧ s.advanceFlags.getLsbD 0 = s.rate.latch := by
  simp only [State.advanceFlags, BitVec.getLsbD_or, flagAt_getLsbD]
  simp

/-- What handing an ADVANCE request does outside SILENT (R163, R167). -/
theorem handAdvance_of_not_silent {s : State} (h : s.port.state ≠ .silent) :
    s.handAdvance = { s with
      link.advance := true
      link.onLink := s.link.replacedIn .advance
      link.pubOverruns := if s.link.advance then satInc s.link.pubOverruns else s.link.pubOverruns } := if_neg h

/-! ## The end of a transmission -/

/-- What a frame that is sent leaves in the buffer (R164). -/
theorem sentFrame_eq (l : Link) (f : OnLink) : l.sentFrame f = { l with
    stopResume := if f.slot = .stopResume ∧ f.replaced = false then none else l.stopResume
    advance := if f.slot = .advance ∧ f.replaced = false then false else l.advance
    marks := if f.slot = .mark then l.marks.drop 1 else l.marks } := by
  unfold Link.sentFrame
  cases hs : f.slot <;> cases hr : f.replaced <;> simp

/-- The 16th failure in a row silences the station (R161, R162). -/
theorem exec_transmitFailure {s : State} {f : OnLink} (h : s.link.onLink = some f) :
    exec .transmitFailure s = .next (
      if min (s.link.failures + 1) 16 = 16 then
        (State.enterSilent { s with link.onLink := none, link.failures := min (s.link.failures + 1) 16 }).settle
      else { s with link.onLink := none, link.failures := min (s.link.failures + 1) 16 }) := by
  show (if s.link.onLink.isSome then _ else Host.Outcome.next s) = _
  rw [if_pos (by rw [h]; rfl)]

/-- The station after its 16th failure in a row, before the settling (R162). -/
def State.silenced (s : State) : State := State.enterSilent { s with link.onLink := none, link.failures := 16 }

theorem silenced_calm (s : State) : s.silenced.calm = { s.calm with
    link := { s.link with
      onLink := none, failures := 16, advance := false, stopResume := none, marks := [], pubDue := none
      change := some { cause := .silent, peer := none, rxErrors := s.link.rxErrors } } } := rfl

theorem silenced_still (s : State) : s.silenced.still = { s.still with failures := 16, pubDue := none } := rfl

theorem silenced_obeys {s : State} (h : s.KnifeObeys) : s.silenced.KnifeObeys := h

theorem silenced_link_flag (s : State) : s.silenced.port.ip.getLsbD 0 = true := by
  simp [State.silenced, State.enterSilent, State.linkEvent, State.signal, Source.flag, Source.bit]

/-- Settles O53: the choice of the frame, the flags of an ADVANCE, and the three ends of a transmission. -/
theorem transmissionsRun : Obligations.TransmissionsRun := by
  refine ⟨fun s => ⟨fun h => ?_, fun hm hs ho => ?_, fun hp => ?_, fun due hp hn => ?_, ?_⟩, fun s hm hs ho hsr hmk ha => ?_, fun s =>
    ⟨fun h => ⟨?_, ?_, ?_⟩, fun f hf => ⟨?_, fun hlt => ?_, fun hge hk => ?_, ?_⟩⟩⟩
  · refine exec_transmissionStart_waits ?_
    rw [Ne, maySend_iff]
    rcases h with h | h | h | h | ⟨hsr, hmk, ha⟩
    · exact .inl fun c => h c.1
    · exact .inl fun c => by simp [h] at c
    · exact .inl fun c => by simp [h] at c
    · exact .inl fun c => by rw [c.2.2] at h; cases h
    · exact .inr (chosenFrame_none hsr hmk ha)
  · have hmay := (maySend_iff s).mpr ⟨hm, hs, ho⟩
    exact ⟨fun reason hr => exec_transmissionStart hmay (chosenFrame_stopResume hr),
      fun hr => exec_transmissionStart hmay (chosenFrame_stopResume hr),
      fun m ms hr hmk => exec_transmissionStart hmay (chosenFrame_mark hr hmk),
      fun hr hmk ha => exec_transmissionStart hmay (chosenFrame_advance hr hmk ha)⟩
  · show execPublicationTimerExpiry s = _
    rw [execPublicationTimerExpiry, hp]
  · show execPublicationTimerExpiry s = _
    rw [execPublicationTimerExpiry, hp]
    exact congrArg Host.Outcome.next (handAdvance_of_not_silent
      (s := { s.reachTime due with link.pubDue := some (due + 10000) }) hn)
  · show execLinkJoinIdle s = _
    unfold execLinkJoinIdle
    split <;> rfl
  · obtain ⟨h7, h6, h5, h4, h3, h2, h1, h0⟩ := advanceFlags_bits s
    refine ⟨_, exec_transmissionStart ((maySend_iff s).mpr ⟨hm, hs, ho⟩) (chosenFrame_advance hsr hmk ha), s.advancePayload, rfl,
      h7.trans (holds_eq _ _), h6.trans (holds_eq _ _), h5.trans (holds_eq _ _), h4.trans (holds_eq _ _), h3, h2.trans rfl, h1.trans rfl, h0,
      fun hj => ?_, fun hj => ?_, fun hj => ?_⟩
    all_goals simp [State.advancePayload, hj, stationCode]
  · show (if s.link.onLink.isSome then _ else Host.Outcome.next s) = _
    rw [h]; rfl
  · show (if s.link.onLink.isSome then _ else Host.Outcome.next s) = _
    rw [h]; rfl
  · show execTransmissionSuccess s = _
    rw [execTransmissionSuccess, h]
  · show (if s.link.onLink.isSome then _ else Host.Outcome.next s) = _
    rw [if_pos (by rw [hf]; rfl)]
  · have hmin : min (s.link.failures + 1) 16 = s.link.failures + 1 := by omega
    rw [exec_transmitFailure hf, hmin, if_neg (by omega)]
  · have hmin : min (s.link.failures + 1) 16 = 16 := by omega
    have hk' := silenced_obeys hk
    have hstate : s.silenced.settle.port.state = .silent := settle_state_of_obeys hk' fun c => StationState.noConfusion c
    refine ⟨s.silenced.settle, ?_, hstate, ?_, ?_, ?_, ?_⟩
    · rw [exec_transmitFailure hf, hmin, if_pos rfl]
      rfl
    · exact (Rises.settle s.silenced).2.2 0 (silenced_link_flag s)
    · exact settle_own_zero (.inl fun c => StationState.noConfusion (hstate.symm.trans c))
    · rw [settle_calm_of_obeys hk', silenced_calm]
    · rw [settle_still, silenced_still]
  · show execTransmissionSuccess s = _
    rw [execTransmissionSuccess, hf]
    simp only [sentFrame_eq]
    rfl

end Sys2Proof.Machine
end

section
namespace Sys2Proof.Machine

/-! # What sweeps and announcements leave -/

/-- The part of a state that no sweep of the outlet list touches, but for the panel accounting and the free choices. -/
structure Aside where
  now : Nat
  sets : Sets
  box : Box
  rate : RateState
  state : StationState
  fault : Option FaultRecord
  link : Link

/-- That part of a state. -/
def State.aside (s : State) : Aside :=
  { now := s.now, sets := s.sets, box := s.box, rate := s.rate, state := s.port.state, fault := s.port.fault, link := s.link }

/-- The part of a state that a sweep leaves, with the Dwell Table and the knife. -/
def State.unswept (s : State) : Aside × Dwell × Knife := (s.aside, s.dwell, s.knife)

theorem unswept_of_kept {s t : State} (hs : t.still = s.still) (hk : t.kept = s.kept) : t.unswept = s.unswept := by
  have e : ∀ u : State, u.unswept =
      ({ now := u.still.now, sets := u.still.sets, box := u.kept.2.1, rate := u.kept.2.2.2, state := u.kept.2.2.1
         fault := u.kept.1.fault, link := u.kept.1.link }, u.kept.1.dwell, u.kept.1.knife) := fun _ => rfl
  rw [e t, e s, hs, hk]

@[simp] theorem closePanel_unswept (s : State) (p : Pos) (f : Reasons → Reasons) : (s.closePanel p f).unswept = s.unswept :=
  unswept_of_kept (by simp) (by simp)

@[simp] theorem closeIfFull_unswept (s : State) (p : Pos) : (s.closeIfFull p).unswept = s.unswept := unswept_of_kept (by simp) (by simp)

@[simp] theorem splitCut_unswept (s : State) (id : SpindleId) : (s.splitCut id).unswept = s.unswept :=
  unswept_of_kept (by simp) (by simp)

@[simp] theorem transferCut_unswept (s : State) : s.transferCut.unswept = s.unswept := by
  unfold State.transferCut
  split
  · rfl
  · split <;> rfl

@[simp] theorem cutAtMaximum_unswept (s : State) : s.cutAtMaximum.unswept = s.unswept := by
  unfold State.cutAtMaximum
  split
  · rfl
  · exact splitCut_unswept _ _

@[simp] theorem flagPanel_unswept (s : State) (p : Pos) (f : Reasons → Reasons) : (s.flagPanel p f).unswept = s.unswept := by
  unfold State.flagPanel
  split
  · rfl
  · split <;> rfl

@[simp] theorem closeBeforeAbort_unswept (s : State) (p : Pos) : (s.closeBeforeAbort p).unswept = s.unswept := by
  unfold State.closeBeforeAbort
  split
  · split
    · rfl
    · exact closeIfFull_unswept _ _
  · exact closeIfFull_unswept _ _

@[simp] theorem handOff_unswept (s : State) (m : Mark) : (s.handOff m).unswept = s.unswept := by
  have note : ∀ t : State, (t.noteSplice m.pos).unswept = t.unswept := fun _ => rfl
  have opened : ∀ (t : State) (n : BitVec 16), (t.openPanelAt m.pos n).unswept = t.unswept := fun _ _ => rfl
  have underset : ∀ (t : State) (e : Nat), (t.undersetMark m.pos e).unswept = t.unswept := fun _ _ => rfl
  unfold State.handOff
  split <;> simp [note, opened, underset]

@[simp] theorem markLeaves_unswept (s : State) (m : Mark) : (s.markLeaves m).unswept = s.unswept := by
  unfold State.markLeaves; split <;> simp

@[simp] theorem leaveFrom_unswept (limit : Pos) (ms : List Mark) : ∀ s : State, (s.leaveFrom limit ms).unswept = s.unswept := by
  induction ms with
  | nil => intro s; rfl
  | cons m ms ih =>
    intro s
    unfold State.leaveFrom
    split
    · rw [ih, markLeaves_unswept]
    · rfl

@[simp] theorem endPanel_unswept (s : State) (p : Pos) : (s.endPanel p).unswept = s.unswept := by
  unfold State.endPanel; split <;> simp

@[simp] theorem sweepTo_unswept (s : State) (p : Pos) : (s.sweepTo p).unswept = s.unswept := by simp [State.sweepTo]

@[simp] theorem outletSweep_unswept (s : State) : s.outletSweep.unswept = s.unswept := sweepTo_unswept _ _

@[simp] theorem account_unswept (s : State) : s.account.unswept = s.unswept := by
  have chosen : ∀ t : State, t.chosen.unswept = t.unswept := fun _ => rfl
  unfold State.account eitherOrder
  split
  · simp
  · split <;> simp [chosen]

/-! ## A sweep only shortens the outlet list -/

theorem leaveFrom_outlet (limit : Pos) (ms : List Mark) : ∀ s : State, (s.leaveFrom limit ms).web.outlet.length ≤ ms.length := by
  induction ms with
  | nil => intro s; exact le_rfl
  | cons m ms ih =>
    intro s
    unfold State.leaveFrom
    split
    · exact (ih _).trans (Nat.le_succ _)
    · exact le_rfl

theorem endPanel_web (s : State) (p : Pos) : (s.endPanel p).web = s.web := by
  unfold State.endPanel
  split
  · exact congrArg Calm.web (calm_of_kept (closeIfFull_kept s p))
  · rfl

theorem splitCut_web (s : State) (id : SpindleId) : (s.splitCut id).web = s.web := congrArg Calm.web (calm_of_kept (splitCut_kept s id))

theorem cutAtMaximum_web (s : State) : s.cutAtMaximum.web = s.web := by
  unfold State.cutAtMaximum
  split
  · rfl
  · exact splitCut_web s _

theorem sweepTo_outlet (s : State) (p : Pos) : (s.sweepTo p).web.outlet.length ≤ s.web.outlet.length := by
  rw [State.sweepTo, endPanel_web]
  exact leaveFrom_outlet _ _ _

theorem account_outlet (s : State) : s.account.web.outlet.length ≤ s.web.outlet.length := by
  have sweep : ∀ t : State, t.outletSweep.web.outlet.length ≤ t.web.outlet.length := fun t => sweepTo_outlet t _
  unfold State.account eitherOrder
  split
  · exact sweep s
  · have h := sweepTo_outlet s (s.web.o - 1)
    generalize s.sweepTo (s.web.o - 1) = t at h ⊢
    split
    · have hcut := sweep t.chosen.cutAtMaximum
      rw [cutAtMaximum_web] at hcut
      exact hcut.trans h
    · rw [cutAtMaximum_web]
      exact (sweep t.chosen).trans h

/-! ## Announcements counted -/

/-- A relation of states that counts announcements: each adds one, what leaves the set-aside part and does not lengthen the outlet list adds
none. -/
structure Announcing (R : Nat → State → State → Prop) : Prop where
  keep : ∀ {s t : State}, t.aside = s.aside → t.web.outlet.length ≤ s.web.outlet.length → R 0 s t
  announce : ∀ (s : State) (m : Mark), R 1 s (s.announce m)
  trans : ∀ {m n : Nat} {s t u : State}, R m s t → R n t u → R (m + n) s u
  mono : ∀ {m n : Nat} {s t : State}, m ≤ n → R m s t → R n s t

theorem raiseFault_dwell (s : State) (f : StationFault) : (s.raiseFault f).dwell = s.dwell := by
  have enter : ∀ t : State, (t.enterFault f).dwell = t.dwell := fun t => by
    unfold State.enterFault State.handStopResume State.setLatch State.setEffective
    simp only
    split <;> split <;> split <;> rfl
  unfold State.raiseFault
  split
  · rfl
  · exact enter _
  · exact enter _
  · rfl
  · rfl

/-- Announcements leave the cells of the Dwell Table (R88, R126). -/
theorem announce_cells (s : State) (m : Mark) : (s.announce m).dwell.cells = s.dwell.cells := by
  have hand : ∀ (t : State) (p : MarkPayload), (t.handMark p).dwell = t.dwell := fun t p => by
    unfold State.handMark
    split
    · rfl
    · split
      · exact raiseFault_dwell _ _
      · rfl
  have insert : ∀ t : State, (t.insertOutlet m).dwell = t.dwell := fun t => by
    unfold State.insertOutlet
    split
    · exact raiseFault_dwell _ _
    · rfl
  have sweep : ∀ t : State, t.outletSweep.dwell = t.dwell := fun t => congrArg (fun x => x.2.1) (outletSweep_unswept t)
  unfold State.announce
  simp only
  rw [sweep, insert]
  split
  · rfl
  · rw [hand]; rfl

theorem creditFrom_cells (ok : Pos) (es : List BayEntry) :
    ∀ (kept : List BayEntry) (s : State), (s.creditFrom ok kept es).dwell.cells = s.dwell.cells := by
  induction es with
  | nil => intro kept s; rfl
  | cons e es ih =>
    intro kept s
    unfold State.creditFrom
    split
    · rw [ih]; exact announce_cells s _
    · exact ih _ _

namespace Announcing

variable {R : Nat → State → State → Prop}

theorem of_aside (h : Announcing R) (n : Nat) {s t : State} (ha : t.aside = s.aside) (hl : t.web.outlet.length ≤ s.web.outlet.length) :
    R n s t := h.mono (Nat.zero_le n) (h.keep ha hl)

theorem before (h : Announcing R) {n : Nat} {s t u : State} (ha : t.aside = s.aside)
    (hl : t.web.outlet.length ≤ s.web.outlet.length) (hr : R n t u) : R n s u := h.mono (Nat.zero_add n).le (h.trans (h.keep ha hl) hr)

theorem after (h : Announcing R) {n : Nat} {s t u : State} (hr : R n s t) (ha : u.aside = t.aside)
    (hl : u.web.outlet.length ≤ t.web.outlet.length) : R n s u := h.mono (Nat.add_zero n).le (h.trans hr (h.keep ha hl))

theorem closeRange (h : Announcing R) (s : State) : R 1 s s.closeRange := by
  unfold State.closeRange
  split
  · exact h.of_aside 1 rfl le_rfl
  · rename_i r _
    have ha : R 1 s (s.announceOwn (.underset (BitVec.ofNat 16 r.extent)) r.start) := h.announce s _
    generalize s.announceOwn (.underset (BitVec.ofNat 16 r.extent)) r.start = t at ha ⊢
    exact h.after ha rfl le_rfl

theorem undersetCell (h : Announcing R) (s : State) (p : Pos) : R 1 s (s.undersetCell p) := by
  unfold State.undersetCell
  split
  · exact h.of_aside 1 rfl le_rfl
  · split
    · exact h.of_aside 1 rfl le_rfl
    · exact h.after (h.closeRange s) rfl le_rfl

theorem exitCell (h : Announcing R) (s : State) (c : DwellCell) : R 1 s (s.exitCell c) := by
  unfold State.exitCell
  simp only
  split
  · refine h.before ?_ ?_ (h.closeRange _)
    · rfl
    · exact le_rfl
  · refine h.before ?_ ?_ (h.undersetCell _ _)
    · rfl
    · exact le_rfl

/-- Each cell that exits announces one mark at most (R129 to R131). -/
theorem exitFrom (h : Announcing R) (cs : List DwellCell) : ∀ s : State, R cs.length s (s.exitFrom cs) := by
  induction cs with
  | nil => intro s; exact h.keep rfl le_rfl
  | cons c cs ih =>
    intro s
    unfold State.exitFrom
    split
    · exact h.mono (Nat.add_comm 1 _).le (h.trans (h.exitCell s c) (ih _))
    · exact h.of_aside _ rfl le_rfl

theorem dwellAdvance (h : Announcing R) (s : State) : R s.dwell.cells.length s s.dwellAdvance := by
  unfold State.dwellAdvance
  exact h.after (h.exitFrom _ s) rfl le_rfl

theorem account (h : Announcing R) (s : State) : R 0 s s.account := h.keep (congrArg Prod.fst (account_unswept s)) (account_outlet s)

/-- Each entry of the bay queue announces one mark at most at a credit (R87). -/
theorem creditFrom (h : Announcing R) (ok : Pos) (es : List BayEntry) :
    ∀ (kept : List BayEntry) (s : State), R es.length s (s.creditFrom ok kept es) := by
  induction es with
  | nil => intro kept s; exact h.keep rfl le_rfl
  | cons e es ih =>
    intro kept s
    unfold State.creditFrom
    split
    · exact h.mono (Nat.add_comm 1 _).le (h.trans (h.announce s _) (ih _ _))
    · exact h.mono (Nat.le_succ _) (ih _ _)

theorem advanceOutlet (h : Announcing R) (s : State) (n : Nat) : R 0 s (s.advanceOutlet n) := by
  unfold State.advanceOutlet State.wind
  split <;> exact h.keep rfl le_rfl

/-- What follows the advance of O at a credit announces a mark at most for each entry of the bay queue and each cell (R87, R129). -/
theorem creditAfter (h : Announcing R) (w : Nat) (s : State) : R (s.web.bay.length + s.dwell.cells.length) s
    (s.afterAdvance fun x => x.creditFrom (x.web.seg.outletStart + toPos w) [] x.web.bay) := by
  have dwell : ∀ t : State, R t.dwell.cells.length t t.dwellAdvance.account := fun t => h.trans (h.dwellAdvance t) (h.account _)
  have bay : ∀ t : State, t.dwellAdvance.account.web.bay = t.web.bay := fun t =>
    congrArg Steady.bay (show t.dwellAdvance.account.steady = t.steady by simp)
  unfold State.afterAdvance
  split
  · have hb : s.account.web.bay = s.web.bay := congrArg Steady.bay (account_steady s)
    refine h.mono ?_ (h.trans (h.account s) (h.creditFrom _ _ _ _))
    rw [hb]
    omega
  · have hc : R 0 s s.chosen := h.keep rfl le_rfl
    unfold eitherOrder
    split
    · refine h.mono ?_ (h.trans hc (h.trans (dwell s.chosen) (h.creditFrom _ _ _ _)))
      rw [bay]
      show 0 + (s.dwell.cells.length + s.web.bay.length) ≤ _
      omega
    · refine h.mono ?_ (h.trans hc (h.trans (h.creditFrom _ _ _ s.chosen) (dwell _)))
      rw [creditFrom_cells]
      show 0 + (s.web.bay.length + s.dwell.cells.length) ≤ _
      omega

theorem creditFold (h : Announcing R) (s : State) (w : Nat) : R (s.web.bay.length + s.dwell.cells.length) s (s.creditFold w) := by
  unfold State.creditFold
  simp only
  have ht : ∀ t : State, (t.advanceOutlet w).web.bay = t.web.bay ∧ (t.advanceOutlet w).dwell = t.dwell := fun t => by
    unfold State.advanceOutlet State.wind
    split <;> exact ⟨rfl, rfl⟩
  obtain ⟨hb, hd⟩ := ht { s with web.seg := s.web.seg.credit }
  have h1 : R 0 s { s with web.seg := s.web.seg.credit } := h.keep rfl le_rfl
  refine h.mono ?_ (h.trans h1 (h.trans (h.advanceOutlet _ w) (h.creditAfter w _)))
  rw [hb, hd]
  show 0 + (0 + (s.web.bay.length + s.dwell.cells.length)) ≤ _
  omega

/-- Entry to ABORTING announces the MISSFOLD, and a mark at most for each entry of the bay queue and each cell (R47, R87, R129). -/
theorem enterAborting (h : Announcing R) (s : State) : R (s.web.bay.length + s.dwell.cells.length + 1) s s.enterAborting := by
  unfold State.enterAborting
  simp only
  split
  · exact h.mono (Nat.zero_le _) (h.keep rfl le_rfl)
  · rename_i c _
    have hc : R 0 s { s with
        knife.phase := .aborting, knife.due := s.now + 1000 * s.sets.knife.tRelease, knife.missed := satInc s.knife.missed } :=
      h.keep rfl le_rfl
    refine h.mono (Nat.le_of_eq ?_) (h.trans hc (h.trans (h.creditFold _ c.w) (h.announce _ _)))
    show 0 + (s.web.bay.length + s.dwell.cells.length + 1) = _
    omega

end Announcing

/-! ## The idle timer through announcements -/

/-- The idle timer is as it was, or started afresh; time and sets are the same. -/
def IdleKept (s t : State) : Prop := t.sets = s.sets ∧ t.now = s.now ∧ (t.box.idle = s.box.idle ∨ t.box.idle = s.startedIdle)

namespace IdleKept

theorem of_aside {s t : State} (h : t.aside = s.aside) : IdleKept s t :=
  ⟨congrArg Aside.sets h, congrArg Aside.now h, .inl (congrArg (fun x => x.box.idle) h)⟩

theorem startedIdle {s t : State} (h : IdleKept s t) : t.startedIdle = s.startedIdle := by
  unfold State.startedIdle
  rw [h.1, h.2.1]

theorem trans {s t u : State} (h : IdleKept s t) (g : IdleKept t u) : IdleKept s u := by
  refine ⟨g.1.trans h.1, g.2.1.trans h.2.1, ?_⟩
  rcases g.2.2 with e | e
  · rw [e]; exact h.2.2
  · exact .inr (e.trans h.startedIdle)

theorem setEffective_zero (s : State) : IdleKept s (s.setEffective 0) := by
  unfold State.setEffective State.idleAfterRate
  split
  · exact ⟨rfl, rfl, .inl rfl⟩
  · refine ⟨rfl, rfl, ?_⟩
    simp only
    split
    · exact .inr rfl
    · exact .inl (if_neg fun c => Nat.lt_irrefl 0 c.2)

theorem enterFault (s : State) (f : StationFault) : IdleKept s (s.enterFault f) := by
  have latch : ∀ t : State, IdleKept t (t.setLatch { origin := .fault, reason := f.code }) := fun t => by
    have ht : IdleKept t (State.setEffective
        { t with rate.latch := true, rate.cause := some { origin := .fault, reason := f.code }, knife := t.knife.latched } 0) :=
      trans (t := { t with rate.latch := true, rate.cause := some { origin := .fault, reason := f.code }, knife := t.knife.latched })
        ⟨rfl, rfl, .inl rfl⟩ (setEffective_zero _)
    unfold State.setLatch
    simp only
    split
    · exact ht
    · exact ht.trans ⟨rfl, rfl, .inl rfl⟩
  have hand : ∀ t : State, IdleKept t (t.handStopResume (.stop f.code)) := fun t => by
    unfold State.handStopResume
    split <;> exact ⟨rfl, rfl, .inl rfl⟩
  have h0 : IdleKept s { s with port.state := .fault, port.fault := some { first := f, further := false } } := ⟨rfl, rfl, .inl rfl⟩
  exact (h0.trans (latch _)).trans (hand _)

theorem raiseFault (s : State) (f : StationFault) : IdleKept s (s.raiseFault f) := by
  have h0 : IdleKept s (s.signal .fault) := ⟨rfl, rfl, .inl rfl⟩
  unfold State.raiseFault
  split
  · exact ⟨rfl, rfl, .inl rfl⟩
  · exact h0.trans (enterFault _ f)
  · exact h0.trans (enterFault _ f)
  · exact ⟨rfl, rfl, .inl rfl⟩
  · exact ⟨rfl, rfl, .inl rfl⟩

theorem announce (s : State) (m : Mark) : IdleKept s (s.announce m) := by
  have hand : ∀ (t : State) (p : MarkPayload), IdleKept t (t.handMark p) := fun t p => by
    unfold State.handMark
    split
    · exact ⟨rfl, rfl, .inl rfl⟩
    · split
      · exact raiseFault _ _
      · exact ⟨rfl, rfl, .inl rfl⟩
  have insert : ∀ t : State, IdleKept t (t.insertOutlet m) := fun t => by
    unfold State.insertOutlet
    split
    · exact raiseFault _ _
    · exact ⟨rfl, rfl, .inl rfl⟩
  have sweep : ∀ t : State, IdleKept t t.outletSweep := fun t => of_aside (congrArg Prod.fst (outletSweep_unswept t))
  have count : IdleKept s (s.countAnnounced m) := ⟨rfl, rfl, .inl rfl⟩
  unfold State.announce
  simp only
  split
  · exact (count.trans (insert _)).trans (sweep _)
  · exact ((count.trans (hand _ _)).trans (insert _)).trans (sweep _)

theorem announcing : Announcing fun _ => IdleKept :=
  { keep := fun h _ => of_aside h, announce := announce, trans := trans, mono := fun _ h => h }

theorem knifeSettle (s : State) : IdleKept s s.knifeSettle := by
  unfold State.knifeSettle
  split
  · split
    · exact announcing.enterAborting s
    all_goals exact ⟨rfl, rfl, .inl rfl⟩
  · exact ⟨rfl, rfl, .inl rfl⟩

end IdleKept

/-! ## Announcements with room -/

/-- With room for `n` more marks in the MARK slots and in the outlet list no fault is raised: the rates, the fault record, the STOP or RESUME
slot and the frame on the link stay, and the two lists grow by `n` at most. -/
def Roomy (n : Nat) (s t : State) : Prop :=
  s.link.marks.length + n ≤ 6 → s.web.outlet.length + n ≤ 16 →
    t.rate = s.rate ∧ t.port.fault = s.port.fault ∧ t.link.stopResume = s.link.stopResume ∧ t.link.onLink = s.link.onLink
      ∧ t.link.marks.length ≤ s.link.marks.length + n ∧ t.web.outlet.length ≤ s.web.outlet.length + n

namespace Roomy

theorem keep {s t : State} (h : t.aside = s.aside) (hl : t.web.outlet.length ≤ s.web.outlet.length) : Roomy 0 s t := fun _ _ =>
  ⟨congrArg Aside.rate h, congrArg Aside.fault h, congrArg (fun x => x.link.stopResume) h, congrArg (fun x => x.link.onLink) h,
    (congrArg (fun x => x.link.marks.length) h).le, hl⟩

theorem mono {m n : Nat} {s t : State} (hmn : m ≤ n) (h : Roomy m s t) : Roomy n s t := fun hm ho => by
  obtain ⟨hr, hf, hs, hl, hmarks, houtlet⟩ := h (by omega) (by omega)
  exact ⟨hr, hf, hs, hl, by omega, by omega⟩

theorem trans {m n : Nat} {s t u : State} (h : Roomy m s t) (g : Roomy n t u) : Roomy (m + n) s u := fun hm ho => by
  obtain ⟨hr, hf, hs, hl, hmarks, houtlet⟩ := h (by omega) (by omega)
  obtain ⟨gr, gf, gs, gl, gmarks, goutlet⟩ := g (by omega) (by omega)
  exact ⟨gr.trans hr, gf.trans hf, gs.trans hs, gl.trans hl, by omega, by omega⟩

/-- A MARK frame that finds a free slot is handed without a fault (R163). -/
theorem handMark (s : State) (p : MarkPayload) (h : s.link.marks.length < 6) :
    (s.handMark p).rate = s.rate ∧ (s.handMark p).port.fault = s.port.fault ∧ (s.handMark p).link.stopResume = s.link.stopResume
      ∧ (s.handMark p).link.onLink = s.link.onLink ∧ (s.handMark p).link.marks.length ≤ s.link.marks.length + 1
      ∧ (s.handMark p).web = s.web := by
  unfold State.handMark
  split
  · exact ⟨rfl, rfl, rfl, rfl, Nat.le_succ _, rfl⟩
  · rw [if_neg (Nat.not_le_of_lt h)]
    exact ⟨rfl, rfl, rfl, rfl, by simp, rfl⟩

/-- A mark that finds room in the outlet list enters it without a fault (R82). -/
theorem insertOutlet (s : State) (m : Mark) (h : s.web.outlet.length < 16) :
    s.insertOutlet m = { s with web.outlet := insertMark Mark.pos m s.web.outlet } := if_neg (Nat.not_le_of_lt h)

theorem announce (s : State) (m : Mark) : Roomy 1 s (s.announce m) := by
  intro hm ho
  have sweep : ∀ t : State, t.outletSweep.aside = t.aside := fun t => congrArg Prod.fst (outletSweep_unswept t)
  have entered : ∀ t : State, t.web.outlet = s.web.outlet → t.rate = s.rate → t.port.fault = s.port.fault →
      t.link.stopResume = s.link.stopResume → t.link.onLink = s.link.onLink → t.link.marks.length ≤ s.link.marks.length + 1 →
      let u := (t.insertOutlet m).outletSweep
      u.rate = s.rate ∧ u.port.fault = s.port.fault ∧ u.link.stopResume = s.link.stopResume ∧ u.link.onLink = s.link.onLink
        ∧ u.link.marks.length ≤ s.link.marks.length + 1 ∧ u.web.outlet.length ≤ s.web.outlet.length + 1 := by
    intro t hw hr hf hs hl hk u
    have hu : u.aside = t.aside := by
      show (t.insertOutlet m).outletSweep.aside = _
      rw [sweep, insertOutlet t m (by rw [hw]; omega)]
      rfl
    have hlen : u.web.outlet.length ≤ s.web.outlet.length + 1 := by
      refine (sweepTo_outlet _ _).trans ?_
      rw [insertOutlet t m (by rw [hw]; omega)]
      simp [hw]
    exact ⟨(congrArg Aside.rate hu).trans hr, (congrArg Aside.fault hu).trans hf,
      (congrArg (fun x => x.link.stopResume) hu).trans hs, (congrArg (fun x => x.link.onLink) hu).trans hl,
      (congrArg (fun x => x.link.marks.length) hu).le.trans hk, hlen⟩
  unfold State.announce
  simp only
  split
  · exact entered (s.countAnnounced m) rfl rfl rfl rfl rfl (Nat.le_succ _)
  · obtain ⟨hr, hf, hs, hl, hk, hw⟩ := handMark (s.countAnnounced m) (m.payload (s.countAnnounced m).web.sent)
      (show s.link.marks.length < 6 by omega)
    exact entered _ (by rw [hw]; rfl) hr hf hs hl hk

theorem announcing : Announcing Roomy := { keep := keep, announce := announce, trans := trans, mono := mono }

end Roomy

end Sys2Proof.Machine
end

section
namespace Sys2Proof.Machine

/-! # Keep-warm through a settling -/

theorem valveRule_still {r : Zone} (h : r.state ≠ .ready ∧ r.state ≠ .open) (rate : Nat) : r.valveRule rate = r := by
  unfold Zone.valveRule
  rw [if_neg (fun c => h.1 c.1), if_neg (fun c => h.2 c.1)]

/-- The drain is granted to a READY zone alone (R111). -/
theorem drainChoice_ready {zones : Vector Zone 4} {z : Fin 4} (h : drainChoice zones = some z) : zones[z].state = .ready := by
  have fold : ∀ (l : List (Fin 4)) (best : Option (Fin 4)), (∀ y, best = some y → zones[y].state = .ready) →
      ∀ y, l.foldl (betterForDrain zones) best = some y → zones[y].state = .ready := by
    intro l
    induction l with
    | nil => exact fun best hb => hb
    | cons x l ih =>
      intro best hb
      refine ih _ fun y hy => ?_
      unfold betterForDrain at hy
      split at hy
      · rename_i hr
        have hx : zones[x].state = .ready := by
          simp only [requestsDrain, Bool.and_eq_true, beq_iff_eq] at hr
          exact hr.1
        split at hy
        · exact Option.some.inj hy ▸ hx
        · split at hy
          · exact Option.some.inj hy ▸ hx
          · exact hb y hy
      · exact hb y hy
  exact fold _ _ (fun y hy => by cases hy) z h

/-- The valves and the drain move no zone that is neither READY nor OPEN (R104, R111). -/
theorem arbitrate_zone {s : State} {z : Fin 4} (h : (s.zone z).state ≠ .ready) : s.arbitrate.zone z = s.zone z := by
  unfold State.arbitrate
  split
  · rfl
  · split
    · rfl
    · rename_i y hy
      rw [grantDrain_zone, if_neg]
      rintro rfl
      exact h (drainChoice_ready hy)

theorem arbitrate_keeps (s : State) : s.arbitrate.box.inForce = s.box.inForce ∧ s.arbitrate.box.change = s.box.change
    ∧ s.arbitrate.box.idle = s.box.idle := by
  unfold State.arbitrate
  split
  · exact ⟨rfl, rfl, rfl⟩
  · split <;> exact ⟨rfl, rfl, rfl⟩

/-- While keep-warm is in force, or the idle timer has not expired, the zones' settling enters no keep-warm (R115), and a zone that is
neither READY nor OPEN stays as it is. -/
theorem zoneSettle_box {s : State} (h : s.box.inForce = true ∨ s.box.idle ≠ .expired) :
    s.zoneSettle.box.inForce = s.box.inForce ∧ s.zoneSettle.box.change = s.box.change ∧ s.zoneSettle.box.idle = s.box.idle
      ∧ ∀ z, (s.zone z).state ≠ .ready → (s.zone z).state ≠ .open → s.zoneSettle.zone z = s.zone z := by
  obtain ⟨hf, hc, hi⟩ := arbitrate_keeps s.moveValves
  have entry : s.zoneSettle = s.moveValves.arbitrate := by
    unfold State.zoneSettle State.keepWarmEntry
    rw [if_neg]
    rintro ⟨hidle, hforce, _⟩
    rw [hi] at hidle
    rw [hf] at hforce
    exact h.elim (fun c => Bool.noConfusion (c.symm.trans hforce)) fun c => c hidle
  rw [entry]
  refine ⟨hf, hc, hi, fun z hr ho => ?_⟩
  have hv : s.moveValves.zone z = s.zone z := by rw [moveValves_zone, valveRule_still ⟨hr, ho⟩]
  rw [arbitrate_zone (by rw [hv]; exact hr), hv]

theorem knifeSettle_box (s : State) : s.knifeSettle.box.zones = s.box.zones ∧ s.knifeSettle.box.inForce = s.box.inForce
    ∧ s.knifeSettle.box.change = s.box.change := by
  unfold State.knifeSettle
  split
  · split
    · have hp := enterAborting_pace s
      exact ⟨congrArg Pace.zones hp, congrArg Pace.inForce hp, congrArg Pace.change hp⟩
    all_goals exact ⟨rfl, rfl, rfl⟩
  · exact ⟨rfl, rfl, rfl⟩

/-- While keep-warm is in force, or the idle timer is not to expire, a settling enters no keep-warm, and a zone that is neither READY nor OPEN
stays as it is. -/
theorem settle_box {s : State} (h : s.box.inForce = true ∨ s.box.idle ≠ .expired) :
    s.settle.box.inForce = s.box.inForce ∧ s.settle.box.change = s.box.change
      ∧ (s.settle.box.idle = s.box.idle ∨ s.settle.box.idle = s.startedIdle)
      ∧ ∀ z, (s.zone z).state ≠ .ready → (s.zone z).state ≠ .open → s.settle.zone z = s.zone z := by
  obtain ⟨hz, hf, hc⟩ := knifeSettle_box s
  have hidle := (IdleKept.knifeSettle s).2.2
  have started : s.startedIdle ≠ .expired := by unfold State.startedIdle; split <;> exact fun c => IdleTimer.noConfusion c
  have hzone : ∀ z, s.knifeSettle.zone z = s.zone z := fun z => congrArg (fun v : Vector Zone 4 => v[z]) hz
  have hq : s.knifeSettle.box.inForce = true ∨ s.knifeSettle.box.idle ≠ .expired := by
    rw [hf]
    refine h.imp_right fun hi => ?_
    rcases hidle with e | e
    · rw [e]; exact hi
    · rw [e]; exact started
  obtain ⟨gf, gc, gi, gz⟩ := zoneSettle_box hq
  have hb : s.settle.box = s.knifeSettle.zoneSettle.box := consequences_box _
  have hzs : ∀ z, s.settle.zone z = s.knifeSettle.zoneSettle.zone z := fun z => congrArg (fun b : Box => b.zones[z]) hb
  rw [hb]
  refine ⟨gf.trans hf, gc.trans hc, ?_, fun z hr ho => ?_⟩
  · rw [gi]; exact hidle
  · rw [hzs, gz z (by rw [hzone]; exact hr) (by rw [hzone]; exact ho), hzone]

/-- Keep-warm left and the step settled: what R117 says of the box. -/
theorem settle_keepWarmExit {s : State} (hf : s.box.inForce = true) :
    s.keepWarmExit.settle.box.inForce = false ∧ s.keepWarmExit.settle.box.change = some .keepWarmLeft
      ∧ s.keepWarmExit.settle.box.idle = s.startedIdle ∧ s.keepWarmExit.settle.port.ip.getLsbD 3 = true
      ∧ ∀ z : Fin 4, (s.isZone z = true → (s.zone z).state = .keepwarm ∨ (s.zone z).state = .off →
            s.keepWarmExit.settle.zone z = { s.zone z with state := .warming, settle := none })
          ∧ ((s.zone z).state = .fault → s.keepWarmExit.settle.zone z = s.zone z) := by
  have hexit : s.keepWarmExit.box.inForce = false ∧ s.keepWarmExit.box.change = some .keepWarmLeft
      ∧ s.keepWarmExit.box.idle = s.startedIdle ∧ s.keepWarmExit.startedIdle = s.startedIdle
      ∧ s.keepWarmExit.port.ip.getLsbD 3 = true := by
    unfold State.keepWarmExit
    rw [if_pos hf]
    refine ⟨rfl, rfl, rfl, rfl, ?_⟩
    simp [State.signal, Source.flag, Source.bit]
  have hz := keepWarmExit_zone s hf
  obtain ⟨hforce, hchange, hidle, hstart, hip⟩ := hexit
  have hq : s.keepWarmExit.box.idle ≠ .expired := by
    rw [hidle]; unfold State.startedIdle; split <;> exact fun c => IdleTimer.noConfusion c
  obtain ⟨gf, gc, gi, gz⟩ := settle_box (.inr hq)
  refine ⟨gf.trans hforce, gc.trans hchange, ?_, (Rises.settle _).2.2 3 hip, fun z => ⟨fun hzone hs => ?_, fun hs => ?_⟩⟩
  · rcases gi with e | e
    · exact e.trans hidle
    · exact e.trans hstart
  · have hw : s.keepWarmExit.zone z = (s.zone z).toWarming := by rw [hz, if_pos ⟨hzone, hs⟩]
    rw [gz z (by rw [hw]; exact fun c => ZoneState.noConfusion c) (by rw [hw]; exact fun c => ZoneState.noConfusion c), hw]
    rfl
  · have hw : s.keepWarmExit.zone z = s.zone z := by
      rw [hz, if_neg]
      rintro ⟨_, c | c⟩ <;> rw [hs] at c <;> cases c
    rw [gz z (by rw [hw, hs]; decide) (by rw [hw, hs]; decide), hw]

/-! # The turn to STALE -/

/-- The station at a peer's turn to STALE, before the peer condition is tested (R176, R178). -/
def State.staled (s : State) (id : StationId) (due : Nat) : State :=
  State.linkEvent ((s.reachTime due).setPeer id { s.peer id with presence := .stale, staleDue := none }) .stale (some id)

theorem exec_staleness_still {id : StationId} {s : State} (h : (s.peer id).presence ≠ .live ∨ (s.peer id).staleDue = none) :
    exec (.stalenessTimerExpiry id) s = .next s := by
  show execStalenessTimerExpiry id s = _
  unfold execStalenessTimerExpiry
  split
  · rfl
  · rename_i due hd
    exact if_neg (h.resolve_right fun c => by cases hd.symm.trans c)

theorem exec_staleness {id : StationId} {s : State} {due : Nat} (hl : (s.peer id).presence = .live) (hd : (s.peer id).staleDue = some due) :
    exec (.stalenessTimerExpiry id) s = .next (s.staled id due).keepWarmPeers.settle := by
  show execStalenessTimerExpiry id s = _
  unfold execStalenessTimerExpiry
  rw [hd]
  exact if_pos hl

/-- The test for leaving keep-warm moves nothing of the still part, the calm part or the station state. -/
theorem keepWarmPeers_keeps (s : State) : s.keepWarmPeers.still = s.still ∧ s.keepWarmPeers.calm = s.calm
    ∧ Rises s s.keepWarmPeers := by
  unfold State.keepWarmPeers State.keepWarmExit
  split
  · split
    · refine ⟨rfl, rfl, ?_⟩
      exact Rises.start (Rises.signal _ _) rfl rfl rfl
    · exact ⟨rfl, rfl, Rises.refl s⟩
  · exact ⟨rfl, rfl, Rises.refl s⟩

theorem knifeObeys_of_calm {s t : State} (h : t.calm = s.calm) (hk : s.KnifeObeys) : t.KnifeObeys := by
  have hknife : t.knife = s.knife := congrArg Calm.knife h
  have hlatch : t.rate.latch = s.rate.latch := congrArg Calm.latch h
  unfold State.KnifeObeys
  rw [hknife, hlatch]
  exact hk

theorem peersWake_of_peers {s t : State} (h : t.peers = s.peers) : t.PeersWake ↔ s.PeersWake := by
  unfold State.PeersWake State.peer
  rw [h]

theorem peers_of_still {s t : State} (h : t.still = s.still) : t.peers = s.peers := congrArg Still.peers h

/-- Keep-warm in force is left, or stays, by the peer condition once the step has settled (R117, R118). -/
theorem leftByPeers_settle {s : State} (hf : s.box.inForce = true) : LeftByPeers s s.keepWarmPeers.settle := by
  obtain ⟨hkeeps, _, _⟩ := keepWarmPeers_keeps s
  have hstill : s.keepWarmPeers.settle.still = s.still := (settle_still _).trans hkeeps
  have hpeers := peers_of_still hstill
  have hnow := now_of_still hstill
  unfold LeftByPeers
  rw [peersWake_of_peers hpeers, hnow]
  refine ⟨fun hw => ?_, fun hw => ?_⟩
  · obtain ⟨_, e⟩ := (keepWarmPeers_cases s).resolve_right fun c => c.1 hw
    have h := settle_keepWarmExit hf
    rw [e]
    generalize s.keepWarmExit.settle = t at h ⊢
    exact h
  · obtain ⟨_, e⟩ := (keepWarmPeers_cases s).resolve_left fun c => hw c.1
    rw [e]
    obtain ⟨gf, _, _, gz⟩ := settle_box (.inl hf)
    refine ⟨gf.trans hf, fun z hz => gz z ?_ ?_⟩
    all_goals rcases hz with hz | hz | hz <;> rw [hz] <;> decide

/-- What the peer condition's test and the settling leave where the knife has obeyed the latch. -/
theorem settle_keepWarmPeers {s : State} (hk : s.KnifeObeys) : s.keepWarmPeers.settle.still = s.still
    ∧ s.keepWarmPeers.settle.calm = s.calm ∧ Rises s s.keepWarmPeers.settle := by
  obtain ⟨hstill, hcalm, hrises⟩ := keepWarmPeers_keeps s
  exact ⟨(settle_still _).trans hstill, (settle_calm_of_obeys (knifeObeys_of_calm hcalm hk)).trans hcalm,
    hrises.trans (Rises.settle _)⟩

theorem staled_peer (s : State) (id y : StationId) (due : Nat) :
    (s.staled id due).peer y = if y = id then { s.peer id with presence := .stale, staleDue := none } else s.peer y :=
  setPeer_peer (s.reachTime due) id y _

theorem staled_link_flag (s : State) (id : StationId) (due : Nat) : (s.staled id due).port.ip.getLsbD 0 = true := by
  simp [State.staled, State.linkEvent, State.signal, Source.flag, Source.bit]

theorem staled_calm (s : State) (id : StationId) (due : Nat) : (s.staled id due).calm = { s.calm with
    link := { s.link with change := some { cause := .stale, peer := some id, rxErrors := s.link.rxErrors } } } := rfl

theorem staled_still (s : State) (id : StationId) (due : Nat) :
    (s.staled id due).still = { s.still with now := max s.now due, peers := (s.staled id due).peers } := rfl

theorem isPeer_of_still {s t : State} (h : t.sets = s.sets) (id : StationId) : t.isPeer id = s.isPeer id := by
  unfold State.isPeer State.ownId
  rw [h]

/-- Settles O60: the record turns STALE, and keep-warm is left by the records that remain LIVE. -/
theorem stalenessTurns : Obligations.StalenessTurns := by
  refine ⟨fun id s => ⟨exec_staleness_still, fun due hl hd hk => ?_⟩, fun id due s hl hd hf => ?_⟩
  · obtain ⟨hstill, hcalm, hrises⟩ := settle_keepWarmPeers (s := s.staled id due) hk
    have hlimits := settle_limitsCurrent (s.staled id due).keepWarmPeers
    refine ⟨_, exec_staleness hl hd, ?_⟩
    generalize (s.staled id due).keepWarmPeers.settle = t at hstill hcalm hrises hlimits ⊢
    have hpeers : t.peers = (s.staled id due).peers := congrArg Still.peers hstill
    have hpeer : ∀ y, t.peer y = if y = id then { s.peer id with presence := .stale, staleDue := none } else s.peer y := fun y =>
      (congrArg (fun v : Vector Peer 16 => v[y]) hpeers).trans (staled_peer s id y due)
    have hnow : t.now = max s.now due := congrArg Still.now hstill
    refine ⟨hnow, ?_, fun y hy => ?_, hrises.2.2 0 (staled_link_flag s id due), fun hp => ?_, hcalm.trans (staled_calm s id due), ?_⟩
    · rw [hpeer, if_pos rfl]
    · rw [hpeer, if_neg hy]
    · rw [hlimits.resolved]
      refine resolvedNow_of_not_live (id := id) ((isPeer_of_still (congrArg Still.sets hstill) id).trans hp) ?_
      rw [hpeer, if_pos rfl]
      exact fun c => Presence.noConfusion c
    · rw [hpeers, hnow, hstill, staled_still]
  · exact ⟨_, exec_staleness hl hd, leftByPeers_settle (s := s.staled id due) hf⟩

end Sys2Proof.Machine
end

section
namespace Sys2Proof.Machine

/-! # The latch set and cleared -/

@[simp] theorem latched_phase (k : Knife) : k.latched.phase = k.phase := by
  unfold Knife.latched; split <;> rfl

theorem latched_latched (k : Knife) : k.latched.latched = k.latched := by
  unfold Knife.latched
  by_cases h : k.phase = .feed <;> simp [h]

theorem setLatch_knife (s : State) (c : StopCause) : (s.setLatch c).knife = s.knife.latched := by
  unfold State.setLatch State.setEffective
  simp only
  split <;> split <;> simp [State.signal]

/-- What setting the latch does to the calm part (R6, R46). -/
theorem setLatch_calm (s : State) (c : StopCause) : (s.setLatch c).calm =
    { s.calm with latch := true, cause := some c, effective := 0, knife := s.knife.latched } := by
  obtain ⟨hlatch, hcause, heff⟩ := setLatch_rate s c
  obtain ⟨hweb, hlink, hdwell, _, _, hfault⟩ := setLatch_rest s c
  have hchoices : (s.setLatch c).choices = s.choices := by
    unfold State.setLatch State.setEffective
    simp only
    split <;> split <;> rfl
  simp only [State.calm, setLatch_knife, hlatch, hcause, heff, hweb, hlink, hdwell, hfault, hchoices]

/-- A change of the latch signals STOP (R8). -/
theorem setLatch_flag {s : State} (h : s.rate.latch = false) (c : StopCause) : (s.setLatch c).port.ip.getLsbD 5 = true := by
  unfold State.setLatch
  simp [h, State.signal, Source.flag, Source.bit]

theorem clearLatch_calm (s : State) : s.clearLatch.calm = { s.calm with latch := false } := by
  unfold State.clearLatch
  split
  · rfl
  · rename_i h
    have hl : s.rate.latch = false := by simpa using h
    simp [State.calm, hl]

theorem clearLatch_box (s : State) : s.clearLatch.box = s.box := by
  unfold State.clearLatch; split <;> rfl

theorem clearLatch_state (s : State) : s.clearLatch.port.state = s.port.state := by
  unfold State.clearLatch; split <;> rfl

theorem clearLatch_flag {s : State} (h : s.rate.latch = true) : s.clearLatch.port.ip.getLsbD 5 = true := by
  unfold State.clearLatch
  simp [h, State.signal, Source.flag, Source.bit]

/-- A STOP or RESUME handed outside SILENT (R163). -/
theorem handStopResume_of_not_silent {s : State} (h : s.port.state ≠ .silent) (f : StopResume) :
    s.handStopResume f = { s with link.stopResume := some f, link.onLink := s.link.replacedIn .stopResume } := if_neg h

/-- A settling under the latch that does not find the knife in TUCK (R46, R48), where the knife is as the latch left it. -/
theorem settle_calm_latched {s : State} {k : Knife} (hl : s.rate.latch = true) (hk : s.knife = k.latched) (hp : k.phase ≠ .tuck) :
    s.settle.calm = s.calm := by
  rw [settle_calm fun _ => by rw [hk, latched_phase]; exact hp]
  have : s.knife.settled s.rate.latch = s.knife := by rw [Knife.settled, if_pos hl, hk, latched_latched]
  rw [this]
  rfl

/-- A settling that finds the knife in TUCK under the latch (R47): the pace after entry to ABORTING. -/
theorem settle_tuck {s : State} (hl : s.rate.latch = true) (hp : s.knife.phase = .tuck) :
    s.settle.calm = s.enterAborting.calm := by
  rw [State.settle, consequences_calm, State.knifeSettle, if_pos hl, hp]

/-- The knife and the outlet count once a TUCK has aborted (R47). -/
theorem settle_tuck_knife {s : State} (hl : s.rate.latch = true) (hp : s.knife.phase = .tuck) :
    s.settle.knife.phase = .aborting ∧ s.settle.knife.due = s.now + 1000 * s.sets.knife.tRelease
      ∧ s.settle.knife.missed = satInc s.knife.missed ∧ s.settle.knife.cycle = s.knife.cycle
      ∧ s.settle.web.o = s.web.o + toPos s.cycleWidth := by
  have hc := settle_tuck hl hp
  have hpace := enterAborting_pace s
  generalize s.settle = t at hc ⊢
  generalize s.enterAborting = u at hc hpace
  have hknife : t.knife = u.knife := congrArg Calm.knife hc
  have hweb : t.web = u.web := congrArg Calm.web hc
  rw [hknife, hweb]
  exact ⟨congrArg Pace.phase hpace, congrArg Pace.due hpace, congrArg Pace.missed hpace, congrArg Pace.cycle hpace,
    congrArg Pace.o hpace⟩

theorem keepWarmExit_keeps (s : State) : s.keepWarmExit.still = s.still ∧ s.keepWarmExit.calm = s.calm ∧ Rises s s.keepWarmExit := by
  unfold State.keepWarmExit
  split
  · refine ⟨rfl, rfl, ?_⟩
    exact Rises.start (Rises.signal _ _) rfl rfl rfl
  · exact ⟨rfl, rfl, Rises.refl s⟩

/-- Keep-warm left and settled, seen from a state with the same box, sets and time. -/
theorem settle_keepWarmExit_of {s u : State} (hb : u.box = s.box) (hs : u.still.sets = s.sets) (hn : u.still.now = s.now)
    (hf : s.box.inForce = true) :
    u.keepWarmExit.settle.box.inForce = false ∧ u.keepWarmExit.settle.box.idle = s.startedIdle
      ∧ u.keepWarmExit.settle.port.ip.getLsbD 3 = true
      ∧ ∀ z : Fin 4, (s.isZone z = true → (s.zone z).state = .keepwarm ∨ (s.zone z).state = .off →
            u.keepWarmExit.settle.zone z = { s.zone z with state := .warming, settle := none })
          ∧ ((s.zone z).state = .fault → u.keepWarmExit.settle.zone z = s.zone z) := by
  have hstart : u.startedIdle = s.startedIdle := by
    unfold State.startedIdle
    rw [show u.sets = s.sets from hs, show u.now = s.now from hn]
  have hzone : ∀ z, u.zone z = s.zone z := fun z => congrArg (fun b : Box => b.zones[z]) hb
  have his : ∀ z, u.isZone z = s.isZone z := fun z => by rw [State.isZone, show u.sets = s.sets from hs]; rfl
  obtain ⟨h1, _, h2, h3, h4⟩ := settle_keepWarmExit (s := u) (hb ▸ hf)
  generalize u.keepWarmExit.settle = t at h1 h2 h3 h4 ⊢
  refine ⟨h1, h2.trans hstart, h3, fun z => ?_⟩
  have hz := h4 z
  rw [hzone, his] at hz
  exact hz

/-! # RESUME and WAKE -/

/-- The arguments of a command without any pass the count (R199). -/
theorem countRefusal_nil (r : Option Byte) : countRefusal [] 0 r = r := rfl

theorem sending_of_states {s : State} (h : s.port.state = .joining ∨ s.port.state = .active ∨ s.port.state = .fault) :
    s.sending = true ∧ s.port.state ≠ .silent := by
  rcases h with h | h | h <;> simp [State.sending, h]

theorem exec_resume {s : State} (hb : s.pat.status ≠ .checking) (h : s.sending = true) :
    exec (.resume []) s = .next ((s.shiftOut 8).resumeNow.respond [accepted]) := by
  refine congrArg Host.Outcome.next ?_
  rw [countRefusal_nil, refusalOf_cons, h]
  exact takeCommand_accepted hb [] [] _

theorem exec_wake {s : State} (hb : s.pat.status ≠ .checking) (h : s.running = true) :
    exec (.wake []) s = .next ((s.shiftOut 8).keepWarmExit.settle.respond [accepted]) := by
  refine congrArg Host.Outcome.next ?_
  rw [countRefusal_nil, refusalOf_cons, h]
  exact takeCommand_accepted hb [] [] _

/-- The still part of a command's effect that leaves it, once the port has answered. -/
theorem respond_still {s t : State} (h : t.still = (s.shiftOut 8).still) (bytes : List Byte) :
    (t.respond bytes).still = s.stillAnswered [] bytes := by
  have e : (t.respond bytes).still = { t.still with response := bytes } := rfl
  rw [e, h]
  rfl

theorem clear_obeys {s : State} (h : s.rate.latch = false) : s.KnifeObeys := fun c => Bool.noConfusion (h.symm.trans c)

/-- Settles O19: RESUME clears the latch, and both leave keep-warm. -/
theorem resumeWakeAccepted : Obligations.ResumeWakeAccepted := by
  intro s hb
  refine ⟨fun hs => ?_, fun hs hk => ?_⟩
  · obtain ⟨hsend, hsilent⟩ := sending_of_states hs
    have hu := handStopResume_of_not_silent (s := (s.shiftOut 8).clearLatch)
      (by rw [clearLatch_state]; exact hsilent) .resume
    have hstill : ((s.shiftOut 8).clearLatch.handStopResume .resume).still = (s.shiftOut 8).still := by simp
    have hlink : (s.shiftOut 8).clearLatch.link = s.link := congrArg Calm.link (clearLatch_calm (s.shiftOut 8))
    have hcalm : ((s.shiftOut 8).clearLatch.handStopResume .resume).calm = { s.calm with
        latch := false
        link := { s.link with stopResume := some .resume, onLink := s.link.replacedIn .stopResume } } := by
      have e : ((s.shiftOut 8).clearLatch.handStopResume .resume).calm = { (s.shiftOut 8).clearLatch.calm with
          link := { (s.shiftOut 8).clearLatch.link with
            stopResume := some .resume, onLink := (s.shiftOut 8).clearLatch.link.replacedIn .stopResume } } := by rw [hu]; rfl
      rw [e, clearLatch_calm, hlink]
      rfl
    have hbox : ((s.shiftOut 8).clearLatch.handStopResume .resume).box = s.box := by
      rw [hu]; exact clearLatch_box _
    refine ⟨_, exec_resume hb hsend, ?_⟩
    unfold State.resumeNow
    generalize (s.shiftOut 8).clearLatch.handStopResume .resume = u at hstill hcalm hbox ⊢
    obtain ⟨kstill, kcalm, _⟩ := keepWarmExit_keeps u
    have hclear : u.rate.latch = false := congrArg Calm.latch hcalm
    have hk := settle_calm_of_obeys (knifeObeys_of_calm kcalm (clear_obeys hclear))
    have hst := settle_still u.keepWarmExit
    have hwarm := settle_keepWarmExit_of (s := s) hbox (congrArg Still.sets hstill) (congrArg Still.now hstill)
    generalize u.keepWarmExit.settle = t at hk hst hwarm ⊢
    exact ⟨hk.trans (kcalm.trans hcalm), respond_still (hst.trans (kstill.trans hstill)) _, rfl, hwarm⟩
  · have hrun : s.running = true := by simpa [State.running] using hs
    obtain ⟨kstill, kcalm, _⟩ := keepWarmExit_keeps (s.shiftOut 8)
    have hk' : (s.shiftOut 8).keepWarmExit.KnifeObeys := knifeObeys_of_calm kcalm hk
    have hcalm := (settle_calm_of_obeys hk').trans kcalm
    have hst := (settle_still (s.shiftOut 8).keepWarmExit).trans kstill
    have hwarm := settle_keepWarmExit_of (s := s) (u := s.shiftOut 8) rfl rfl rfl
    have hcold : s.box.inForce = false → s.zoneSettle.box = s.box → (s.shiftOut 8).keepWarmExit.settle.box = s.box := fun hf hz => by
      have he : (s.shiftOut 8).keepWarmExit = s.shiftOut 8 := if_neg fun c => Bool.noConfusion (hf.symm.trans c)
      rw [settle_of_obeys hk', consequences_box, he]
      exact (zoneSettle_box_congr (s := s) (t := s.shiftOut 8) rfl rfl rfl rfl rfl).trans hz
    refine ⟨_, exec_wake hb hrun, ?_⟩
    generalize (s.shiftOut 8).keepWarmExit.settle = t at hcalm hst hwarm hcold ⊢
    exact ⟨hcalm, respond_still hst _, rfl, hcold, hwarm⟩

/-! # STOP -/

/-- The station at an accepted STOP, before the settling (R6). -/
def State.stopped (s : State) : State := ((s.shiftOut 8).setLatch { origin := .port, reason := 0 }).handStopResume (.stop 0)

theorem exec_stop {s : State} (hb : s.pat.status ≠ .checking) (h : s.sending = true) :
    exec (.stop []) s = .next (s.stopped.settle.respond [accepted]) := by
  refine congrArg Host.Outcome.next ?_
  rw [countRefusal_nil, refusalOf_cons, h]
  exact takeCommand_accepted hb [] [] State.stopNow

theorem stopped_eq {s : State} (h : s.port.state ≠ .silent) : s.stopped =
    { (s.shiftOut 8).setLatch { origin := .port, reason := 0 } with
      link := { s.link with stopResume := some (.stop 0), onLink := s.link.replacedIn .stopResume } } := by
  obtain ⟨_, hlink, _, _, hstate, _⟩ := setLatch_rest (s.shiftOut 8) { origin := .port, reason := 0 }
  unfold State.stopped
  rw [handStopResume_of_not_silent (by rw [hstate]; exact h), hlink]
  rfl

theorem stopped_calm {s : State} (h : s.port.state ≠ .silent) : s.stopped.calm = { s.calm with
    latch := true, cause := some { origin := .port, reason := 0 }, effective := 0, knife := s.knife.latched
    link := { s.link with stopResume := some (.stop 0), onLink := s.link.replacedIn .stopResume } } := by
  have e : s.stopped.calm = { ((s.shiftOut 8).setLatch { origin := .port, reason := 0 }).calm with
      link := { s.link with stopResume := some (.stop 0), onLink := s.link.replacedIn .stopResume } } := by rw [stopped_eq h]; rfl
  rw [e, setLatch_calm]
  rfl

theorem stopped_still (s : State) : s.stopped.still = (s.shiftOut 8).still := by simp [State.stopped]

theorem stopped_pace (s : State) : s.stopped.pace = s.pace :=
  (pace_of_still (s := s.shiftOut 8) (stopped_still s) (by simp [State.stopped])).trans rfl

theorem stopped_flag {s : State} (h : s.rate.latch = false) : s.stopped.port.ip.getLsbD 5 = true :=
  (Rises.handStopResume _ _).2.2 5 (setLatch_flag (s := s.shiftOut 8) h _)

/-- With room for every mark that the abort may announce no fault is raised (R47, R82, R163). -/
theorem settle_tuck_roomy {s : State} (hl : s.rate.latch = true) (hp : s.knife.phase = .tuck)
    (hm : s.link.marks.length + s.web.bay.length + s.dwell.cells.length < 6)
    (ho : s.web.outlet.length + s.web.bay.length + s.dwell.cells.length < 16) :
    s.settle.rate.cause = s.rate.cause ∧ s.settle.port.fault = s.port.fault ∧ s.settle.link.stopResume = s.link.stopResume
      ∧ s.settle.link.onLink = s.link.onLink := by
  obtain ⟨hr, hf, hsr, hol, _, _⟩ := Roomy.announcing.enterAborting s (by omega) (by omega)
  have hc := settle_tuck hl hp
  generalize s.enterAborting = u at hc hr hf hsr hol
  generalize s.settle = t at hc ⊢
  exact ⟨(congrArg Calm.cause hc).trans (congrArg RateState.cause hr), (congrArg Calm.fault hc).trans hf,
    (congrArg (fun c => c.link.stopResume) hc).trans hsr, (congrArg (fun c => c.link.onLink) hc).trans hol⟩

/-- What an accepted STOP does in TUCK (R47). -/
theorem stopped_tuck {s : State} (h : s.port.state ≠ .silent) (hp : s.knife.phase = .tuck) :
    s.stopped.settle.knife.phase = .aborting ∧ s.stopped.settle.knife.due = s.now + 1000 * s.sets.knife.tRelease
      ∧ s.stopped.settle.knife.missed = satInc s.knife.missed ∧ s.stopped.settle.knife.cycle = s.knife.cycle
      ∧ s.stopped.settle.web.o = s.web.o + toPos s.cycleWidth
      ∧ (s.link.marks.length + s.web.bay.length + s.dwell.cells.length < 6 →
          s.web.outlet.length + s.web.bay.length + s.dwell.cells.length < 16 →
          s.stopped.settle.rate.cause = some { origin := .port, reason := 0 } ∧ s.stopped.settle.port.fault = s.port.fault
            ∧ s.stopped.settle.link.stopResume = some (.stop 0) ∧ s.stopped.settle.link.onLink = s.link.replacedIn .stopResume) := by
  have hcalm := stopped_calm h
  have hpace := stopped_pace s
  generalize s.stopped = u at hcalm hpace ⊢
  have hlatch : u.rate.latch = true := congrArg Calm.latch hcalm
  have hphase : u.knife.phase = .tuck := (congrArg Pace.phase hpace).trans hp
  have hnow : u.now = s.now := congrArg Pace.now hpace
  have hsets : u.sets = s.sets := congrArg Pace.sets hpace
  have hmissed : u.knife.missed = s.knife.missed := congrArg Pace.missed hpace
  have hcycle : u.knife.cycle = s.knife.cycle := congrArg Pace.cycle hpace
  have hweb : u.web = s.web := congrArg Calm.web hcalm
  have hdwell : u.dwell = s.dwell := congrArg Calm.dwell hcalm
  have hcause : u.rate.cause = some { origin := .port, reason := 0 } := congrArg Calm.cause hcalm
  have hfault : u.port.fault = s.port.fault := congrArg Calm.fault hcalm
  have hlink : u.link = { s.link with stopResume := some (.stop 0), onLink := s.link.replacedIn .stopResume } := congrArg Calm.link hcalm
  have hknife := settle_tuck_knife hlatch hphase
  have hroom := settle_tuck_roomy hlatch hphase
  have hwidth : u.cycleWidth = s.cycleWidth := by rw [State.cycleWidth, hcycle]; rfl
  rw [hnow, hsets, hmissed, hcycle, hweb, hwidth] at hknife
  rw [hweb, hdwell, hcause, hfault, hlink] at hroom
  obtain ⟨hph, hdue, hmiss, hcyc, ho⟩ := hknife
  exact ⟨hph, hdue, hmiss, hcyc, ho, hroom⟩

/-- Settles O18: the latch with its consequences on the knife, and in TUCK the count of what the abort announces. -/
theorem stopAccepted : Obligations.StopAccepted := by
  intro s hb hs
  obtain ⟨hsend, hsilent⟩ := sending_of_states hs
  have hcalm := stopped_calm hsilent
  have hlatch : s.stopped.rate.latch = true := congrArg Calm.latch hcalm
  have heff : s.stopped.rate.effective = 0 := congrArg Calm.effective hcalm
  have hknife : s.stopped.knife = s.knife.latched := congrArg Calm.knife hcalm
  have hstill := (settle_still s.stopped).trans (stopped_still s)
  obtain ⟨hrl, hre, hri⟩ := Rises.settle s.stopped
  have hflag : s.rate.latch = false → s.stopped.settle.port.ip.getLsbD 5 = true := fun hl => hri 5 (stopped_flag hl)
  have hown := settle_own_zero (s := s.stopped) (.inr (hrl hlatch))
  have hout : s.knife.phase ≠ .tuck → s.stopped.settle.calm = _ := fun hp => (settle_calm_latched hlatch hknife hp).trans hcalm
  have htuck := stopped_tuck (s := s) hsilent
  have hl' := hrl hlatch
  have he' := hre heff
  refine ⟨_, exec_stop hb hsend, ?_⟩
  generalize s.stopped.settle = t at hstill hflag hown hout htuck hl' he' ⊢
  exact ⟨hl', he', hown, rfl, respond_still hstill _, hflag, hout, htuck⟩

end Sys2Proof.Machine
end

section
namespace Sys2Proof.Machine

/-! # A peer's STOP and RESUME -/

/-- A valid frame of a peer is taken (R157, R171 to R173). -/
theorem receive_valid {s : State} {id : StationId} (hm : s.link.mode = .on) (hn : id.val < s.sets.line.n) (ho : id ≠ s.ownId)
    (kind : BitVec 4) (act : State → State) : s.receive id kind act = act s := by
  unfold State.receive
  rw [if_neg (not_not.mpr hm), if_neg (Nat.not_le_of_lt hn), if_neg ho]

/-- What a valid frame does to its sender's record, and what it leaves of the others (R174, R175). -/
theorem enterPeer_peer (s : State) (id y : StationId) (f : Peer → Peer) :
    (s.enterPeer id f).peer y = if y = id then f ((s.peer id).heard s.now) else s.peer y := by
  unfold State.enterPeer
  simp only
  split
  · exact setPeer_peer s id y _
  · exact setPeer_peer s id y _

/-- Beside the record a valid frame moves the link's change record alone, and signals at most (R178). -/
theorem enterPeer_keeps (s : State) (id : StationId) (f : Peer → Peer) :
    (s.enterPeer id f).still = { s.still with peers := (s.enterPeer id f).peers }
      ∧ (s.enterPeer id f).calm = { s.calm with link := { s.link with change := (s.enterPeer id f).link.change } }
      ∧ (s.enterPeer id f).box = s.box ∧ (s.enterPeer id f).pace = s.pace ∧ (s.enterPeer id f).rate = s.rate := by
  unfold State.enterPeer
  simp only
  split
  · exact ⟨rfl, rfl, rfl, rfl, rfl⟩
  · exact ⟨rfl, rfl, rfl, rfl, rfl⟩

/-- The record of a peer as a STOP or RESUME leaves it, the others as they were (R174, R175). -/
def HeardFrom (s : State) (id : StationId) (t : State) : Prop :=
  (t.peer id).presence = .live ∧ (t.peer id).frames = satInc (s.peer id).frames
    ∧ (t.peer id).staleDue = some (s.now + 50000) ∧ (∀ y : StationId, y ≠ id → t.peer y = s.peer y)

theorem heard_of_peers {s t : State} {id : StationId} (h : t.peers = (s.enterPeer id fun p => p).peers) : HeardFrom s id t := by
  have hp : ∀ y, t.peer y = if y = id then (s.peer id).heard s.now else s.peer y := fun y =>
    (congrArg (fun v : Vector Peer 16 => v[y]) h).trans (enterPeer_peer s id y _)
  have hframes : ((s.peer id).heard s.now).frames = satInc (s.peer id).frames := rfl
  unfold HeardFrom
  rw [hp id, if_pos rfl]
  exact ⟨rfl, hframes, rfl, fun y hy => by rw [hp, if_neg hy]⟩

/-- The station at a peer's STOP, before the settling (R6). -/
def State.stoppedBy (s : State) (id : StationId) (reason : Byte) : State :=
  (s.enterPeer id fun p => p).setLatch { origin := .peer id, reason := reason }

theorem stoppedBy_still (s : State) (id : StationId) (reason : Byte) :
    (s.stoppedBy id reason).still = { s.still with peers := (s.enterPeer id fun p => p).peers } := by
  obtain ⟨h, _⟩ := enterPeer_keeps s id fun p => p
  rw [State.stoppedBy, setLatch_still]
  exact h

theorem stoppedBy_calm (s : State) (id : StationId) (reason : Byte) : (s.stoppedBy id reason).calm = { s.calm with
    latch := true, cause := some { origin := .peer id, reason := reason }, effective := 0, knife := s.knife.latched
    link := { s.link with change := (s.enterPeer id fun p => p).link.change } } := by
  obtain ⟨_, h, _⟩ := enterPeer_keeps s id fun p => p
  have hknife : (s.enterPeer id fun p => p).knife = s.knife := congrArg Calm.knife h
  rw [State.stoppedBy, setLatch_calm, h, hknife]

theorem stoppedBy_pace (s : State) (id : StationId) (reason : Byte) : (s.stoppedBy id reason).pace = s.pace := by
  obtain ⟨_, _, _, h, _⟩ := enterPeer_keeps s id fun p => p
  exact (pace_of_still (setLatch_still _ _) (setLatch_steady _ _)).trans h

theorem stoppedBy_flag {s : State} (h : s.rate.latch = false) (id : StationId) (reason : Byte) :
    (s.stoppedBy id reason).port.ip.getLsbD 5 = true := by
  obtain ⟨_, _, _, _, hr⟩ := enterPeer_keeps s id fun p => p
  exact setLatch_flag (by rw [hr]; exact h) _

theorem exec_stopFrame {s : State} {id : StationId} (hm : s.link.mode = .on) (hn : id.val < s.sets.line.n) (ho : id ≠ s.ownId)
    (reason : Byte) : exec (.stopFrame id reason) s = .next (s.stoppedBy id reason).settle :=
  congrArg Host.Outcome.next (receive_valid hm hn ho 1 fun t => t.takeStop id reason)

/-- What a peer's STOP does in TUCK (R47). -/
theorem stoppedBy_tuck {s : State} (hp : s.knife.phase = .tuck) (id : StationId) (reason : Byte) :
    (s.stoppedBy id reason).settle.knife.phase = .aborting
      ∧ (s.stoppedBy id reason).settle.web.o = s.web.o + toPos s.cycleWidth := by
  have hpace := stoppedBy_pace s id reason
  have hcalm := stoppedBy_calm s id reason
  generalize s.stoppedBy id reason = u at hpace hcalm ⊢
  have hcycle : u.knife.cycle = s.knife.cycle := congrArg Pace.cycle hpace
  have ho : u.web.o = s.web.o := congrArg Pace.o hpace
  have hwidth : u.cycleWidth = s.cycleWidth := by rw [State.cycleWidth, hcycle]; rfl
  have h := settle_tuck_knife (s := u) (congrArg Calm.latch hcalm) ((congrArg Pace.phase hpace).trans hp)
  rw [ho, hwidth] at h
  exact ⟨h.1, h.2.2.2.2⟩

/-- The station at a peer's RESUME, before keep-warm is left (R7, R117). -/
def State.resumedBy (s : State) (id : StationId) : State := (s.enterPeer id fun p => p).clearLatch

theorem resumedBy_keeps (s : State) (id : StationId) :
    (s.resumedBy id).still = { s.still with peers := (s.enterPeer id fun p => p).peers }
      ∧ (s.resumedBy id).calm = { s.calm with
          latch := false, link := { s.link with change := (s.enterPeer id fun p => p).link.change } }
      ∧ (s.resumedBy id).box = s.box ∧ (s.rate.latch = true → (s.resumedBy id).port.ip.getLsbD 5 = true) := by
  obtain ⟨hstill, hcalm, hbox, _, hrate⟩ := enterPeer_keeps s id fun p => p
  unfold State.resumedBy
  rw [clearLatch_still, clearLatch_calm, clearLatch_box, hcalm]
  exact ⟨hstill, rfl, hbox, fun hl => clearLatch_flag (by rw [hrate]; exact hl)⟩

theorem exec_resumeFrame {s : State} {id : StationId} (hm : s.link.mode = .on) (hn : id.val < s.sets.line.n) (ho : id ≠ s.ownId) :
    exec (.resumeFrame id) s = .next (s.resumedBy id).keepWarmExit.settle :=
  congrArg Host.Outcome.next (receive_valid hm hn ho 2 fun t => t.takeResume id)

/-- Settles O58: the record, then the latch as at the port's own STOP and RESUME, without a frame of the station's own. -/
theorem stopResumeFrames : Obligations.StopResumeFrames := by
  intro id s hm hn ho marked
  have hmarked : ∀ t, HeardFrom s id t → marked t := fun _ h => h
  refine ⟨fun reason => ⟨_, exec_stopFrame hm hn ho reason, ?_⟩, ⟨_, exec_resumeFrame hm hn ho, ?_⟩⟩
  · have hcalm := stoppedBy_calm s id reason
    have hstill := (settle_still (s.stoppedBy id reason)).trans (stoppedBy_still s id reason)
    have hlatch : (s.stoppedBy id reason).rate.latch = true := congrArg Calm.latch hcalm
    have hknife : (s.stoppedBy id reason).knife = s.knife.latched := congrArg Calm.knife hcalm
    obtain ⟨hrl, hre, hri⟩ := Rises.settle (s.stoppedBy id reason)
    have hl := hrl hlatch
    have he := hre (congrArg Calm.effective hcalm)
    have hown := settle_own_zero (s := s.stoppedBy id reason) (.inr hl)
    have hflag : s.rate.latch = false → (s.stoppedBy id reason).settle.port.ip.getLsbD 5 = true := fun c =>
      hri 5 (stoppedBy_flag c id reason)
    have hout : s.knife.phase ≠ .tuck → (s.stoppedBy id reason).settle.calm = (s.stoppedBy id reason).calm := fun hp =>
      settle_calm_latched hlatch hknife hp
    have htuck : s.knife.phase = .tuck → _ := fun hp => stoppedBy_tuck hp id reason
    rw [hcalm] at hout
    generalize (s.stoppedBy id reason).settle = t at hstill hl he hown hflag hout htuck ⊢
    have hpeers : t.peers = (s.enterPeer id fun p => p).peers := congrArg Still.peers hstill
    refine ⟨hmarked t (heard_of_peers hpeers), hl, he, hown, hflag, fun hp => ⟨?_, ?_⟩, htuck⟩
    · have hchange : t.link.change = (s.enterPeer id fun p => p).link.change := congrArg (fun c => c.link.change) (hout hp)
      rw [hout hp, hchange]
      rfl
    · rw [hstill, hpeers]
  · obtain ⟨hstill, hcalm, hbox, hflag⟩ := resumedBy_keeps s id
    generalize s.resumedBy id = u at hstill hcalm hbox hflag ⊢
    obtain ⟨kstill, kcalm, krises⟩ := keepWarmExit_keeps u
    have hclear : u.rate.latch = false := congrArg Calm.latch hcalm
    have hc := ((settle_calm_of_obeys (knifeObeys_of_calm kcalm (clear_obeys hclear))).trans kcalm).trans hcalm
    have hst := ((settle_still u.keepWarmExit).trans kstill).trans hstill
    have hr := krises.trans (Rises.settle _)
    have hwarm := settle_keepWarmExit_of (s := s) hbox (congrArg Still.sets hstill) (congrArg Still.now hstill)
    generalize u.keepWarmExit.settle = t at hc hst hr hwarm ⊢
    have hpeers : t.peers = (s.enterPeer id fun p => p).peers := congrArg Still.peers hst
    have hchange : t.link.change = (s.enterPeer id fun p => p).link.change := congrArg (fun c => c.link.change) hc
    refine ⟨hmarked t (heard_of_peers hpeers), congrArg Calm.latch hc, fun hl => hr.2.2 5 (hflag hl), ?_, ?_, fun hf => ?_⟩
    · rw [hc, hchange]
    · rw [hst, hpeers]
    · obtain ⟨hforce, _, _, hzones⟩ := hwarm hf
      exact ⟨hforce, fun z => (hzones z).1⟩

end Sys2Proof.Machine
end

section
namespace Sys2Proof.Machine

/-! # A ramp timer expiry -/

/-- A new effective rate, case by case: the same rate changes nothing, another is delivered to its three users (R12, R20, R22, R46, R114). -/
theorem setEffective_same_or (s : State) (e : Nat) :
    e = s.rate.effective ∧ s.setEffective e = s
      ∨ e ≠ s.rate.effective ∧ s.setEffective e = { s with
          rate.effective := e
          cad := s.cad.rateChanged s.rate.effective e s.now
          knife := s.knife.rateChanged s.rate.effective e s.now
          box.idle := s.idleAfterRate s.rate.effective e } := by
  by_cases h : e = s.rate.effective
  · exact .inl ⟨h, setEffective_same h⟩
  · exact .inr ⟨h, if_neg h⟩

theorem knife_rateChanged_same (k : Knife) (e now : Nat) : k.rateChanged e e now = k := by
  unfold Knife.rateChanged
  rw [if_neg]
  rintro ⟨h0, hpos, _⟩
  omega

/-- The knife after a new effective rate, also where it is the old one (R46). -/
theorem setEffective_knife (s : State) (e : Nat) : (s.setEffective e).knife = s.knife.rateChanged s.rate.effective e s.now := by
  rcases setEffective_same_or s e with ⟨h, hs⟩ | ⟨_, hs⟩
  · rw [hs, h, knife_rateChanged_same]
  · rw [hs]

/-- The calm part after a new effective rate. -/
theorem setEffective_calm (s : State) (e : Nat) :
    (s.setEffective e).calm = { s.calm with effective := e, knife := s.knife.rateChanged s.rate.effective e s.now } := by
  have hk := setEffective_knife s e
  rcases setEffective_same_or s e with ⟨h, hs⟩ | ⟨_, hs⟩
  · rw [hs] at hk ⊢
    rw [← hk, h]
    rfl
  · rw [hs]
    rfl

/-- The still part after a new effective rate moves at the cadence alone. -/
theorem setEffective_still (s : State) (e : Nat) : (s.setEffective e).still = { s.still with cad := (s.setEffective e).cad } := by
  unfold State.setEffective
  split <;> rfl

/-- The cadence is not moved by the fall to 0 (R23). -/
theorem setEffective_cad_zero (s : State) : (s.setEffective 0).cad = s.cad := by
  rcases setEffective_same_or s 0 with ⟨_, hs⟩ | ⟨_, hs⟩
  · rw [hs]
  · rw [hs]; exact cadence_rateChanged_zero _ _ _

/-! ## The cadence through a change of the rate -/

theorem rateChanged_stepping_halted {c : Cadence} {new : Nat} (hm : c.mode = .stepping) (hb : c.begun = true) (hr : 0 < c.remaining)
    (hn : 0 < new) (now : Nat) : c.rateChanged 0 new now = { c with base := now, idx := 0 } := by
  simp [Cadence.rateChanged, hm, hb, hr, Nat.ne_of_gt hn]

theorem rateChanged_stepping_running {c : Cadence} {old : Nat} (hm : c.mode = .stepping) (ho : 0 < old) (new now : Nat) :
    c.rateChanged old new now = c := by
  simp [Cadence.rateChanged, hm, Nat.ne_of_gt ho]

/-- A continuous run through a change of its rate (R22). -/
theorem rateChanged_continuous {c : Cadence} {new : Nat} (hm : c.mode = .continuous) (hb : c.begun = true) (hp : c.pn ≠ 0) (hn : 0 < new)
    (old now : Nat) : c.rateChanged old new now =
      { c with
        panelPeriod := 60000000000 / new, base := if old = 0 then now else c.lastPulse.getD c.base, idx := 0, lastPulse := none } := by
  by_cases ho : old = 0 <;> simp [Cadence.rateChanged, hm, hb, hp, Nat.ne_of_gt hn, ho, panelPeriodAt]

/-! ## The rate by the table of R11 -/

theorem rampRate_same (e up down : Nat) : rampRate false e e up down = e := by simp [rampRate]

theorem rampRate_start {r : Nat} (h : r ≠ 0) (up down : Nat) : rampRate false 0 r up down = min r (max 100 up) := by
  simp [rampRate, Ne.symm h]

theorem rampRate_up {e r : Nat} (h : 0 < e) (hr : e < r) (up down : Nat) : rampRate false e r up down = min r (e + up) := by
  simp [rampRate, Nat.ne_of_lt hr, Nat.ne_of_gt h, hr]

theorem rampRate_down {e r : Nat} (h : r < e) (up down : Nat) :
    rampRate false e r up down = if max r (e - down) < 100 then 0 else max r (e - down) := by
  simp [rampRate, Nat.ne_of_gt h, Nat.ne_of_gt (Nat.zero_lt_of_lt h), Nat.not_lt_of_gt h]

/-! ## The expiry -/

/-- The effective rate that a ramp timer expiry forms (R11). -/
def State.rampNow (s : State) : Nat := rampRate s.rate.latch s.rate.effective s.rate.resolved s.sets.line.up s.sets.line.down

/-- The station at a ramp timer expiry, before the new rate (log 3). -/
def State.rampTime (s : State) : State := { s.reachTime s.rate.rampDue with rate.rampDue := s.rate.rampDue + 10000 }

theorem exec_rampTimerExpiry (s : State) : exec .rampTimerExpiry s = .next (s.rampTime.setEffective s.rampNow).settle := rfl

theorem ramped_calm (s : State) : (s.rampTime.setEffective s.rampNow).calm =
    { s.calm with effective := s.rampNow, knife := s.knife.rateChanged s.rate.effective s.rampNow (max s.now s.rate.rampDue) } :=
  setEffective_calm s.rampTime s.rampNow

/-- Under the latch the ramp is at 0 and the knife as it was, so the latch stays obeyed (R11, R46). -/
theorem ramped_obeys {s : State} (h : s.KnifeObeys) : (s.rampTime.setEffective s.rampNow).KnifeObeys := by
  have hc := ramped_calm s
  generalize s.rampTime.setEffective s.rampNow = u at hc ⊢
  intro hl
  have hlatch : s.rate.latch = true := (congrArg Calm.latch hc).symm.trans hl
  have hknife : u.knife = s.knife := by
    rw [show u.knife = _ from congrArg Calm.knife hc, State.rampNow, hlatch, rampRate_latched, knife_rateChanged_zero]
  rw [hknife]
  exact h hlatch

theorem keepWarmEntry_idle (s : State) : s.keepWarmEntry.box.idle = s.box.idle := by
  unfold State.keepWarmEntry; split <;> rfl

/-- The zones' settling leaves the idle timer. -/
theorem zoneSettle_idle (s : State) : s.zoneSettle.box.idle = s.box.idle := by
  rw [State.zoneSettle, keepWarmEntry_idle, (arbitrate_keeps s.moveValves).2.2]
  rfl

theorem settle_idle_of_obeys {s : State} (h : s.KnifeObeys) : s.settle.box.idle = s.box.idle := by
  rw [settle_of_obeys h, consequences_box, zoneSettle_idle]

/-- What the ramp's new rate makes of the idle timer (R114). -/
theorem ramped_idle (s : State) :
    (s.rampNow = s.rate.effective → (s.rampTime.setEffective s.rampNow).box.idle = s.box.idle)
      ∧ (0 < s.rate.effective → s.rampNow = 0 → (s.rampTime.setEffective s.rampNow).box.idle = s.rampTime.startedIdle)
      ∧ (s.rate.effective = 0 → 0 < s.rampNow → (s.rampTime.setEffective s.rampNow).box.idle = .stopped) := by
  rcases setEffective_same_or s.rampTime s.rampNow with ⟨h, hs⟩ | ⟨h, hs⟩
  · have h : s.rampNow = s.rate.effective := h
    rw [hs]
    exact ⟨fun _ => rfl, fun hp h0 => absurd h (by omega), fun h0 hp => absurd h (by omega)⟩
  · have h : s.rampNow ≠ s.rate.effective := h
    have hidle : (s.rampTime.setEffective s.rampNow).box.idle = s.rampTime.idleAfterRate s.rate.effective s.rampNow := by rw [hs]; rfl
    rw [hidle, State.idleAfterRate]
    refine ⟨fun c => absurd c h, fun hp h0 => if_pos ⟨hp, h0⟩, fun h0 hp => ?_⟩
    rw [if_neg (fun c => Nat.ne_of_gt c.1 h0), if_pos ⟨h0, hp⟩]

/-- What the ramp's new rate makes of the cadence (R20, R22, R23). -/
theorem ramped_cad (s : State) :
    (s.rampNow = s.rate.effective → (s.rampTime.setEffective s.rampNow).cad = s.cad)
      ∧ (s.rampNow = 0 → (s.rampTime.setEffective s.rampNow).cad = s.cad)
      ∧ (s.rampNow ≠ s.rate.effective →
          (s.rampTime.setEffective s.rampNow).cad = s.cad.rateChanged s.rate.effective s.rampNow (max s.now s.rate.rampDue)) := by
  refine ⟨fun h => ?_, fun h => ?_, fun h => ?_⟩
  · rw [setEffective_same (s := s.rampTime) h]
    rfl
  · rw [h, setEffective_cad_zero]
    rfl
  · rcases setEffective_same_or s.rampTime s.rampNow with ⟨c, _⟩ | ⟨_, hs⟩
    · exact absurd c h
    · rw [hs]; rfl

theorem ramped_still (s : State) : (s.rampTime.setEffective s.rampNow).still =
    { s.still with
      now := max s.now s.rate.rampDue, rampDue := s.rate.rampDue + 10000, cad := (s.rampTime.setEffective s.rampNow).cad } :=
  setEffective_still s.rampTime s.rampNow

/-- The rate after a settled expiry is the ramp's, unless a settling under the latch found the knife in TUCK, and then it is 0. -/
theorem ramped_effective (s : State) (h : 0 < (s.rampTime.setEffective s.rampNow).settle.rate.effective) :
    (s.rampTime.setEffective s.rampNow).settle.rate.effective = s.rampNow := by
  have hc := ramped_calm s
  have hr := Rises.settle (s.rampTime.setEffective s.rampNow)
  by_cases hl : s.rate.latch = true
  · have h0 : (s.rampTime.setEffective s.rampNow).rate.effective = 0 := by
      rw [setEffective_effective, State.rampNow, hl, rampRate_latched]
    have := hr.2.1 h0
    omega
  · have hclear : (s.rampTime.setEffective s.rampNow).rate.latch = false := by
      rw [show (s.rampTime.setEffective s.rampNow).rate.latch = s.rate.latch from congrArg Calm.latch hc]
      simpa using hl
    have hs := settle_calm_of_obeys (clear_obeys hclear)
    generalize (s.rampTime.setEffective s.rampNow).settle = t at hs ⊢
    exact congrArg Calm.effective (hs.trans hc)

/-- Settles O26: the table of R11, then what the new rate makes of the cadence, the knife and the idle timer. -/
theorem rampExpiry : Obligations.RampExpiry := by
  refine ⟨fun s hk => ⟨_, exec_rampTimerExpiry s, ?_⟩, fun s hm hb hp => ⟨_, exec_rampTimerExpiry s, ?_⟩⟩
  · have hobeys := ramped_obeys hk
    have hcalm := (settle_calm_of_obeys hobeys).trans (ramped_calm s)
    have hstill := (settle_still (s.rampTime.setEffective s.rampNow)).trans (ramped_still s)
    have hidle := settle_idle_of_obeys hobeys
    obtain ⟨isame, ifall, irise⟩ := ramped_idle s
    obtain ⟨csame, czero, cchanged⟩ := ramped_cad s
    generalize s.rampTime.setEffective s.rampNow = u at hcalm hstill hidle isame ifall irise csame czero cchanged ⊢
    generalize u.settle = t at hcalm hstill hidle ⊢
    have he : t.rate.effective = s.rampNow := congrArg Calm.effective hcalm
    have hcad : t.cad = u.cad := congrArg Still.cad hstill
    have hnow : t.now = max s.now s.rate.rampDue := congrArg Still.now hstill
    have hdue : t.rate.rampDue = s.rate.rampDue + 10000 := congrArg Still.rampDue hstill
    have hne : s.rate.effective = 0 → 0 < s.rampNow → s.rampNow ≠ s.rate.effective := fun h0 hp => by omega
    beta_reduce
    rw [he, hcad, hidle, hnow, hdue]
    refine ⟨rfl, rfl, fun hl => ?_, fun hr => rampRate_legal hr.2.2 hr.2.1 _ _ _, fun hl => ?_, ?_, hstill,
      fun h => ⟨csame h, isame h⟩, czero, fun hm hb hr h0 hp => ?_, fun hm hp => ?_, fun hp h0 => ifall hp h0, irise⟩
    · rw [State.rampNow, hl, rampRate_latched]
    · rw [State.rampNow, hl]
      refine ⟨fun h => ?_, fun h0 hr => ?_, fun hp hr => rampRate_up hp hr _ _, fun hr => rampRate_down hr _ _⟩
      · rw [← h, rampRate_same]
      · rw [h0, rampRate_start hr]
    · rw [hcalm, Knife.rateChanged]
      simp only [and_comm, and_left_comm]
    · rw [cchanged (hne h0 hp), h0, rateChanged_stepping_halted hm hb hr hp]
    · by_cases h : s.rampNow = s.rate.effective
      · exact csame h
      · rw [cchanged h, rateChanged_stepping_running hm hp]
  · have heff := ramped_effective s
    have hstill := (settle_still (s.rampTime.setEffective s.rampNow)).trans (ramped_still s)
    obtain ⟨_, _, cchanged⟩ := ramped_cad s
    generalize s.rampTime.setEffective s.rampNow = u at heff hstill cchanged ⊢
    generalize u.settle = t at heff hstill ⊢
    intro hne hpos
    have he := heff hpos
    have hcad : t.cad = u.cad := congrArg Still.cad hstill
    have hnow : t.now = max s.now s.rate.rampDue := congrArg Still.now hstill
    rw [hcad, cchanged (he ▸ hne), hnow, he, rateChanged_continuous hm hb hp (he ▸ hpos)]

end Sys2Proof.Machine
end

section
namespace Sys2Proof.Machine

/-! # A station in FAULT through announcements -/

/-- A station in FAULT stays in it with its rates and the first fault of its record. -/
def Faulted (s t : State) : Prop :=
  s.port.state = .fault → s.port.fault.isSome = true →
    t.port.state = .fault ∧ t.rate = s.rate ∧ t.port.fault.isSome = true
      ∧ t.port.fault.map FaultRecord.first = s.port.fault.map FaultRecord.first

namespace Faulted

theorem of_eq {s t : State} (hs : t.port.state = s.port.state) (hr : t.rate = s.rate) (hf : t.port.fault = s.port.fault) : Faulted s t :=
  fun h hsome => ⟨hs.trans h, hr, hf ▸ hsome, by rw [hf]⟩

theorem trans {s t u : State} (h : Faulted s t) (g : Faulted t u) : Faulted s u := fun hs hf => by
  obtain ⟨ht, hr, hsome, hfirst⟩ := h hs hf
  obtain ⟨hu, gr, gsome, gfirst⟩ := g ht hsome
  exact ⟨hu, gr.trans hr, gsome, gfirst.trans hfirst⟩

theorem of_aside {s t : State} (h : t.aside = s.aside) : Faulted s t :=
  of_eq (congrArg Aside.state h) (congrArg Aside.rate h) (congrArg Aside.fault h)

/-- A fault raised in FAULT is noted as a further one (R189). -/
theorem raiseFault (s : State) (f : StationFault) : Faulted s (s.raiseFault f) := fun hs hf => by
  obtain ⟨r, hr⟩ := Option.isSome_iff_exists.mp hf
  unfold State.raiseFault
  rw [hs]
  simp [State.signal, noteFault, hr, hs]

theorem announce (s : State) (m : Mark) : Faulted s (s.announce m) := by
  have hand : ∀ (t : State) (p : MarkPayload), Faulted t (t.handMark p) := fun t p => by
    unfold State.handMark
    split
    · exact of_eq rfl rfl rfl
    · split
      · exact raiseFault _ _
      · exact of_eq rfl rfl rfl
  have insert : ∀ t : State, Faulted t (t.insertOutlet m) := fun t => by
    unfold State.insertOutlet
    split
    · exact raiseFault _ _
    · exact of_eq rfl rfl rfl
  have sweep : ∀ t : State, Faulted t t.outletSweep := fun t => of_aside (congrArg Prod.fst (outletSweep_unswept t))
  have count : Faulted s (s.countAnnounced m) := of_eq rfl rfl rfl
  unfold State.announce
  simp only
  split
  · exact (count.trans (insert _)).trans (sweep _)
  · exact ((count.trans (hand _ _)).trans (insert _)).trans (sweep _)

theorem announcing : Announcing fun _ => Faulted :=
  { keep := fun h _ => of_aside h, announce := announce, trans := trans, mono := fun _ h => h }

theorem knifeSettle (s : State) : Faulted s s.knifeSettle := by
  unfold State.knifeSettle
  split
  · split
    · exact announcing.enterAborting s
    all_goals exact of_eq rfl rfl rfl
  · exact of_eq rfl rfl rfl

end Faulted

/-- A settling of a station in FAULT leaves the state, the rate, the cause and the first fault (R189). -/
theorem settle_faulted {s : State} (hs : s.port.state = .fault) (hf : s.port.fault.isSome = true) :
    s.settle.port.state = .fault ∧ s.settle.rate.latch = s.rate.latch ∧ s.settle.rate.effective = s.rate.effective
      ∧ s.settle.rate.cause = s.rate.cause ∧ s.settle.port.fault.map FaultRecord.first = s.port.fault.map FaultRecord.first := by
  obtain ⟨hk, hr, _, hfirst⟩ := Faulted.knifeSettle s hs hf
  have hc : s.settle.calm = s.knifeSettle.calm := consequences_calm _
  have hstate : s.settle.port.state = s.knifeSettle.port.state :=
    (consequences_state_cases s.knifeSettle).resolve_right fun c => StationState.noConfusion (hk.symm.trans c.1)
  generalize s.settle = t at hc hstate ⊢
  generalize s.knifeSettle = u at hc hstate hk hr hfirst
  exact ⟨hstate.trans hk, (congrArg Calm.latch hc).trans (congrArg RateState.latch hr),
    (congrArg Calm.effective hc).trans (congrArg RateState.effective hr), (congrArg Calm.cause hc).trans (congrArg RateState.cause hr),
    (congrArg (fun c => c.fault.map FaultRecord.first) hc).trans hfirst⟩

/-! # A dancer sample -/

/-- The station with a dancer sample taken, before the trip test (R3). -/
def State.sampled (s : State) (level : Nat) : State :=
  { s.reachTime s.cad.sampleDue with
    cad.sample := some level
    cad.sampleDue := max s.now s.cad.sampleDue + 1000
    rate.dancerLimit := dancerLimitAfter s.sets.feed s.rate.dancerLimit level }

theorem exec_dancerSample_skipped {s : State} (h : s.ownId = 0 ∨ s.port.state = .config) (level : BitVec 10) :
    exec (.dancerSample level) s = .next s := by
  refine if_neg fun c => ?_
  rcases h with h | h <;> simp [State.samplesDancer, State.running, h] at c

theorem exec_dancerSample {s : State} (ho : s.ownId ≠ 0) (hs : s.port.state ≠ .config) (level : BitVec 10) :
    exec (.dancerSample level) s = .next ((s.sampled level.toNat).tripTest level.toNat).settle := by
  refine if_pos ?_
  simp [State.samplesDancer, State.running, ho, hs]

theorem sampled_still (s : State) (level : Nat) : (s.sampled level).still = { s.still with
    now := max s.now s.cad.sampleDue
    cad := { s.cad with sample := some level, sampleDue := max s.now s.cad.sampleDue + 1000 }
    dancerLimit := dancerLimitAfter s.sets.feed s.rate.dancerLimit level } := rfl

theorem sampled_calm (s : State) (level : Nat) : (s.sampled level).calm = s.calm := rfl

theorem tripLimit_none {feed : FeedSet} {level : Nat} (h : ¬(level < feed.tripLo ∨ feed.tripHi < level)) : tripLimit feed level = none := by
  obtain ⟨hlo, hhi⟩ := not_or.mp h
  rw [tripLimit, if_neg hlo, if_neg hhi]

theorem tripLimit_some {feed : FeedSet} {level : Nat} (h : level < feed.tripLo ∨ feed.tripHi < level) :
    tripLimit feed level = some (if level < feed.tripLo then feed.tripLo else feed.tripHi) := by
  unfold tripLimit
  split
  · rfl
  · rw [if_pos (h.resolve_left ‹_›)]

theorem tripTest_still (s : State) (level : Nat) : (s.tripTest level).still = s.still := by
  unfold State.tripTest
  split
  · rfl
  · split
    · exact raiseFault_still _ _
    · rfl

/-- Within the trip limits, and in SILENT, a sample raises nothing (R4). -/
theorem tripTest_quiet {s : State} {level : Nat} (h : ¬(level < s.sets.feed.tripLo ∨ s.sets.feed.tripHi < level) ∨ s.port.state = .silent) :
    s.tripTest level = s := by
  unfold State.tripTest
  split
  · rfl
  · rename_i hsome
    refine if_neg fun c => ?_
    rcases h with h | h
    · cases (tripLimit_none h).symm.trans hsome
    · simp [State.sending, h] at c

/-- Beyond a trip limit a sample raises DANCER_TRIP (R4). -/
theorem tripTest_trips {s : State} {level : Nat} (h : level < s.sets.feed.tripLo ∨ s.sets.feed.tripHi < level) (hs : s.sending = true) :
    s.tripTest level = s.raiseFault (.dancerTrip level (if level < s.sets.feed.tripLo then s.sets.feed.tripLo else s.sets.feed.tripHi)) := by
  unfold State.tripTest
  rw [tripLimit_some h]
  exact if_pos hs

/-- A fault raised in FAULT (R189): a further one, and nothing else of the calm part. -/
theorem raiseFault_further {s : State} (h : s.port.state = .fault) (f : StationFault) :
    (s.raiseFault f).calm = { s.calm with fault := noteFault s.port.fault f } ∧ (s.raiseFault f).port.state = .fault
      ∧ (s.raiseFault f).rate = s.rate ∧ (s.raiseFault f).knife = s.knife := by
  unfold State.raiseFault
  rw [h]
  exact ⟨rfl, h, rfl, rfl⟩

/-- A sample within the trip limits, or in SILENT, leaves the calm part (R4). -/
theorem dancerSample_quiet {s : State} {n : Nat} (hk : s.KnifeObeys)
    (h : ¬(n < s.sets.feed.tripLo ∨ s.sets.feed.tripHi < n) ∨ s.port.state = .silent) :
    ((s.sampled n).tripTest n).settle.calm = s.calm := by
  rw [tripTest_quiet (s := s.sampled n) h]
  exact (settle_calm_of_obeys (s := s.sampled n) hk).trans (sampled_calm s n)

/-- A sample beyond a trip limit in JOINING or ACTIVE enters FAULT with the limit it passed (R4, R189). -/
theorem dancerSample_enters_fault {s : State} {n : Nat} (ht : n < s.sets.feed.tripLo ∨ s.sets.feed.tripHi < n)
    (hst : s.port.state = .joining ∨ s.port.state = .active) :
    ((s.sampled n).tripTest n).settle.port.state = .fault ∧ ((s.sampled n).tripTest n).settle.rate.latch = true
      ∧ ((s.sampled n).tripTest n).settle.rate.effective = 0
      ∧ ((s.sampled n).tripTest n).settle.rate.cause = some { origin := .fault, reason := 6 }
      ∧ ((s.sampled n).tripTest n).settle.port.fault.map FaultRecord.first =
          some (.dancerTrip n (if n < s.sets.feed.tripLo then s.sets.feed.tripLo else s.sets.feed.tripHi)) := by
  rw [tripTest_trips (s := s.sampled n) ht (sending_of_states (hst.imp_right .inl)).1]
  obtain ⟨hstate, hrec, hl, hc, he, _⟩ := raiseFault_entry (s.sampled n)
    (.dancerTrip n (if n < (s.sampled n).sets.feed.tripLo then (s.sampled n).sets.feed.tripLo else (s.sampled n).sets.feed.tripHi)) hst
  obtain ⟨gs, gl, ge, gc, gf⟩ := settle_faulted hstate (by rw [hrec]; rfl)
  exact ⟨gs, gl.trans hl, ge.trans he, gc.trans hc, gf.trans (by rw [hrec]; rfl)⟩

/-- A sample beyond a trip limit in FAULT is a further fault, and the cause stays (R4, R189). -/
theorem dancerSample_further {s : State} {n : Nat} (hk : s.KnifeObeys) (ht : n < s.sets.feed.tripLo ∨ s.sets.feed.tripHi < n)
    (hst : s.port.state = .fault) :
    ((s.sampled n).tripTest n).settle.port.state = .fault ∧ ((s.sampled n).tripTest n).settle.rate.cause = s.rate.cause
      ∧ (s.port.fault.isSome = true →
          ((s.sampled n).tripTest n).settle.port.fault = s.port.fault.map fun r => { r with further := true }) := by
  rw [tripTest_trips (s := s.sampled n) ht (sending_of_states (.inr (.inr hst))).1]
  obtain ⟨hcalm, hstate, hrate, hknife⟩ := raiseFault_further (s := s.sampled n) hst
    (.dancerTrip n (if n < (s.sampled n).sets.feed.tripLo then (s.sampled n).sets.feed.tripLo else (s.sampled n).sets.feed.tripHi))
  generalize (s.sampled n).raiseFault _ = u at hcalm hstate hrate hknife ⊢
  have hobeys : u.KnifeObeys := by
    unfold State.KnifeObeys
    rw [hknife, hrate]
    exact hk
  have hc := (settle_calm_of_obeys hobeys).trans hcalm
  have hst' := settle_state_of_obeys hobeys fun c => StationState.noConfusion (hstate.symm.trans c)
  generalize u.settle = t at hc hst' ⊢
  refine ⟨hst'.trans hstate, congrArg Calm.cause hc, fun hsome => ?_⟩
  obtain ⟨r, hr⟩ := Option.isSome_iff_exists.mp hsome
  have hfault : t.port.fault = noteFault s.port.fault _ := congrArg Calm.fault hc
  rw [hfault, hr]
  rfl

/-- Settles O27: the sample with its limit, then the trip test by the station state. -/
theorem dancerSampled : Obligations.DancerSampled := by
  intro level s
  refine ⟨fun h => exec_dancerSample_skipped h level, fun ho hs hk => ⟨_, exec_dancerSample ho hs level, ?_⟩⟩
  generalize level.toNat = n
  have hstill : ((s.sampled n).tripTest n).settle.still = (s.sampled n).still := (settle_still _).trans (tripTest_still _ _)
  have hquiet := dancerSample_quiet (n := n) hk
  have hentry := dancerSample_enters_fault (s := s) (n := n)
  have hfurther := dancerSample_further (n := n) hk
  generalize ((s.sampled n).tripTest n).settle = t at hstill hquiet hentry hfurther ⊢
  have hnow : t.now = max s.now s.cad.sampleDue := congrArg Still.now hstill
  have hcad : t.cad = { s.cad with sample := some n, sampleDue := max s.now s.cad.sampleDue + 1000 } := congrArg Still.cad hstill
  have hlimit : t.rate.dancerLimit = dancerLimitAfter s.sets.feed s.rate.dancerLimit n := congrArg Still.dancerLimit hstill
  refine ⟨hcad, hnow, fun h => ?_, fun h => ?_, ?_, hquiet, hentry, hfurther⟩
  · rw [hlimit, dancerLimitAfter, if_pos h]
  · rw [hlimit, dancerLimitAfter, if_neg (by rw [h]; decide), h]
  · rw [hstill, hnow, hcad, hlimit, sampled_still]

end Sys2Proof.Machine
end

section
namespace Sys2Proof.Machine

/-! # A step start -/

/-- The test of STEP_START (R14). -/
theorem stepDue_iff (s : State) : s.stepDue = true ↔ s.cad.mode = .stepping ∧ s.cad.begun = true
    ∧ (s.knife.phase = .idle ∧ 0 < s.rate.effective) ∧ (s.cad.cur.map StepInfo.complete).getD true = true := by
  unfold State.stepDue State.runCanBegin
  cases s.cad.cur <;> simp [and_assoc]

theorem exec_stepStart_waits {s : State} (h : s.dec.next = none ∨ s.stepDue ≠ true) : exec .stepStart s = .next s := by
  show execStepStart s = _
  unfold execStepStart
  split
  · rfl
  · rename_i st hn
    exact if_neg (h.resolve_left fun c => by cases c.symm.trans hn)

theorem exec_stepStart {s : State} {st : Step} (hn : s.dec.next = some st) (hd : s.stepDue = true) :
    exec .stepStart s = .next (s.stepBoundary st).settle := by
  show execStepStart s = _
  rw [execStepStart, hn]
  exact if_pos hd

/-- Where no guard is hit the step start is taken (R54). -/
theorem stepBoundary_takes {s : State} {st : Step} (hc : s.leader.state ≠ .closing)
    (hg : s.leader.state = .panel → s.guardsOver s.knifePoint st.pitch = []) : s.stepBoundary st = s.takeStep st := by
  unfold State.stepBoundary
  split
  · contradiction
  · rename_i hp
    rw [hg hp]
  all_goals rfl

/-! ## The cadence of a step start -/

theorem trimOf_zero (feed : FeedSet) (level ti : Nat) : trimOf 0 feed level ti = 0 := if_pos rfl

/-- The dancer trim of a step period is kept within an eighth of it (R17). -/
theorem trimOf_pos {own : StationId} (h : own ≠ 0) (feed : FeedSet) (level ti : Nat) : trimOf own feed level ti =
    max (-((ti / 8 : Nat) : Int)) (min ((ti / 8 : Nat) : Int)
      (((ti : Int) * ((level : Int) - (feed.setpoint : Int)) * (feed.gain : Int)).fdiv 262144)) := by
  rw [trimOf, if_neg h, min_comm]

theorem trimOf_le (own : StationId) (feed : FeedSet) (level ti : Nat) : trimOf own feed level ti ≤ ti := by
  have h8 : ((ti / 8 : Nat) : Int) ≤ ti := Int.ofNat_le.mpr (Nat.div_le_self ti 8)
  by_cases h : own = 0
  · rw [h, trimOf_zero]
    exact Int.natCast_nonneg ti
  · rw [trimOf_pos h]
    exact max_le (by omega) ((min_le_left _ _).trans h8)

/-- The trimmed step period (R17). -/
theorem startCadenceStep_trimmed (s : State) (st : Step) : ((s.startCadenceStep st).cad.trimmed : Int)
    = ((s.startCadenceStep st).cad.stepPeriod : Int) - (s.startCadenceStep st).cad.trim :=
  Int.toNat_of_nonneg (Int.sub_nonneg.mpr (trimOf_le _ _ _ _))

/-! ## The step as it is handed over, before the knife or the pulses (R61, R69) -/

/-- A step start before its knife cycle or its pulses. -/
def State.handedOver (s : State) (st : Step) : State := (s.openRegistration.startCadenceStep st).registerStep st

theorem openRegistration_fields (s : State) : s.openRegistration.calm = s.calm
    ∧ s.openRegistration.still = { s.still with reg := s.openRegistration.reg, follower := s.openRegistration.follower } := by
  unfold State.openRegistration
  split <;> exact ⟨rfl, rfl⟩

/-- Without registration a step start moves the nominal point of a FOLLOWER, and nothing else of the registration unit (R69, log 13). -/
theorem registerStep_unregistered {s : State} (h : s.registering = false) (st : Step) : s.registerStep st =
    if s.sets.line.role = .follower then { s with reg.nominal := s.reg.nominal + toPos st.pitch } else s := by
  unfold State.registerStep
  split
  · rw [if_neg (fun c => Bool.noConfusion (h.symm.trans c.2.2))]
  · rfl

theorem openRegistration_sets (s : State) : s.openRegistration.sets = s.sets := by
  unfold State.openRegistration; split <;> rfl

theorem handedOver_eq {s : State} (h : s.registering = false) (st : Step) : s.handedOver st =
    if s.sets.line.role = .follower then { s.openRegistration.startCadenceStep st with
      reg.nominal := s.openRegistration.reg.nominal + toPos st.pitch }
    else s.startCadenceStep st := by
  have hr : (s.openRegistration.startCadenceStep st).registering = false := by
    rw [← h]
    unfold State.registering
    rw [show (s.openRegistration.startCadenceStep st).sets = s.sets from openRegistration_sets s]
  have hrole : (s.openRegistration.startCadenceStep st).sets.line.role = s.sets.line.role :=
    congrArg (fun x => x.line.role) (openRegistration_sets s)
  rw [State.handedOver, registerStep_unregistered hr]
  by_cases hf : s.sets.line.role = .follower
  · rw [if_pos (hrole.trans hf), if_pos hf]
    rfl
  · rw [if_neg (hrole ▸ hf), if_neg hf, State.openRegistration, if_neg fun c => hf c.1]

/-- What handing a step over does: the cadence and the decoder of the step, the calm part as it was. -/
theorem handedOver_fields {s : State} (h : s.registering = false) (st : Step) :
    (s.handedOver st).calm = s.calm ∧ (s.handedOver st).cad = (s.startCadenceStep st).cad
      ∧ (s.handedOver st).dec = { s.dec with next := none, stepNo := st.number }
      ∧ (s.handedOver st).still = { s.still with
          cad := (s.handedOver st).cad, dec := (s.handedOver st).dec, reg := (s.handedOver st).reg
          follower := (s.handedOver st).follower }
      ∧ (s.handedOver st).registering = false := by
  have hr := handedOver_eq h st
  unfold State.openRegistration at hr
  split at hr
  · split at hr
    · rw [hr]; exact ⟨rfl, rfl, rfl, rfl, h⟩
    · rw [hr]; exact ⟨rfl, rfl, rfl, rfl, h⟩
  · rw [hr]; exact ⟨rfl, rfl, rfl, rfl, h⟩

/-- What handing a step over does at a FOLLOWER, and that it leaves the registration unit of the others (R61, R69). -/
theorem handedOver_follower {s : State} (h : s.registering = false) (st : Step) :
    (s.sets.line.role = .follower →
        (s.handedOver st).reg.nominal = (if s.cad.cur = none then s.knifePoint else s.reg.nominal) + toPos st.pitch
          ∧ (s.handedOver st).follower.start = if s.cad.cur = none then s.knifePoint else s.follower.start)
      ∧ (s.sets.line.role ≠ .follower → (s.handedOver st).reg = s.reg ∧ (s.handedOver st).follower = s.follower) := by
  rw [handedOver_eq h st]
  refine ⟨fun hf => ?_, fun hf => ?_⟩
  · rw [if_pos hf]
    unfold State.openRegistration
    by_cases hc : s.cad.cur = none
    · rw [if_pos ⟨hf, hc⟩, if_pos hc, if_pos hc]
      exact ⟨rfl, rfl⟩
    · rw [if_neg fun c => hc c.2, if_neg hc, if_neg hc]
      exact ⟨rfl, rfl⟩
  · rw [if_neg hf]
    exact ⟨rfl, rfl⟩

/-! ## A FLAT and a FOLD begin -/

theorem startFlat_fields (s : State) (st : Step) :
    (s.startFlat st).cad = { s.cad with base := s.now, idx := 0, lastPulse := none, remaining := st.pitch }
      ∧ (s.startFlat st).calm = { s.calm with web := { s.web with seg := { kind := .flow, start := s.knifePoint, outletStart := s.web.o } } }
      ∧ (s.startFlat st).still = { s.still with cad := (s.startFlat st).cad } := ⟨rfl, rfl, rfl⟩

theorem dir_of_fold {k : StepKind} (h : k ≠ .flat) : k.dir = if k = .foldRight then .right else .left := by
  cases k with
  | flat => exact absurd rfl h
  | foldLeft => rfl
  | foldRight => rfl

/-- A FOLD begins with a feed of its pitch where no registration acts (R42, R73). -/
theorem startFold_fields {s : State} (h : s.registering = false) {st : Step} (hk : st.kind ≠ .flat) :
    (s.startFold st).cad = { s.cad with remaining := 0 }
      ∧ (s.startFold st).calm = { s.calm with
          web := { s.web with seg := { kind := .fold st.width false, start := s.knifePoint, outletStart := s.web.o } }
          knife := { s.knife with
            phase := .feed, halted := false, base := s.now, idx := 0
            cycle := some
              { step := st.number, dir := if st.kind = .foldRight then .right else .left, w := st.width
                f := st.pitch, start := s.knifePoint, outletStart := s.web.o, remaining := st.pitch } } }
      ∧ (s.startFold st).still = { s.still with cad := (s.startFold st).cad } := by
  unfold State.startFold State.takeFeed
  rw [if_neg (fun c => Bool.noConfusion (h.symm.trans c)), dir_of_fold hk]
  exact ⟨rfl, rfl, rfl⟩

/-- A step start that is taken where no registration acts: the step handed over, and the FLAT's pulses or the FOLD's knife cycle. -/
theorem takeStep_fields {s : State} (h : s.registering = false) (st : Step) :
    (∃ base idx pulse remaining, (s.takeStep st).cad =
        { (s.startCadenceStep st).cad with base := base, idx := idx, lastPulse := pulse, remaining := remaining })
      ∧ (s.takeStep st).still = { s.still with
          cad := (s.takeStep st).cad, dec := { s.dec with next := none, stepNo := st.number }, reg := (s.handedOver st).reg
          follower := (s.handedOver st).follower }
      ∧ (st.kind = .flat →
          (s.takeStep st).cad.base = s.now ∧ (s.takeStep st).cad.idx = 0 ∧ (s.takeStep st).cad.remaining = st.pitch
            ∧ (s.takeStep st).calm = { s.calm with
                web := { s.web with seg := { kind := .flow, start := s.knifePoint, outletStart := s.web.o } } })
      ∧ (st.kind ≠ .flat →
          (s.takeStep st).cad.remaining = 0
            ∧ (s.takeStep st).calm = { s.calm with
                web := { s.web with seg := { kind := .fold st.width false, start := s.knifePoint, outletStart := s.web.o } }
                knife := { s.knife with
                  phase := .feed, halted := false, base := s.now, idx := 0
                  cycle := some
                    { step := st.number, dir := if st.kind = .foldRight then .right else .left, w := st.width
                      f := st.pitch, start := s.knifePoint, outletStart := s.web.o, remaining := st.pitch } } }) := by
  obtain ⟨hcalm, hcad, hdec, hstill, hunreg⟩ := handedOver_fields h st
  have htake : s.takeStep st = if st.kind = .flat then (s.handedOver st).startFlat st else (s.handedOver st).startFold st := rfl
  rw [htake]
  generalize s.handedOver st = u at hcalm hcad hdec hstill hunreg ⊢
  have hnow : u.now = s.now := congrArg Still.now hstill
  have hsets : u.sets = s.sets := congrArg Still.sets hstill
  have hweb : u.web = s.web := congrArg Calm.web hcalm
  have hknife : u.knife = s.knife := congrArg Calm.knife hcalm
  have hpoint : u.knifePoint = s.knifePoint := by rw [State.knifePoint, hweb, hsets]; rfl
  by_cases hk : st.kind = .flat
  · obtain ⟨fcad, fcalm, fstill⟩ := startFlat_fields u st
    rw [if_pos hk, fcad, fcalm, fstill, hpoint, hweb, hcalm, hnow, hcad, hstill, hdec, fcad, hnow, hcad]
    exact ⟨⟨_, _, _, _, rfl⟩, rfl, fun _ => ⟨rfl, rfl, rfl, rfl⟩, fun c => absurd hk c⟩
  · obtain ⟨fcad, fcalm, fstill⟩ := startFold_fields hunreg hk
    rw [if_neg hk, fcad, fcalm, fstill, hpoint, hweb, hknife, hcalm, hnow, hcad, hstill, hdec, fcad, hcad]
    exact ⟨⟨_, _, _, _, rfl⟩, rfl, fun c => absurd c hk, fun _ => ⟨rfl, rfl⟩⟩

/-- A step start leaves the latch as it was. -/
theorem takeStep_latch {s : State} (h : s.registering = false) (st : Step) : (s.takeStep st).rate.latch = s.rate.latch := by
  obtain ⟨_, _, hflat, hfold⟩ := takeStep_fields h st
  by_cases hk : st.kind = .flat
  · obtain ⟨_, _, _, hc⟩ := hflat hk
    exact congrArg Calm.latch hc
  · obtain ⟨_, hc⟩ := hfold hk
    exact congrArg Calm.latch hc

/-- Settles O29: with the latch clear the settling leaves the step that is taken. -/
theorem stepStartTaken : Obligations.StepStartTaken := by
  refine ⟨fun st s hlatch hnext hmode hbegun hphase heff hcomplete hreg hclosing hguards => ?_, fun s h => exec_stepStart_waits ?_⟩
  · have hdue : s.stepDue = true := (stepDue_iff s).mpr ⟨hmode, hbegun, ⟨hphase, heff⟩, hcomplete⟩
    have hexec := exec_stepStart hnext hdue
    rw [stepBoundary_takes hclosing hguards] at hexec
    have hclear : s.rate.latch = false := by
      by_contra c
      exact Nat.ne_of_gt heff (hlatch (by simpa using c))
    obtain ⟨⟨base, idx, pulse, remaining, hcad⟩, hstill, hflat, hfold⟩ := takeStep_fields hreg st
    obtain ⟨hfollow, hother⟩ := handedOver_follower hreg st
    have hobeys := clear_obeys ((takeStep_latch hreg st).trans hclear)
    have htrimmed := startCadenceStep_trimmed s st
    refine ⟨_, hexec, ?_⟩
    have tcalm := settle_calm_of_obeys hobeys
    have tstill := (settle_still (s.takeStep st)).trans hstill
    generalize s.takeStep st = u at hcad hstill hflat hfold tcalm tstill ⊢
    generalize u.settle = t at tcalm tstill ⊢
    have tcad : t.cad = u.cad := congrArg Still.cad tstill
    have treg : t.reg = (s.handedOver st).reg := congrArg Still.reg tstill
    have tfollower : t.follower = (s.handedOver st).follower := congrArg Still.follower tstill
    have tdec : t.dec = { s.dec with next := none, stepNo := st.number } := congrArg Still.dec tstill
    beta_reduce
    rw [tcad, treg, tfollower, tdec, tcalm]
    refine ⟨?_, ?_, ?_, fun ho => ?_, fun ho => ?_, ?_, ?_, rfl, hflat, hfold, tstill, hfollow, hother⟩
    case refine_4 => rw [hcad]; exact if_pos ho
    case refine_5 => rw [hcad]; exact trimOf_pos ho _ _ _
    case refine_6 => rw [hcad]; exact htrimmed
    all_goals rw [hcad]; rfl
  · rcases h with h | h | h | h | h | h
    · exact .inr fun c => h ((stepDue_iff s).mp c).1
    · exact .inr fun c => Bool.noConfusion (h.symm.trans ((stepDue_iff s).mp c).2.1)
    · exact .inr fun c => h ((stepDue_iff s).mp c).2.2.1.1
    · exact .inr fun c => Nat.ne_of_gt ((stepDue_iff s).mp c).2.2.1.2 h
    · exact .inr fun c => Bool.noConfusion (h.symm.trans ((stepDue_iff s).mp c).2.2.2)
    · exact .inl h

end Sys2Proof.Machine
end

section
namespace Sys2Proof.Machine

/-! # An announcement with room -/

/-- An announcement that finds room raises no fault: what it hands over and what it leaves of the knife and the rate (R88, R163). -/
theorem announce_room {s : State} {m : Mark} (hm : s.link.marks.length < 6) (ho : s.web.outlet.length < 16) :
    (s.announce m).knife = s.knife ∧ (s.announce m).rate = s.rate
      ∧ (s.ownId.val + 1 ≠ s.sets.line.n → s.port.state ≠ .silent →
          (s.announce m).link.marks = s.link.marks ++ [m.payload (s.web.sent + 1)]) := by
  have swept : ∀ t : State, t.web.outlet = s.web.outlet → (t.insertOutlet m).outletSweep.unswept = t.unswept := fun t ht => by
    rw [outletSweep_unswept, Roomy.insertOutlet t m (by rw [ht]; exact ho)]
    rfl
  unfold State.announce
  simp only
  split
  · rename_i hn
    have h := swept (s.countAnnounced m) rfl
    generalize ((s.countAnnounced m).insertOutlet m).outletSweep = t at h ⊢
    exact ⟨congrArg (fun x => x.2.2) h, congrArg (fun x => x.1.rate) h, fun c => absurd hn c⟩
  · have hand : ∀ p : MarkPayload, (s.countAnnounced m).handMark p =
        if s.port.state = .silent then s.countAnnounced m
        else { s.countAnnounced m with link.marks := s.link.marks ++ [p] } := fun p => by
      unfold State.handMark
      refine if_congr Iff.rfl rfl ?_
      exact if_neg (Nat.not_le_of_lt hm)
    rw [hand]
    split
    · rename_i hs
      have h := swept (s.countAnnounced m) rfl
      generalize ((s.countAnnounced m).insertOutlet m).outletSweep = t at h ⊢
      exact ⟨congrArg (fun x => x.2.2) h, congrArg (fun x => x.1.rate) h, fun _ c => absurd hs c⟩
    · have h := swept { s.countAnnounced m with link.marks := s.link.marks ++ [m.payload (s.countAnnounced m).web.sent] } rfl
      generalize (State.insertOutlet _ m).outletSweep = t at h ⊢
      exact ⟨congrArg (fun x => x.2.2) h, congrArg (fun x => x.1.rate) h, fun _ _ => congrArg (fun x => x.1.link.marks) h⟩

/-- A mark that O has not reached stays in an outlet list that was empty (R90). -/
theorem announce_outlet {s : State} {m : Mark} (hm : s.link.marks.length < 6) (he : s.web.outlet = []) (ho : atOrBeyond s.web.o m.pos = false) :
    (s.announce m).web.outlet = [m] := by
  have entered : ∀ t : State, t.web.outlet = [] → t.web.o = s.web.o → (t.insertOutlet m).outletSweep.web.outlet = [m] := fun t ht hto => by
    rw [Roomy.insertOutlet t m (by rw [ht]; decide), ht]
    unfold State.outletSweep State.sweepTo
    rw [endPanel_web]
    show (State.leaveFrom _ t.web.o [m]).web.outlet = [m]
    rw [State.leaveFrom, hto, ho]
    rfl
  unfold State.announce
  simp only
  split
  · exact entered _ he rfl
  · obtain ⟨_, _, _, _, _, hw⟩ := Roomy.handMark (s.countAnnounced m) (m.payload (s.countAnnounced m).web.sent) hm
    exact entered _ (by rw [hw]; exact he) (by rw [hw]; rfl)

/-! # The step timer -/

theorem exec_stepTimerExpiry_idle {s : State} (h : (s.cad.cur.map fun c => decide (c.kind ≠ .flat) && !c.complete).getD false = false) :
    exec .stepTimerExpiry s = .next s := by
  show execStepTimerExpiry s = _
  unfold execStepTimerExpiry State.timedFold
  cases hc : s.cad.cur with
  | none => rfl
  | some c =>
    rw [hc] at h
    have hf : (c.kind != .flat && !c.complete) = false := by simpa using h
    rw [Option.filter_some, hf]
    rfl

/-- The station with the cadence of a FOLD complete, its overrun counted (R18). -/
def State.foldDone (s : State) (c : StepInfo) : State :=
  { (s.reachTime c.due).countOverrun with cad.cur := some { c with complete := true } }

theorem exec_stepTimerExpiry {s : State} {c : StepInfo} (hc : s.cad.cur = some c) (hk : c.kind ≠ .flat) (hd : c.complete = false) :
    (c.last = false → exec .stepTimerExpiry s = .next (s.foldDone c).settle)
      ∧ (c.last = true → exec .stepTimerExpiry s = .next (s.foldDone c).panelEnd.settle) := by
  have ht : s.timedFold = some c := by simp [State.timedFold, hc, hk, hd]
  have he : exec .stepTimerExpiry s = .next (if c.last then (s.foldDone c).panelEnd else s.foldDone c).settle := by
    show execStepTimerExpiry s = _
    rw [execStepTimerExpiry, ht]
    rfl
  exact ⟨fun hl => he.trans (by rw [hl]; rfl), fun hl => he.trans (by rw [if_pos hl])⟩

theorem foldDone_fields (s : State) (c : StepInfo) :
    (s.foldDone c).cad = { s.cad with
        cur := some { c with complete := true }
        overruns := if s.knife.phase = .idle then s.cad.overruns else satInc s.cad.overruns }
      ∧ (s.foldDone c).calm = s.calm
      ∧ (s.foldDone c).still = { s.still with now := max s.now c.due, cad := (s.foldDone c).cad }
      ∧ (s.foldDone c).port.state = s.port.state := by
  unfold State.foldDone State.countOverrun
  by_cases h : s.knife.phase = .idle
  · rw [if_pos h, if_pos (show (s.reachTime c.due).knife.phase = .idle from h)]
    exact ⟨rfl, rfl, rfl, rfl⟩
  · rw [if_neg h, if_neg (show ¬(s.reachTime c.due).knife.phase = .idle from h)]
    exact ⟨rfl, rfl, rfl, rfl⟩

/-! ## The planner at a panel's end -/

theorem panelEnd_panel {s : State} (h : s.leader.state = .panel) :
    s.panelEnd = { s with leader.number := nextPanelNumber s.leader.number }.enterPending := by
  rw [State.panelEnd, h]

theorem panelEnd_closing {s : State} (h : s.leader.state = .closing) : s.panelEnd = s.abortPanel := by
  rw [State.panelEnd, h]

theorem panelEnd_waiting {s : State} (hl : s.leader.state = .off) (hf : s.follower.state = .panel) : s.panelEnd = s.enterWaiting := by
  rw [State.panelEnd, hl, hf]

theorem enterBridge_fields (s : State) : s.enterBridge.calm = s.calm ∧ s.enterBridge.cad.overruns = s.cad.overruns
    ∧ s.enterBridge.now = s.now ∧ s.enterBridge.dec = s.dec ∧ s.enterBridge.cad.begun = false ∧ s.enterBridge.cad.cur = none := by
  unfold State.enterBridge
  split <;> exact ⟨rfl, rfl, rfl, rfl, rfl, rfl⟩

/-- What follows an abort leaves the calm part, the time and the overruns; the decoder is rewound and no step is in progress (R39, R56). -/
theorem afterAbort_fields (s : State) : s.afterAbort.calm = s.calm ∧ s.afterAbort.cad.overruns = s.cad.overruns
    ∧ s.afterAbort.now = s.now ∧ s.afterAbort.dec = {} ∧ s.afterAbort.cad.begun = false ∧ s.afterAbort.cad.cur = none := by
  unfold State.afterAbort
  simp only
  split
  · exact enterBridge_fields _
  · exact ⟨rfl, rfl, rfl, rfl, rfl, rfl⟩

/-- The planner's records at an abort (R39, R56). -/
def State.aborted (s : State) : State :=
  { s.rewind with leader.aborts := satInc s.leader.aborts, leader.number := nextPanelNumber s.leader.number }

theorem afterAbort_eq (s : State) :
    s.afterAbort = if s.leader.targetSet = true then s.aborted.enterBridge else s.aborted.enterPending := rfl

theorem enterBridge_empty {s : State} (h : atOrBeyond s.knifePoint s.leader.target = true) : s.enterBridge = s.enterPending := if_pos h

theorem enterBridge_ahead {s : State} (h : ¬atOrBeyond s.knifePoint s.leader.target = true) :
    s.enterBridge = { s with leader.state := .bridge }.requestRun .continuous s.pat.p := if_neg h

/-- The planner after an abort: a bridge to the target ahead that it holds, else PENDING without a target (R52, R56, R58). -/
theorem afterAbort_planner (s : State) :
    if s.leader.targetSet = true ∧ atOrBeyond s.knifePoint s.leader.target = false then
      s.afterAbort.leader = { s.leader with
          state := .bridge, aborts := satInc s.leader.aborts, number := nextPanelNumber s.leader.number }
        ∧ s.afterAbort.cad.mode = .continuous ∧ s.afterAbort.cad.pn = s.pat.p
    else
      s.afterAbort.leader = { s.leader with
          state := .pending, target := 0, targetSet := false, aborts := satInc s.leader.aborts
          number := nextPanelNumber s.leader.number }
        ∧ s.afterAbort.cad.mode = .stepping := by
  rw [afterAbort_eq]
  by_cases ht : s.leader.targetSet = true
  · rw [if_pos (c := s.leader.targetSet = true) ht]
    by_cases hb : atOrBeyond s.knifePoint s.leader.target = true
    · rw [if_neg (fun c => Bool.noConfusion (hb.symm.trans c.2)), enterBridge_empty (s := s.aborted) hb]
      exact ⟨rfl, rfl⟩
    · rw [if_pos ⟨ht, by simpa using hb⟩, enterBridge_ahead (s := s.aborted) hb]
      exact ⟨rfl, rfl, rfl⟩
  · rw [if_neg (fun c => ht c.1), if_neg (c := s.leader.targetSet = true) ht]
    exact ⟨rfl, rfl⟩

/-- Every end of a panel leaves the time and the overrun count. -/
theorem panelEnd_keeps (s : State) : s.panelEnd.now = s.now ∧ s.panelEnd.cad.overruns = s.cad.overruns := by
  unfold State.panelEnd
  split
  · exact ⟨rfl, rfl⟩
  · obtain ⟨_, ho, hn, _⟩ := afterAbort_fields (s.announceOwn (.abort s.panelNumber) s.boundary)
    have hs := announceOwn_still s (.abort s.panelNumber) s.boundary
    unfold State.abortPanel
    generalize s.announceOwn (.abort s.panelNumber) s.boundary = u at ho hn hs ⊢
    exact ⟨hn.trans (congrArg Still.now hs), ho.trans (congrArg (fun x => x.cad.overruns) hs)⟩
  · exact ⟨rfl, rfl⟩
  · exact ⟨rfl, rfl⟩

/-- The ABORT mark of an abort with room (R56, R88), in what the settling keeps of it. -/
theorem abortPanel_room {s : State} (hk : s.KnifeObeys) (hm : s.link.marks.length < 6) (ho : s.web.outlet.length < 16) :
    s.abortPanel.KnifeObeys
      ∧ (s.ownId.val + 1 ≠ s.sets.line.n → s.port.state ≠ .silent →
          s.abortPanel.calm.link.marks = s.link.marks ++
            [{ count := s.web.sent + 1, kind := 3, spare := false, origin := BitVec.ofNat 4 s.ownId.val
               position := s.boundary + toPos s.sets.feed.b, value := s.panelNumber, roll := 0 }])
      ∧ (s.web.outlet = [] → atOrBeyond s.web.o (s.boundary + toPos s.sets.feed.b) = false →
          s.abortPanel.calm.web.outlet =
            [{ body := .abort s.panelNumber, origin := s.ownId, pos := s.boundary + toPos s.sets.feed.b }]) := by
  obtain ⟨hknife, hrate, hmarks⟩ := announce_room
    (m := { body := .abort s.panelNumber, origin := s.ownId, pos := s.boundary + toPos s.sets.feed.b }) hm ho
  have houtlet : s.web.outlet = [] → atOrBeyond s.web.o (s.boundary + toPos s.sets.feed.b) = false → _ := fun he hp =>
    announce_outlet (m := { body := .abort s.panelNumber, origin := s.ownId, pos := s.boundary + toPos s.sets.feed.b }) hm he hp
  have hcalm : s.abortPanel.calm = (s.announceOwn (.abort s.panelNumber) s.boundary).calm := (afterAbort_fields _).1
  rw [hcalm]
  unfold State.announceOwn at hcalm ⊢
  generalize s.announce _ = u at hknife hrate hmarks houtlet hcalm ⊢
  refine ⟨knifeObeys_of_calm hcalm ?_, hmarks, houtlet⟩
  unfold State.KnifeObeys
  rw [hknife, hrate]
  exact hk

/-! # The step timer of a fold -/

/-- What the end of a panel in CLOSING does besides its mark: the rewind and the planner's way on (R52, R56, R58). -/
theorem panelEnd_closing_plan {u : State} (hl : u.leader.state = .closing) :
    u.panelEnd.dec = {} ∧ u.panelEnd.cad.begun = false ∧ u.panelEnd.cad.cur = none
      ∧ if u.leader.targetSet = true ∧ atOrBeyond u.knifePoint u.leader.target = false then
          u.panelEnd.leader = { u.leader with
              state := .bridge, aborts := satInc u.leader.aborts, number := nextPanelNumber u.leader.number }
            ∧ u.panelEnd.cad.mode = .continuous ∧ u.panelEnd.cad.pn = u.pat.p
        else
          u.panelEnd.leader = { u.leader with
              state := .pending, target := 0, targetSet := false, aborts := satInc u.leader.aborts
              number := nextPanelNumber u.leader.number }
            ∧ u.panelEnd.cad.mode = .stepping := by
  have hv := announceOwn_still u (.abort u.panelNumber) u.boundary
  rw [panelEnd_closing hl]
  unfold State.abortPanel
  generalize u.announceOwn (.abort u.panelNumber) u.boundary = v at hv ⊢
  obtain ⟨_, _, _, hdec, hbegun, hcur⟩ := afterAbort_fields v
  have hplan := afterAbort_planner v
  have hleader : v.leader = u.leader := congrArg Still.leader hv
  have hpat : v.pat = u.pat := congrArg Still.pat hv
  have hpoint : v.knifePoint = u.knifePoint := by
    have hi : v.web.i = u.web.i := congrArg Still.i hv
    have hsets : v.sets = u.sets := congrArg Still.sets hv
    rw [State.knifePoint, hi, hsets]
    rfl
  rw [hleader, hpoint, hpat] at hplan
  exact ⟨hdec, hbegun, hcur, hplan⟩

/-- A fold's end inside a panel completes its cadence, counts an overrun and moves nothing else (R18, R62). -/
theorem foldDone_settled (s : State) (c : StepInfo) (hk : s.KnifeObeys) :
    (s.foldDone c).settle.calm = s.calm
      ∧ (s.foldDone c).settle.still = { s.still with now := max s.now c.due, cad := (s.foldDone c).cad } := by
  obtain ⟨_, hcalm, hstill, _⟩ := foldDone_fields s c
  exact ⟨(settle_calm_of_obeys (knifeObeys_of_calm hcalm hk)).trans hcalm, (settle_still _).trans hstill⟩

/-- Settles O34: the fold's end, then the planner's by its state. -/
theorem stepTimerExpires : Obligations.StepTimerExpires := by
  intro s
  refine ⟨exec_stepTimerExpiry_idle, fun c hc hkind hcomplete => ?_⟩
  obtain ⟨hinside, hatEnd⟩ := exec_stepTimerExpiry hc hkind hcomplete
  have hsettled := foldDone_settled s c
  obtain ⟨hcad, hcalm, hstill, hstate⟩ := foldDone_fields s c
  have hboundary : (s.foldDone c).boundary = c.outletStart + toPos c.yield := by rw [State.boundary, hcad]
  generalize s.foldDone c = u at hcad hcalm hstill hstate hboundary hinside hatEnd hsettled
  have hnow : u.now = max s.now c.due := congrArg Still.now hstill
  have hover : u.cad.overruns = if s.knife.phase = .idle then s.cad.overruns else satInc s.cad.overruns := by rw [hcad]
  by_cases hlast : c.last = false
  · refine ⟨_, hinside hlast, ?_⟩
    have ts := settle_still u
    generalize u.settle = t at ts hsettled ⊢
    have tcad : t.cad = u.cad := congrArg Still.cad ts
    have tnow : t.now = u.now := congrArg Still.now ts
    beta_reduce
    rw [tcad, tnow]
    refine ⟨hnow, hover, fun _ hk => ⟨by rw [hcad], (hsettled hk).1, by rw [(hsettled hk).2, hnow]⟩,
      fun h => absurd (hlast.symm.trans h) Bool.noConfusion, fun h => absurd (hlast.symm.trans h) Bool.noConfusion,
      fun h => absurd (hlast.symm.trans h) Bool.noConfusion⟩
  · have hlast : c.last = true := by simpa using hlast
    refine ⟨_, hatEnd hlast, ?_⟩
    have hleader : u.leader = s.leader := congrArg Still.leader hstill
    have hfollower : u.follower = s.follower := congrArg Still.follower hstill
    have hpat : u.pat = s.pat := congrArg Still.pat hstill
    have hsets : u.sets = s.sets := congrArg Still.sets hstill
    have hpoint : u.knifePoint = s.knifePoint := by
      have hi : u.web.i = s.web.i := congrArg Still.i hstill
      rw [State.knifePoint, hi, hsets]
      rfl
    obtain ⟨hendNow, hendOver⟩ := panelEnd_keeps u
    have ts := settle_still u.panelEnd
    have tc : u.panelEnd.KnifeObeys → u.panelEnd.settle.calm = u.panelEnd.calm := settle_calm_of_obeys
    generalize u.panelEnd.settle = t at ts tc ⊢
    have tcad : t.cad = u.panelEnd.cad := congrArg Still.cad ts
    have tnow : t.now = u.panelEnd.now := congrArg Still.now ts
    have tleader : t.leader = u.panelEnd.leader := congrArg Still.leader ts
    have tfollower : t.follower = u.panelEnd.follower := congrArg Still.follower ts
    have tdec : t.dec = u.panelEnd.dec := congrArg Still.dec ts
    beta_reduce
    rw [tcad, tnow, tleader, tfollower, tdec]
    refine ⟨hendNow.trans hnow, hendOver.trans hover, fun h => absurd (hlast.symm.trans h) Bool.noConfusion, fun _ hl => ?_,
      fun _ hl hf => ?_, fun _ hl => ?_⟩
    · rw [panelEnd_panel (by rw [hleader]; exact hl), hleader]
      exact ⟨rfl, rfl, rfl⟩
    · rw [panelEnd_waiting (by rw [hleader]; exact hl) (by rw [hfollower]; exact hf), ← hpat]
      exact ⟨rfl, rfl, rfl⟩
    · have hclosing : u.leader.state = .closing := by rw [hleader]; exact hl
      have hplan := panelEnd_closing_plan hclosing
      rw [hleader, hpoint, hpat] at hplan
      obtain ⟨hdec, hbegun, hcur, hway⟩ := hplan
      have hroom : s.KnifeObeys → u.link.marks.length < 6 → u.web.outlet.length < 16 → _ := fun hk hm ho =>
        abortPanel_room (knifeObeys_of_calm hcalm hk) hm ho
      have hnumber : u.panelNumber = BitVec.ofNat 16 s.leader.number := by rw [State.panelNumber, hleader]
      have hown : u.ownId = s.ownId := congrArg (fun x => x.line.id) hsets
      have hlink : u.link = s.link := congrArg Calm.link hcalm
      have hweb : u.web = s.web := congrArg Calm.web hcalm
      rw [hlink, hweb, hnumber, hown, hsets, hboundary, hstate, ← panelEnd_closing hclosing] at hroom
      refine ⟨hdec, hbegun, hcur, hway, fun hk hm ho hn hs => ?_, fun hk hm he hp => ?_⟩
      · obtain ⟨hobeys, hmarks, _⟩ := hroom hk hm ho
        have tmarks : t.link.marks = u.panelEnd.calm.link.marks := congrArg (fun x => x.link.marks) (tc hobeys)
        exact tmarks.trans (hmarks hn hs)
      · obtain ⟨hobeys, _, houtlet⟩ := hroom hk hm (by rw [he]; decide)
        have toutlet : t.web.outlet = u.panelEnd.calm.web.outlet := congrArg (fun x => x.web.outlet) (tc hobeys)
        exact toutlet.trans (houtlet he hp)

end Sys2Proof.Machine
end

section
namespace Sys2Proof.Machine

/-! # The pace of a pulse -/

theorem consume_pace (s : State) : s.consume.pace = s.pace := by
  unfold State.consume
  split
  · simp only
    split
    · rw [raiseFault_pace]; rfl
    · rfl
  · rfl

theorem consume_still (s : State) : s.consume.still = s.still := by
  unfold State.consume
  split
  · simp only
    split
    · exact (raiseFault_still _ _).trans (setSpindle_still _ _ _)
    · exact setSpindle_still _ _ _
  · rfl

/-- A nip pulse moves I by 1 and starts the rest timer, and nothing else of the pace (R76, R78). -/
theorem nipPulse_pace (s : State) : s.nipPulse.pace = { s.pace with
    i := s.web.i + 1, restDue := if s.ownId.val = 0 then none else some (s.now + 200000) } := by
  rw [State.nipPulse, consume_pace]
  rfl

theorem nipPulse_still (s : State) : s.nipPulse.still = { s.still with
    i := s.web.i + 1, restDue := if s.ownId.val = 0 then none else some (s.now + 200000) } := by
  rw [State.nipPulse, consume_still]
  rfl

/-- A nip pulse of a FLAT step or a continuous run moves I and O by 1 (R45). -/
theorem flowPulse_pace (f : State → State) (hf : ∀ t : State, (f t).pace = t.pace) (s : State) : (s.flowPulse f).pace = { s.pace with
    i := s.web.i + 1, restDue := if s.ownId.val = 0 then none else some (s.now + 200000), o := s.web.o + 1 } := by
  have hpulse := nipPulse_pace s
  have ho : s.nipPulse.web.o = s.web.o := congrArg Pace.o hpulse
  unfold State.flowPulse
  rw [afterAdvance_pace _ (fun t => by rw [nipEffects_pace, hf]), advanceOutlet_pace, hpulse, ho]
  rfl

theorem abortPanel_pace (s : State) : s.abortPanel.pace = s.pace := by
  have after : ∀ t : State, t.afterAbort.pace = t.pace := fun t => by
    rw [afterAbort_eq]
    split
    · rw [enterBridge_pace]; rfl
    · rfl
  rw [State.abortPanel, after, announceOwn_pace]

theorem completeStep_pace (s : State) (c : StepInfo) : (s.completeStep c).pace = s.pace := by
  have ended : ∀ t : State, t.panelEnd.pace = t.pace := fun t => by
    unfold State.panelEnd
    split
    · rfl
    · exact abortPanel_pace t
    · rfl
    · rfl
  unfold State.completeStep
  simp only
  split
  · rw [ended]; rfl
  · rfl

/-! ## The settling after a pulse -/

theorem settle_i (s : State) : s.settle.web.i = s.web.i ∧ s.settle.now = s.now ∧ s.settle.web.restDue = s.web.restDue := by
  have h := settle_still s
  generalize s.settle = t at h ⊢
  exact ⟨congrArg Still.i h, congrArg Still.now h, congrArg Still.restDue h⟩

theorem settle_o_of_idle {s : State} (h : s.knife.phase = .idle) : s.settle.web.o = s.web.o := by
  have hc := settle_calm (s := s) fun _ => by rw [h]; exact fun c => KnifePhase.noConfusion c
  generalize s.settle = t at hc ⊢
  exact congrArg (fun c => c.web.o) hc

theorem settle_cycle (s : State) : s.settle.knife.cycle = s.knife.cycle := by
  by_cases h : s.rate.latch = true ∧ s.knife.phase = .tuck
  · obtain ⟨_, _, _, hc, _⟩ := settle_tuck_knife h.1 h.2
    exact hc
  · have hc := settle_calm (s := s) fun hl hp => h ⟨hl, hp⟩
    have hk : (s.knife.settled s.rate.latch).cycle = s.knife.cycle := by
      unfold Knife.settled Knife.latched
      split
      · split <;> rfl
      · rfl
    generalize s.settle = t at hc ⊢
    have ht : t.knife = s.knife.settled s.rate.latch := congrArg Calm.knife hc
    rw [ht, hk]

/-- What a pulse that moves I and O leaves once the step has settled. -/
theorem flowPulse_settled (f : State → State) (hf : ∀ t : State, (f t).pace = t.pace) (s : State) :
    (s.flowPulse f).settle.web.i = s.web.i + 1
      ∧ (s.knife.phase = .idle → (s.flowPulse f).settle.web.o = s.web.o + 1)
      ∧ (s.flowPulse f).settle.now = s.now
      ∧ (s.ownId.val ≠ 0 → (s.flowPulse f).settle.web.restDue = some (s.now + 200000)) := by
  have hp := flowPulse_pace f hf s
  generalize s.flowPulse f = u at hp ⊢
  obtain ⟨hi, hn, hr⟩ := settle_i u
  refine ⟨hi.trans (congrArg Pace.i hp), fun hk => ?_, hn.trans (congrArg Pace.now hp), fun ho => ?_⟩
  · exact (settle_o_of_idle ((congrArg Pace.phase hp).trans hk)).trans (congrArg Pace.o hp)
  · exact (hr.trans (congrArg Pace.restDue hp)).trans (if_neg ho)

/-! # What a pulse leaves of the run where no crossing asks for another -/

/-- At a station that is no FOLLOWER the run stays, and the planner too while it is in PENDING or BRIDGE, but for the held guard. -/
def RunKept (s t : State) : Prop :=
  s.sets.line.role ≠ .follower →
    t.sets = s.sets ∧ t.now = s.now ∧ t.cad = s.cad
      ∧ (s.leader.state = .pending ∨ s.leader.state = .bridge →
          t.leader.state = s.leader.state ∧ t.leader.number = s.leader.number ∧ t.leader.target = s.leader.target
            ∧ t.leader.targetSet = s.leader.targetSet)

namespace RunKept

theorem of_eq {s t : State} (hs : t.sets = s.sets) (hn : t.now = s.now) (hc : t.cad = s.cad) (hl : t.leader = s.leader) : RunKept s t :=
  fun _ => ⟨hs, hn, hc, fun _ => by rw [hl]; exact ⟨rfl, rfl, rfl, rfl⟩⟩

theorem of_still {s t : State} (h : t.still = s.still) : RunKept s t :=
  of_eq (congrArg Still.sets h) (congrArg Still.now h) (congrArg Still.cad h) (congrArg Still.leader h)

theorem trans {s t u : State} (h : RunKept s t) (g : RunKept t u) : RunKept s u := fun hr => by
  obtain ⟨hs, hn, hc, hl⟩ := h hr
  obtain ⟨gs, gn, gc, gl⟩ := g (by rw [hs]; exact hr)
  refine ⟨gs.trans hs, gn.trans hn, gc.trans hc, fun hst => ?_⟩
  obtain ⟨h1, h2, h3, h4⟩ := hl hst
  obtain ⟨g1, g2, g3, g4⟩ := gl (by rw [h1]; exact hst)
  exact ⟨g1.trans h1, g2.trans h2, g3.trans h3, g4.trans h4⟩

theorem spliceKnown (s : State) (p : Pos) : RunKept s (s.spliceKnown p) := by
  have moved : ∀ t : State, s.leader.state ≠ .pending → s.leader.state ≠ .bridge → t.sets = s.sets → t.now = s.now → t.cad = s.cad →
      RunKept s t := fun t hp hb hs hn hc _ => ⟨hs, hn, hc, fun h => (h.elim hp hb).elim⟩
  unfold State.spliceKnown
  split
  · exact of_eq rfl rfl rfl rfl
  · exact of_eq rfl rfl rfl rfl
  · exact of_eq rfl rfl rfl rfl
  · rename_i h
    have hp : s.leader.state ≠ .pending := fun c => LeaderState.noConfusion (h.symm.trans c)
    have hb : s.leader.state ≠ .bridge := fun c => LeaderState.noConfusion (h.symm.trans c)
    split
    · exact of_eq rfl rfl rfl rfl
    · split
      · exact moved _ hp hb rfl rfl rfl
      · exact of_eq rfl rfl rfl rfl
  · rename_i h
    have hp : s.leader.state ≠ .pending := fun c => LeaderState.noConfusion (h.symm.trans c)
    have hb : s.leader.state ≠ .bridge := fun c => LeaderState.noConfusion (h.symm.trans c)
    split
    · exact moved _ hp hb rfl rfl rfl
    · exact of_eq rfl rfl rfl rfl

theorem reportCrossing (s : State) (m : Mark) : RunKept s (s.reportCrossing m) := by
  unfold State.reportCrossing
  split
  · have held : RunKept s { s with leader.held := some m.pos } := fun _ => ⟨rfl, rfl, rfl, fun _ => ⟨rfl, rfl, rfl, rfl⟩⟩
    exact held.trans (spliceKnown _ _)
  · rename_i h _
    exact fun hr => absurd h hr
  · rename_i h _
    exact fun hr => absurd h hr
  · exact of_eq rfl rfl rfl rfl

theorem crossOne (s : State) (e : BayEntry) : RunKept s (s.crossOne e).1 := by
  have hr := reportCrossing s e.mark
  unfold State.crossOne
  split
  · exact of_eq rfl rfl rfl rfl
  · simp only
    generalize s.reportCrossing e.mark = t at hr ⊢
    split
    · exact hr.trans (of_still (announce_still t _))
    · exact hr

theorem crossFrom (es : List BayEntry) : ∀ (kept : List BayEntry) (s : State), RunKept s (s.crossFrom kept es) := by
  induction es with
  | nil => intro kept s; exact of_eq rfl rfl rfl rfl
  | cons e es ih =>
    intro kept s
    unfold State.crossFrom
    split
    · exact ih _ _
    · split
      · have hc := crossOne s e
        split
        · rename_i he
          rw [he] at hc
          exact hc.trans (ih _ _)
        · rename_i he
          rw [he] at hc
          exact hc.trans (ih _ _)
      · exact of_eq rfl rfl rfl rfl

theorem crossings (s : State) : RunKept s s.crossings := crossFrom _ _ _

theorem enterBay (s : State) (m : Mark) : RunKept s (s.enterBay m) := by
  have ht : RunKept s { s with web.bay := insertMark (fun e => e.mark.pos) { mark := m, awaiting := false } s.web.bay } :=
    of_eq rfl rfl rfl rfl
  unfold State.enterBay
  split
  · exact of_still (raiseFault_still s _)
  · simp only
    split
    · exact (ht.trans (spliceKnown _ _)).trans (crossings _)
    · exact ht.trans (crossings _)

theorem leaveSpanFrom (ms : List Mark) : ∀ s : State, RunKept s (s.leaveSpanFrom ms) := by
  induction ms with
  | nil => intro s; exact of_eq rfl rfl rfl rfl
  | cons m ms ih =>
    intro s
    have ht : RunKept s { s with web.span := ms } := of_eq rfl rfl rfl rfl
    unfold State.leaveSpanFrom
    split
    · exact (ht.trans (enterBay _ _)).trans (ih _)
    · exact of_eq rfl rfl rfl rfl

theorem deadlineTest (s : State) : RunKept s s.deadlineTest := by
  have miss : RunKept s s.miss := by
    unfold State.miss
    split
    · exact of_eq rfl rfl rfl rfl
    · simp only
      split
      · have ht : RunKept s (State.signal { s with reg.expect := none, reg.misses := min (s.reg.misses + 1) 4 } .registration) :=
          of_eq rfl rfl rfl rfl
        exact ht.trans (of_still (raiseFault_still _ _))
      · exact of_eq rfl rfl rfl rfl
  unfold State.deadlineTest
  split
  · exact of_eq rfl rfl rfl rfl
  · split
    · exact miss
    · exact of_eq rfl rfl rfl rfl

theorem nipEffects (s : State) : RunKept s s.nipEffects := ((deadlineTest s).trans (crossings _)).trans (leaveSpanFrom _ _)

end RunKept

/-- What follows an advance of O runs the Web Tracker's effect on a state with the still part of the one before, and leaves its still part. -/
theorem afterAdvance_runs (f : State → State) (s : State) : ∃ z : State, z.still = s.still ∧ (s.afterAdvance f).still = (f z).still := by
  have dwell : ∀ t : State, t.dwellAdvance.account.still = t.still := fun t => by simp
  unfold State.afterAdvance
  split
  · exact ⟨_, account_still s, rfl⟩
  · unfold eitherOrder
    split
    · exact ⟨_, (dwell s.chosen).trans rfl, rfl⟩
    · exact ⟨s.chosen, rfl, dwell _⟩

/-- The pulse's boundary acts on a state with I advanced, and its crossings after it (R45, log 7). -/
theorem flowPulse_still (f : State → State) (s : State) : ∃ z : State,
    z.still = { s.still with i := s.web.i + 1, restDue := if s.ownId.val = 0 then none else some (s.now + 200000) }
      ∧ (s.flowPulse f).settle.still = (f z).nipEffects.still := by
  obtain ⟨z, hz, hf⟩ := afterAdvance_runs (fun t => (f t).nipEffects) (s.nipPulse.advanceOutlet 1)
  refine ⟨z, ?_, ?_⟩
  · rw [hz, advanceOutlet_still, nipPulse_still]
  · rw [settle_still]
    exact hf

/-- What a pulse leaves of the run and of the planner where no crossing asks for a run: what its boundary makes of them. -/
theorem runKept_pulse {u v : State} (h : u.still = v.nipEffects.still) : RunKept v u :=
  (RunKept.nipEffects v).trans (RunKept.of_still h)

/-! # The rows of the pulses -/

/-- A FLAT step with its next pulse counted, before the pulse acts (R19). -/
def State.flatCounted (s : State) (c : StepInfo) : State :=
  { (s.reachTime (s.flatPulseAt c)).countPulse with cad.remaining := s.cad.remaining - 1 }

/-- What a FLAT step's pulse ends before the crossings (R19, log 7). -/
def flatBoundary (c : StepInfo) (x : State) : State := if x.cad.remaining = 0 then x.completeStep c else x

/-- What a continuous pulse ends before the crossings (R52, log 7). -/
def bridgeBoundary (x : State) : State := if x.bridgeDone then x.enterPending else x

theorem flatBoundary_pace (c : StepInfo) (x : State) : (flatBoundary c x).pace = x.pace := by
  unfold flatBoundary
  split
  · exact completeStep_pace x c
  · rfl

theorem bridgeBoundary_pace (x : State) : (bridgeBoundary x).pace = x.pace := by
  unfold bridgeBoundary
  split <;> rfl

theorem exec_flatStepPulse {s : State} {c : StepInfo} (hc : s.cad.cur = some c) (hk : c.kind = .flat) (hd : c.complete = false)
    (hr : 0 < s.cad.remaining) (he : 0 < s.rate.effective) :
    exec .flatStepPulse s = .next ((s.flatCounted c).flowPulse (flatBoundary c)).settle := by
  have hf : s.flatDue = some c := by simp [State.flatDue, hc, hk, hd, hr, he]
  show execFlatStepPulse s = _
  rw [execFlatStepPulse, hf]
  rfl

theorem exec_flatStepPulse_idle {s : State} (h : s.cad.cur = none ∨ s.cad.remaining = 0 ∨ s.rate.effective = 0) :
    exec .flatStepPulse s = .next s := by
  have hf : s.flatDue = none := by
    unfold State.flatDue
    rcases h with h | h | h
    · rw [h]; rfl
    · simp [h]
    · simp [h]
  show execFlatStepPulse s = _
  rw [execFlatStepPulse, hf]

/-- A continuous run with its next pulse counted, before the pulse acts (R21). -/
def State.continuousCounted (s : State) : State := (s.reachTime s.continuousPulseAt).countPulse

theorem exec_continuousPulse {s : State} (hm : s.cad.mode = .continuous) (hb : s.cad.begun = true) (hp : s.cad.pn ≠ 0)
    (he : 0 < s.rate.effective) : exec .continuousPulse s = .next (s.continuousCounted.flowPulse bridgeBoundary).settle := by
  refine if_pos ?_
  simp [State.continuousDue, hm, hb, hp, he]

theorem exec_continuousPulse_idle {s : State} (h : s.cad.mode ≠ .continuous ∨ s.cad.begun = false ∨ s.cad.pn = 0 ∨ s.rate.effective = 0) :
    exec .continuousPulse s = .next s := by
  refine if_neg ?_
  rcases h with h | h | h | h <;> simp [State.continuousDue, h]

theorem exec_feedPulse {s : State} {c : Cycle} (hc : s.knife.cycle = some c) (hp : s.knife.phase = .feed) (hh : s.knife.halted = false)
    (hr : 0 < c.remaining) : exec .feedPulse s = .next (s.feedPulse c).settle := by
  have hf : s.feedDue = some c := by simp [State.feedDue, hc, hp, hh, hr]
  show execFeedPulse s = _
  rw [execFeedPulse, hf]

theorem exec_feedPulse_idle {s : State} (h : s.knife.phase ≠ .feed ∨ s.knife.halted = true ∨ s.knife.cycle = none) :
    exec .feedPulse s = .next s := by
  have hf : s.feedDue = none := by
    unfold State.feedDue
    rcases h with h | h | h
    · simp [h]
    · simp [h]
    · rw [h]; rfl
  show execFeedPulse s = _
  rw [execFeedPulse, hf]

/-- The feed count and the phase at a feed pulse (R43). -/
theorem feedStep_pace (s : State) (c : Cycle) : (s.feedStep c).pace = { s.pace with
    cycle := some { c with remaining := c.remaining - 1 }
    phase := if c.remaining = 1 then .tuck else s.knife.phase
    due := if c.remaining = 1 then s.now + 1000 * s.sets.knife.tTuck else s.knife.due } := by
  unfold State.feedStep
  simp only
  split <;> rfl

/-- A feed pulse moves I, and O not (R43, R45). -/
theorem feedPulse_pace (s : State) (c : Cycle) : (s.feedPulse c).pace = { s.pace with
    now := max s.now s.feedPulseAt
    i := s.web.i + 1
    restDue := if s.ownId.val = 0 then none else some (max s.now s.feedPulseAt + 200000)
    cycle := some { c with remaining := c.remaining - 1 }
    phase := if c.remaining = 1 then .tuck else s.knife.phase
    due := if c.remaining = 1 then max s.now s.feedPulseAt + 1000 * s.sets.knife.tTuck else s.knife.due } := by
  have hstep := feedStep_pace (s.reachTime s.feedPulseAt) c
  rw [State.feedPulse, nipEffects_pace, nipPulse_pace]
  generalize (s.reachTime s.feedPulseAt).feedStep c = u at hstep ⊢
  have hi : u.web.i = s.web.i := congrArg Pace.i hstep
  have hn : u.now = max s.now s.feedPulseAt := congrArg Pace.now hstep
  have ho : u.ownId = s.ownId := congrArg (fun p => p.sets.line.id) hstep
  rw [hstep, hi, hn, ho]
  rfl

/-- A feed pulse once the step has settled: what it leaves of the knife and of O where the latch is clear (R43, R46, R47). -/
theorem feedPulse_settled {s : State} {c : Cycle} (hp : s.knife.phase = .feed) :
    (s.feedPulse c).settle.web.i = s.web.i + 1 ∧ (s.feedPulse c).settle.now = max s.now s.feedPulseAt
      ∧ (s.feedPulse c).settle.knife.cycle = some { c with remaining := c.remaining - 1 }
      ∧ (s.ownId.val ≠ 0 → (s.feedPulse c).settle.web.restDue = some (max s.now s.feedPulseAt + 200000))
      ∧ ((s.feedPulse c).settle.rate.latch = false →
          (s.feedPulse c).settle.web.o = s.web.o
            ∧ (s.feedPulse c).settle.knife.phase = (if c.remaining = 1 then .tuck else .feed)
            ∧ (c.remaining = 1 → (s.feedPulse c).settle.knife.due = max s.now s.feedPulseAt + 1000 * s.sets.knife.tTuck)) := by
  have hpace := feedPulse_pace s c
  generalize s.feedPulse c = u at hpace ⊢
  obtain ⟨hi, hn, hr⟩ := settle_i u
  have hcycle := settle_cycle u
  have hrises := Rises.settle u
  refine ⟨hi.trans (congrArg Pace.i hpace), hn.trans (congrArg Pace.now hpace), hcycle.trans (congrArg Pace.cycle hpace),
    fun ho => (hr.trans (congrArg Pace.restDue hpace)).trans (if_neg ho), fun hl => ?_⟩
  have hclear : u.rate.latch = false := by
    by_contra c
    exact Bool.noConfusion (hl.symm.trans (hrises.1 (by simpa using c)))
  have hc := settle_calm_of_obeys (clear_obeys hclear)
  generalize u.settle = t at hc ⊢
  have hknife : t.knife = u.knife := congrArg Calm.knife hc
  have hweb : t.web = u.web := congrArg Calm.web hc
  rw [hknife, hweb]
  refine ⟨congrArg Pace.o hpace, ?_, fun h1 => ?_⟩
  · rw [← hp]
    exact congrArg Pace.phase hpace
  · exact (congrArg Pace.due hpace).trans (if_pos h1)

/-! ## What the boundary of a pulse makes of the run -/

theorem flatCounted_still (s : State) (c : StepInfo) : (s.flatCounted c).still = { s.still with
    now := max s.now (s.flatPulseAt c)
    cad := { s.cad with remaining := s.cad.remaining - 1, idx := s.cad.idx + 1, lastPulse := some (max s.now (s.flatPulseAt c)) } } := rfl

theorem continuousCounted_still (s : State) : s.continuousCounted.still = { s.still with
    now := max s.now s.continuousPulseAt
    cad := { s.cad with idx := s.cad.idx + 1, lastPulse := some (max s.now s.continuousPulseAt) } } := rfl

/-- The run after a FLAT step's pulse, at a station whose crossings ask for no run (R19). -/
theorem flatPulse_run (s : State) (c : StepInfo) (hrole : s.sets.line.role ≠ .follower) : ∃ z : State,
    z.sets = s.sets ∧ z.now = max s.now (s.flatPulseAt c) ∧ z.leader = s.leader
      ∧ z.cad = { s.cad with remaining := s.cad.remaining - 1, idx := s.cad.idx + 1, lastPulse := some z.now }
      ∧ RunKept (flatBoundary c z) ((s.flatCounted c).flowPulse (flatBoundary c)).settle
      ∧ (flatBoundary c z).sets.line.role ≠ .follower ∧ (flatBoundary c z).now = z.now := by
  obtain ⟨z, hz, ht⟩ := flowPulse_still (flatBoundary c) (s.flatCounted c)
  rw [flatCounted_still] at hz
  have hpace := flatBoundary_pace c z
  have hsets : (flatBoundary c z).sets = z.sets := congrArg Pace.sets hpace
  have hzs : z.sets = s.sets := congrArg Still.sets hz
  have hnow : z.now = max s.now (s.flatPulseAt c) := congrArg Still.now hz
  refine ⟨z, hzs, hnow, congrArg Still.leader hz, ?_, runKept_pulse ht, by rw [hsets, hzs]; exact hrole, congrArg Pace.now hpace⟩
  rw [hnow]
  exact congrArg Still.cad hz

/-- The run after a continuous pulse, at a station whose crossings ask for no run (R21). -/
theorem continuousPulse_run (s : State) (hrole : s.sets.line.role ≠ .follower) : ∃ z : State,
    z.sets = s.sets ∧ z.leader = s.leader ∧ z.web.i = s.web.i + 1
      ∧ z.cad = { s.cad with idx := s.cad.idx + 1, lastPulse := some z.now }
      ∧ RunKept (bridgeBoundary z) (s.continuousCounted.flowPulse bridgeBoundary).settle
      ∧ (bridgeBoundary z).sets.line.role ≠ .follower ∧ (bridgeBoundary z).now = z.now := by
  obtain ⟨z, hz, ht⟩ := flowPulse_still bridgeBoundary s.continuousCounted
  rw [continuousCounted_still] at hz
  have hpace := bridgeBoundary_pace z
  have hsets : (bridgeBoundary z).sets = z.sets := congrArg Pace.sets hpace
  have hzs : z.sets = s.sets := congrArg Still.sets hz
  have hnow : z.now = max s.now s.continuousPulseAt := congrArg Still.now hz
  refine ⟨z, hzs, congrArg Still.leader hz, congrArg Still.i hz, ?_, runKept_pulse ht, by rw [hsets, hzs]; exact hrole,
    congrArg Pace.now hpace⟩
  rw [hnow]
  exact congrArg Still.cad hz

/-- Settles O38: the pace of each pulse, and what its boundary makes of the run and the planner. -/
theorem pulsesAdvance : Obligations.PulsesAdvance := by
  refine ⟨fun s => ⟨fun c hc hk hd hr he => ⟨_, exec_flatStepPulse hc hk hd hr he, ?_⟩,
    fun hm hb hp he => ⟨_, exec_continuousPulse hm hb hp he, ?_⟩, fun c hc hp hh hr => ⟨_, exec_feedPulse hc hp hh hr, ?_⟩,
    exec_flatStepPulse_idle, exec_continuousPulse_idle, exec_feedPulse_idle⟩,
    fun c s hc hk hd hr he hrole => ⟨_, exec_flatStepPulse hc hk hd hr he, ?_⟩,
    fun s hm hb hp he hl hrole => ⟨_, exec_continuousPulse hm hb hp he, ?_⟩⟩
  · obtain ⟨hi, ho, hn, hrest⟩ := flowPulse_settled (flatBoundary c) (flatBoundary_pace c) (s.flatCounted c)
    generalize ((s.flatCounted c).flowPulse (flatBoundary c)).settle = t at hi ho hn hrest ⊢
    exact ⟨hi, ho, hn, fun h => by rw [hn]; exact hrest h⟩
  · obtain ⟨hi, ho, hn, hrest⟩ := flowPulse_settled bridgeBoundary bridgeBoundary_pace s.continuousCounted
    generalize (s.continuousCounted.flowPulse bridgeBoundary).settle = t at hi ho hn hrest ⊢
    exact ⟨hi, ho, hn, fun h => by rw [hn]; exact hrest h⟩
  · obtain ⟨hi, hn, hcycle, hrest, hclear⟩ := feedPulse_settled (c := c) hp
    generalize (s.feedPulse c).settle = t at hi hn hcycle hrest hclear ⊢
    rw [hn]
    exact ⟨hi, rfl, hcycle, hrest, hclear⟩
  · obtain ⟨z, _, _, hleader, hcad, hkept, hzrole, hznow⟩ := flatPulse_run s c hrole
    obtain ⟨_, tn, tc, tl⟩ := hkept hzrole
    generalize ((s.flatCounted c).flowPulse (flatBoundary c)).settle = t at tn tc tl ⊢
    rw [tc, tn, hznow]
    refine ⟨fun h1 => ?_, fun h1 hlast => ?_, fun h1 hlast hl => ?_⟩
    · have hb : flatBoundary c z = z := if_neg (by rw [hcad]; show ¬s.cad.remaining - 1 = 0; omega)
      rw [hb, hcad]
    · have hb : flatBoundary c z = z.completeStep c := if_pos (by rw [hcad]; show s.cad.remaining - 1 = 0; omega)
      rw [hb, State.completeStep, if_neg (by rw [hlast]; decide), hcad, h1]
    · have hb : flatBoundary c z = z.completeStep c := if_pos (by rw [hcad]; show s.cad.remaining - 1 = 0; omega)
      have he : flatBoundary c z = State.enterPending { z with
          cad.cur := some { c with complete := true }, leader.number := nextPanelNumber z.leader.number } := by
        rw [hb, State.completeStep, if_pos hlast]
        exact panelEnd_panel (s := { z with cad.cur := some { c with complete := true } }) (by rw [hleader]; exact hl)
      have hpending : (flatBoundary c z).leader.state = .pending := by rw [he]; rfl
      obtain ⟨l1, l2, _, _⟩ := tl (.inl hpending)
      refine ⟨l1.trans hpending, l2.trans ?_⟩
      rw [he, hleader]
      rfl
  · obtain ⟨z, hzs, hleader, hi, hcad, hkept, hzrole, hznow⟩ := continuousPulse_run s (by rw [hrole]; decide)
    obtain ⟨_, tn, tc, tl⟩ := hkept hzrole
    generalize (s.continuousCounted.flowPulse bridgeBoundary).settle = t at tn tc tl ⊢
    have hpoint : z.knifePoint = s.web.i + 1 - toPos s.sets.feed.a := by rw [State.knifePoint, hi, hzs]
    have hstate : z.leader.state = .bridge := by rw [hleader]; exact hl
    rw [tc, tn, hznow]
    by_cases hb : atOrBeyond (s.web.i + 1 - toPos s.sets.feed.a) s.leader.target = true
    · have hdone : bridgeBoundary z = z.enterPending := if_pos ((bridgeDone_iff z).mpr ⟨hstate, by rw [hpoint, hleader]; exact hb⟩)
      obtain ⟨l1, l2, l3, l4⟩ := tl (.inl (by rw [hdone]; rfl))
      rw [hdone] at l1 l2 l3 l4 ⊢
      rw [l1, l2, l3, l4]
      refine ⟨by rw [← hleader]; rfl, fun _ => ⟨rfl, rfl, rfl, rfl, rfl⟩, fun c => Bool.noConfusion (hb.symm.trans c)⟩
    · have hdone : bridgeBoundary z = z := if_neg fun c => hb (by rw [← hpoint, ← hleader]; exact ((bridgeDone_iff z).mp c).2)
      rw [hdone] at tl ⊢
      obtain ⟨l1, l2, l3, l4⟩ := tl (.inr hstate)
      rw [l1, l2, l3, l4, hleader]
      exact ⟨rfl, fun c => absurd c hb, fun _ => ⟨hl, rfl, rfl, hcad⟩⟩

end Sys2Proof.Machine
end

section
namespace Sys2Proof.Machine

/-! # What the port answers -/

/-! ## The bits that a transaction shifts out -/

@[simp] theorem bitsOf_length {n : Nat} (v : BitVec n) : (bitsOf v).length = n := List.length_ofFn

theorem flatMap_bitsOf_length (bytes : List Byte) : (bytes.flatMap fun b => bitsOf b).length = 8 * bytes.length := by
  simp [List.length_flatMap, Nat.mul_comm]

/-- Bytes 00h shift out as low bits (R179). -/
theorem flatMap_bitsOf_zeros (n : Nat) : ((List.replicate n (0 : Byte)).flatMap fun b => bitsOf b) = List.replicate (8 * n) false := by
  induction n with
  | zero => rfl
  | succ n ih =>
    have hbyte : bitsOf (0 : Byte) = List.replicate 8 false := by decide
    rw [List.replicate_succ, List.flatMap_cons, ih, hbyte, List.replicate_append_replicate, Nat.mul_succ, Nat.add_comm]

/-- The bits of the first bytes are the first bits. -/
theorem take_flatMap_bitsOf (bytes : List Byte) : ∀ n : Nat,
    (bytes.flatMap fun b => bitsOf b).take (8 * n) = (bytes.take n).flatMap fun b => bitsOf b := by
  induction bytes with
  | nil => intro n; simp
  | cons b bs ih =>
    intro n
    cases n with
    | zero => rfl
    | succ n =>
      rw [List.flatMap_cons, List.take_succ_cons, List.flatMap_cons, List.take_append, bitsOf_length,
        List.take_of_length_le (by rw [bitsOf_length]; omega), ← ih n]
      rfl

/-- A response shifts out as if enough bytes 00h stood behind it (R179). -/
theorem shiftedBits_padded (bytes : List Byte) {edges n : Nat} (h : edges ≤ 8 * n) :
    shiftedBits bytes edges = ((bytes ++ List.replicate n 0).flatMap fun b => bitsOf b).take edges := by
  rw [List.flatMap_append, flatMap_bitsOf_zeros, List.take_append, List.take_replicate, Nat.min_eq_left (by omega)]
  rfl

theorem exec_fetch (n : Nat) (s : State) : exec (.fetch n) s =
    .next { s with port.sdo := ((s.port.response ++ List.replicate n 0).take n).flatMap fun b => bitsOf b } := by
  rw [← take_flatMap_bitsOf, ← shiftedBits_padded _ (Nat.le_refl _)]
  rfl

theorem exec_transactionDiscarded (edges : Nat) (s : State) : exec (.transactionDiscarded edges) s =
    .next { s with port.sdo := ((s.port.response ++ List.replicate edges 0).flatMap fun b => bitsOf b).take edges } := by
  rw [← shiftedBits_padded _ (by omega)]
  rfl

/-! ## Every command of the port is taken -/

theorem exec_unknownCommand {command : Byte} {args : List Byte} (h : (Instr.unknownCommand command args).wf = true) (s : State) :
    exec (.unknownCommand command args) s = .next (s.takeCommand args (some refusedValue) [] id) := by
  refine if_neg ?_
  simpa [Instr.wf] using h

/-- Every request but a fetch and READ STATUS is taken as a command: judged, and answered BUSY during a pattern check (R31, R179). -/
theorem exec_takes {c : Instr} {command : Byte} {args : List Byte} (hw : c.wf = true) (he : encodeRequest c = some (command, args))
    (hf : command ≠ fetchByte) (hs : command ≠ 0x40) (s : State) :
    ∃ refusal data effect, exec c s = .next (s.takeCommand args refusal data effect) := by
  cases c with
  | fetch n => cases he; exact absurd rfl hf
  | readStatus a => cases he; exact absurd rfl hs
  | unknownCommand b a => cases he; exact ⟨_, _, _, exec_unknownCommand hw s⟩
  | writeSet a | loadPattern a | checkPattern a | start a | restart a | clearFault a | stop a | resume a | wake a | loadRoll a | unload a
  | clearZone a | readPeerView a | readQueues a | readPanelLog a | eventEnable a | eventAcknowledge a | eventEnd a | eventClear a =>
    cases he; exact ⟨_, _, _, rfl⟩
  | _ => cases he

/-- READ STATUS has no BUSY answer; outside a pattern check it is taken as every command (R31, R181). -/
theorem exec_readStatus {s : State} (hb : s.pat.status ≠ .checking) (args : List Byte) :
    exec (.readStatus args) s = .next (s.takeCommand args (countRefusal args 0 none) s.statusWord id) := by
  rw [State.takeCommand, if_neg hb]
  rfl

/-- A command with a required count has that count judged first (R179, R199). -/
theorem exec_counts {c : Instr} {command : Byte} {args : List Byte} {n : Nat} {s : State} (he : encodeRequest c = some (command, args))
    (hn : fixedCount c = some n) (hb : s.pat.status ≠ .checking) :
    ∃ refusal data effect, exec c s = .next (s.takeCommand args (countRefusal args n refusal) data effect) := by
  cases c with
  | readStatus a => cases he; cases hn; exact ⟨_, _, _, exec_readStatus hb _⟩
  | checkPattern a | start a | restart a | clearFault a | stop a | resume a | wake a | loadRoll a | unload a | clearZone a | readPeerView a
  | readQueues a | readPanelLog a | eventEnable a | eventAcknowledge a | eventEnd a | eventClear a =>
    cases he; cases hn; exact ⟨_, _, _, rfl⟩
  | _ => cases hn

/-- A command of another argument count than it requires (R179). -/
theorem takeCommand_miscounted {s : State} (hb : s.pat.status ≠ .checking) {args : List Byte} {n : Nat} (hn : args.length ≠ n)
    (refusal : Option Byte) (data : List Byte) (effect : State → State) :
    s.takeCommand args (countRefusal args n refusal) data effect = s.answered args [refusedValue] := by
  rw [countRefusal, if_neg hn]
  exact takeCommand_refused hb args refusedValue data effect

/-- Settles O9: what is shifted out by the bits of the response, and each answer by how its command is taken. -/
theorem portAnswers : Obligations.PortAnswers := by
  refine ⟨⟨exec_fetch, exec_transactionDiscarded⟩, fun c command args s hw he hf hs hb => ?_,
    fun c command args n s he hn hlen hb => ?_, fun command args s hw hb => ?_⟩
  · obtain ⟨refusal, data, effect, h⟩ := exec_takes hw he hf hs s
    rw [h, takeCommand_busy hb]
    rfl
  · obtain ⟨refusal, data, effect, h⟩ := exec_counts he hn hb
    rw [h, takeCommand_miscounted hb hlen]
    rfl
  · rw [exec_unknownCommand hw, takeCommand_refused hb]
    rfl

end Sys2Proof.Machine
end

section
namespace Sys2Proof.Machine

/-! # WRITE SET and LOAD PATTERN -/

/-! ## The refusals of WRITE SET, in the order of R182 -/

theorem exec_writeSet_refused {s : State} (hb : s.pat.status ≠ .checking) {args : List Byte} {code : Byte}
    (h : s.writeSetRefusal args = some code) : exec (.writeSet args) s = .next (s.answered args [code]) := by
  show Host.Outcome.next (s.takeCommand args (s.writeSetRefusal args) [] _) = _
  rw [h, takeCommand_refused hb]

theorem writeSetRefusal_running {s : State} (h : s.port.state ≠ .config) : ∀ args, s.writeSetRefusal args = some refusedState
  | [] => by simp [State.writeSetRefusal, State.running, h]
  | _ :: _ => by simp [State.writeSetRefusal, State.running, h]

theorem writeSetRefusal_nil {s : State} (h : s.port.state = .config) : s.writeSetRefusal [] = some refusedValue := by
  simp [State.writeSetRefusal, State.running, h]

/-- In CONFIG a set is judged by its length, then by the LINE set it needs, then by its fields. -/
theorem writeSetRefusal_cons {s : State} (h : s.port.state = .config) (code : Byte) (f : List Byte) :
    s.writeSetRefusal (code :: f) =
      if setLength code ≠ some f.length then some refusedValue
      else if s.sets.lineW = false ∧ code ≠ 1 then some refusedOrder
      else if s.parseSet code f = none then some refusedValue else none := by
  simp [State.writeSetRefusal, State.running, h]

/-! ## The refusals of LOAD PATTERN, in the order of R27 -/

theorem exec_loadPattern_refused {s : State} (hb : s.pat.status ≠ .checking) {args : List Byte} {code : Byte}
    (h : s.loadPatternRefusal args = some code) : exec (.loadPattern args) s = .next (s.answered args [code]) := by
  show Host.Outcome.next (s.takeCommand args (s.loadPatternRefusal args) [] _) = _
  rw [h, takeCommand_refused hb]

theorem loadPatternRefusal_running {s : State} (h : s.port.state ≠ .config) (args : List Byte) :
    s.loadPatternRefusal args = some refusedState := by
  simp [State.loadPatternRefusal, State.running, h]

theorem loadPatternRefusal_count {s : State} (h : s.port.state = .config) {args : List Byte}
    (hlen : args.length < 3 ∨ 258 < args.length) : s.loadPatternRefusal args = some refusedValue := by
  rcases hlen with hlen | hlen <;> simp [State.loadPatternRefusal, State.running, h, hlen]

/-- The offset a chunk names is the one it carries. -/
theorem loadOffset_chunk {off : Nat} (h : off < 65536) (data : List Byte) : loadOffset (toBytes 2 off ++ data) = off :=
  numAt_toBytes h data

theorem drop_chunk (off : Nat) (data : List Byte) : (toBytes 2 off ++ data).drop 2 = data := List.drop_left' (toBytes_length 2 off)

/-- A chunk of 1 to 256 bytes is judged by its end and by its offset alone. -/
theorem loadPatternRefusal_chunk {s : State} (h : s.port.state = .config) {off : Nat} (ho : off < 65536) {data : List Byte}
    (hlo : 1 ≤ data.length) (hhi : data.length ≤ 256) :
    s.loadPatternRefusal (toBytes 2 off ++ data) =
      if 4096 < off + data.length then some refusedValue
      else if 0 < off ∧ s.pat.loaded < off then some refusedOrder else none := by
  have hshort : ¬2 + data.length < 3 := by omega
  have hlong : ¬258 < 2 + data.length := by omega
  simp [State.loadPatternRefusal, State.running, h, loadOffset_chunk ho, hshort, hlong]

/-- Settles O11, test by test of each command's table. -/
theorem setAndPatternRefused : Obligations.SetAndPatternRefused := by
  refine ⟨fun args s hb => ⟨fun hr => ?_, fun hc => ⟨fun hnil => ?_, fun code f hargs => ⟨fun hlen => ?_, fun hlen hl hcode => ?_,
      fun hlen hl hp => ?_⟩⟩⟩,
    fun args s hb => ⟨fun hr => ?_, fun hc hlen => ?_, fun off data ho hargs hc hlo hhi => ⟨fun hend => ?_, fun hend hpos hbeyond => ?_⟩⟩⟩
  case refine_1 => exact exec_writeSet_refused hb (writeSetRefusal_running hr args)
  case refine_2 => exact exec_writeSet_refused hb (hnil ▸ writeSetRefusal_nil hc)
  case refine_3 =>
    refine exec_writeSet_refused hb ?_
    rw [hargs, writeSetRefusal_cons hc, if_pos hlen]
    rfl
  case refine_4 =>
    refine exec_writeSet_refused hb ?_
    rw [hargs, writeSetRefusal_cons hc, if_neg (not_not_intro hlen), if_pos ⟨hl, hcode⟩]
    rfl
  case refine_5 =>
    have hordered : ¬(s.sets.lineW = false ∧ code ≠ 1) := fun ⟨hunset, hcode⟩ =>
      hl.elim (fun hset => Bool.noConfusion (hunset.symm.trans hset)) hcode
    refine exec_writeSet_refused hb ?_
    rw [hargs, writeSetRefusal_cons hc, if_neg (not_not_intro hlen), if_neg hordered, if_pos hp]
    rfl
  case refine_6 => exact exec_loadPattern_refused hb (loadPatternRefusal_running hr args)
  case refine_7 => exact exec_loadPattern_refused hb (loadPatternRefusal_count hc hlen)
  case refine_8 =>
    refine exec_loadPattern_refused hb ?_
    rw [hargs, loadPatternRefusal_chunk hc ho hlo hhi, if_pos hend]
    rfl
  case refine_9 =>
    refine exec_loadPattern_refused hb ?_
    rw [hargs, loadPatternRefusal_chunk hc ho hlo hhi, if_neg (by omega), if_pos ⟨hpos, hbeyond⟩]
    rfl

/-! ## An accepted chunk (R27, R28) -/

/-- A chunk written to the store reads back byte by byte, and every other byte reads as before. -/
theorem readStore_writeChunk (bytes : List Byte) : ∀ (m : List Host.Cell) (off : Nat), off + bytes.length ≤ 4096 → Memory.wf m = true →
    ∀ a, readStore (writeChunk m off bytes) a =
      if off ≤ a ∧ a < off + bytes.length then bytes[a - off]?.getD 0 else readStore m a := by
  induction bytes with
  | nil => intro m off _ _ a; rw [if_neg (by simp only [List.length_nil]; omega)]; rfl
  | cons v vs ih =>
    intro m off hend hm a
    rw [List.length_cons] at hend ⊢
    have hrest := ih (writeStore m off v) (off + 1) (by omega) (writeStore_wf off v (by omega) m 0 (Nat.zero_le _) hm) a
    rw [writeChunk, hrest]
    rcases Nat.lt_trichotomy a off with hlt | heq | hgt
    · rw [if_neg (by omega), if_neg (by omega), readStore_writeStore_other off a v (by omega) m 0 hm]
    · rw [if_neg (by omega), if_pos (by omega), heq, readStore_writeStore_same off v m 0 hm, Nat.sub_self]
      rfl
    · have hindex : a - off = (a - (off + 1)) + 1 := by omega
      rw [readStore_writeStore_other off a v (by omega) m 0 hm, hindex, List.getElem?_cons_succ]
      exact if_congr (by omega) rfl rfl

/-- The pattern an accepted chunk leaves: INVALID, with no results (R27, R28). -/
def Pattern.withChunk (x : Pattern) (off : Nat) (data : List Byte) : Pattern :=
  { store := writeChunk x.store off data, loaded := if off = 0 then data.length else max x.loaded (off + data.length) }

/-- A chunk that passes every test of R27 is written, and the limits are formed again. -/
theorem exec_loadPattern_chunk {off : Nat} {data : List Byte} {s : State} (hs : s.Safe) (hc : s.port.state = .config)
    (hb : s.pat.status ≠ .checking) (hlo : 1 ≤ data.length) (hhi : data.length ≤ 256) (hend : off + data.length ≤ 4096)
    (hloaded : off ≤ s.pat.loaded) :
    exec (.loadPattern (toBytes 2 off ++ data)) s =
      .next (State.answered (State.limits { s with pat := s.pat.withChunk off data }) (toBytes 2 off ++ data) [accepted]) := by
  have hrefusal : s.loadPatternRefusal (toBytes 2 off ++ data) = none := by
    rw [loadPatternRefusal_chunk hc (by omega) hlo hhi, if_neg (by omega), if_neg (by omega)]
  have heffect (t : State) (ht : t.Parked) (hp : t.pat = s.pat) :
      t.loadPattern (toBytes 2 off ++ data) = State.limits { t with pat := s.pat.withChunk off data } := by
    rw [State.loadPattern, loadOffset_chunk (by omega), drop_chunk, hp]
    exact (ht.withPattern (writeChunk_wf data s.pat.store off hend hs.store)).settle_eq
  show Host.Outcome.next (s.takeCommand _ (s.loadPatternRefusal _) [] _) = _
  rw [hrefusal, takeCommand_accepted hb, heffect _ ((hs.parked hc).shiftOut _) rfl]
  rfl

/-- Settles O13, by the bytes of the chunk and the settling in CONFIG. -/
theorem loadPatternAccepted : Obligations.LoadPatternAccepted := by
  intro off data s hs hc hb hlo hhi hend hloaded
  exact ⟨_, exec_loadPattern_chunk hs hc hb hlo hhi hend hloaded, readStore_writeChunk data s.pat.store off hend hs.store, rfl, rfl⟩

end Sys2Proof.Machine
end

section
namespace Sys2Proof.Machine

/-! # The running decoder -/

/-! ## Numbers in the stream, most significant bit first (R26, R29, R30) -/

theorem ite_eq_toNat (b : Bool) : (if b = true then 1 else 0) = b.toNat := by cases b <;> rfl

theorem storeField_lt (m : List Host.Cell) (off len : Nat) : storeField m off len < 2 ^ len := by
  induction len with
  | zero => exact Nat.one_pos
  | succ len ih =>
    have hbit := Bool.toNat_le (storeBit m (off + len))
    rw [storeField, ite_eq_toNat, pow_succ]
    omega

/-- The first bit of a field is its highest. -/
theorem storeField_top (m : List Host.Cell) (off len : Nat) :
    storeField m off (len + 1) = (storeBit m off).toNat * 2 ^ len + storeField m (off + 1) len := by
  induction len with
  | zero => simp [storeField, ite_eq_toNat]
  | succ len ih =>
    rw [storeField, ih, storeField, pow_succ, show off + (len + 1) = off + 1 + len by omega]
    ring

/-- The model's field is the number the stream's bits spell. -/
theorem storeField_eq_streamNumber (x : Pattern) (off len : Nat) : storeField x.store off len = x.streamNumber off len := by
  induction len with
  | zero => rfl
  | succ len ih =>
    have hhigh : ∀ k ∈ List.range len, (x.streamBit (off + k)).toNat * 2 ^ (len + 1 - 1 - k)
        = 2 * ((x.streamBit (off + k)).toNat * 2 ^ (len - 1 - k)) := by
      intro k hk
      have hlt := List.mem_range.mp hk
      rw [show len + 1 - 1 - k = len - 1 - k + 1 by omega, pow_succ]
      ring
    rw [storeField, ih, Pattern.streamNumber, Pattern.streamNumber, List.range_succ, List.map_append, List.sum_append,
      List.map_congr_left hhigh, List.sum_map_mul_left]
    simp only [List.map_singleton, List.sum_singleton, Nat.add_sub_cancel, Nat.sub_self, pow_zero, Nat.mul_one, ite_eq_toNat]
    rfl

/-- A 7-bit delta is below 0 exactly where its first bit is set (R30). -/
theorem signed7_storeField (m : List Host.Cell) (off : Nat) :
    signed7 (storeField m off 7) = (storeField m off 7 : Int) - (if storeBit m off then 128 else 0) := by
  have htop := storeField_top m off 6
  have hrest := storeField_lt m (off + 1) 6
  unfold signed7
  cases hbit : storeBit m off <;> rw [hbit] at htop
  · rw [if_pos (by simp at htop; omega)]; simp
  · rw [if_neg (by simp at htop; omega)]; simp

/-- A width or depth field that ends within the loaded bits is read whole (R30). -/
theorem readValue_stream {x : Pattern} {bitLen off : Nat} (h : x.streamPast off ≤ bitLen) (prev : Nat) :
    readValue x.store bitLen off prev = some (x.streamValue off prev, x.streamPast off) := by
  have hbit : storeBit x.store off = x.streamBit off := rfl
  unfold readValue Pattern.streamValue
  unfold Pattern.streamPast at h ⊢
  cases hform : x.streamBit off <;> rw [hform] at h hbit
  · rw [if_neg (by simp at h; omega), hbit, if_neg (by decide), if_neg (by simpa using h), signed7_storeField,
      storeField_eq_streamNumber, ← Int.add_sub_assoc]
    rfl
  · rw [if_neg (by simp at h; omega), hbit, if_pos rfl, if_neg (by simpa using h), storeField_eq_streamNumber]
    rfl

/-- A FLAT record within the loaded bits is its length (R29). -/
theorem readFields_flat {m : List Host.Cell} {bitLen off : Nat} (h : off + 18 ≤ bitLen) (pw pd : Nat) :
    readFields m bitLen off pw pd .flat
      = some { flag := false, width := (storeField m (off + 2) 16 : Int), depth := 0, next := off + 18 } :=
  if_neg (by omega)

/-- A FLAT record that was read has these fields. -/
theorem readFields_flat_some {m : List Host.Cell} {bitLen off pw pd : Nat} {r : RecordFields}
    (h : readFields m bitLen off pw pd .flat = some r) :
    r = { flag := false, width := (storeField m (off + 2) 16 : Int), depth := 0, next := off + 18 } := by
  by_cases hlen : off + 18 ≤ bitLen
  · exact Option.some.inj (h.symm.trans (readFields_flat hlen pw pd))
  · rw [readFields, if_pos (by omega)] at h
    cases h

/-- A FOLD record within the loaded bits: the register flag, the width, and the depth behind it (R29, R30). -/
theorem readFields_fold {x : Pattern} {bitLen off : Nat} {kind : StepKind} (hk : kind ≠ .flat)
    (h : x.streamPast (x.streamPast (off + 3)) ≤ bitLen) (pw pd : Nat) :
    readFields x.store bitLen off pw pd kind
      = some { flag := x.streamBit (off + 2), width := x.streamValue (off + 3) pw
               depth := x.streamValue (x.streamPast (off + 3)) pd, next := x.streamPast (x.streamPast (off + 3)) } := by
  have hpast : ∀ n, n ≤ x.streamPast n := fun n => Nat.le_add_right _ _
  have hfirst := hpast (off + 3)
  have hsecond := hpast (x.streamPast (off + 3))
  cases kind with
  | flat => exact absurd rfl hk
  | foldLeft | foldRight =>
    rw [readFields, if_neg (by omega), readValue_stream (hsecond.trans h)]
    simp only [readValue_stream h]
    rfl

/-! ## A record decoded (R37, R38) -/

/-- The step that the record at the cursor spells (R37). -/
def Decoder.recordStep (d : Decoder) (x : Pattern) (kind : StepKind) (r : RecordFields) : Step :=
  { kind := kind, pitch := r.pitch, width := if kind = .flat then 0 else r.width.toNat, depth := r.depth.toNat, flag := r.flag
    number := d.nextNumber, offset := d.cursor, last := d.nextNumber == x.steps }

/-- The decoder past the record at its cursor: at the stream start after the last step (R37, R38). -/
def Decoder.pastRecord (d : Decoder) (x : Pattern) (kind : StepKind) (r : RecordFields) : Decoder :=
  let st := d.recordStep x kind r
  { cursor := if st.last then 0 else r.next
    prevW := if st.last then 0 else if kind = .flat then d.prevW else st.width
    prevD := if st.last then 0 else if kind = .flat then d.prevD else st.depth
    stepNo := d.stepNo
    next := some st }

theorem decoded_record {d : Decoder} {x : Pattern} {kind : StepKind} {r : RecordFields}
    (hk : kindOfBits (storeField x.store d.cursor 2) = some kind)
    (hr : readFields x.store (8 * x.loaded) d.cursor d.prevW d.prevD kind = some r) : d.decoded x = some (d.pastRecord x kind r) := by
  unfold Decoder.decoded
  simp only [hk, hr]
  cases kind <;> rfl

/-- The last step sends the decoder back to its start values; every other leaves it behind its record (R37). -/
theorem pastRecord_eq (d : Decoder) (x : Pattern) (kind : StepKind) (r : RecordFields) :
    d.pastRecord x kind r =
      if decide (d.nextNumber = x.steps) then { stepNo := d.stepNo, next := some (d.recordStep x kind r) }
      else
        { cursor := r.next, prevW := if kind = .flat then d.prevW else r.width.toNat
          prevD := if kind = .flat then d.prevD else r.depth.toNat, stepNo := d.stepNo, next := some (d.recordStep x kind r) } := by
  have hlast : (d.recordStep x kind r).last = decide (d.nextNumber = x.steps) := rfl
  rw [Decoder.pastRecord, hlast]
  cases decide (d.nextNumber = x.steps) with
  | true => rfl
  | false => cases kind <;> rfl

theorem decoding_iff (s : State) : s.decoding = true ↔ s.running = true ∧ s.sets.line.role ≠ .none ∧ s.dec.next = none := by
  simp [State.decoding, and_assoc]

/-- The decoder at work moves past the record at its cursor and touches nothing else (R37). -/
theorem exec_decodeEnd_record {s : State} {kind : StepKind} {r : RecordFields} (hr : s.running = true)
    (hrole : s.sets.line.role ≠ .none) (hn : s.dec.next = none)
    (hk : kindOfBits (storeField s.pat.store s.dec.cursor 2) = some kind)
    (hfields : readFields s.pat.store (8 * s.pat.loaded) s.dec.cursor s.dec.prevW s.dec.prevD kind = some r) :
    exec .decodeEnd s = .next { s with dec := s.dec.pastRecord s.pat kind r } := by
  show execDecodeEnd s = _
  rw [execDecodeEnd, if_pos ((decoding_iff s).mpr ⟨hr, hrole, hn⟩), decoded_record hk hfields]

theorem exec_decodeEnd_idle {s : State} (hd : ¬s.decoding = true) : exec .decodeEnd s = .next s := if_neg hd

/-- Kind bits of 10 are a FOLD_LEFT, of 11 a FOLD_RIGHT (R29). -/
theorem kindOfBits_fold {n : Nat} (h : 2 ≤ n) : kindOfBits n = some (if n = 2 then .foldLeft else .foldRight) := by
  rw [kindOfBits, if_neg (by omega), if_neg (by omega)]
  split <;> rfl

/-- A FLAT record's pitch is its length (R29). -/
theorem pitch_length (flag : Bool) (length next : Nat) :
    RecordFields.pitch { flag := flag, width := (length : Int), depth := 0, next := next } = length := by
  simp [RecordFields.pitch]

/-- A FOLD's pitch is w + 2d (R29). -/
theorem pitch_fold (flag : Bool) {w d : Int} (hw : 0 ≤ w) (hd : 0 ≤ d) (next : Nat) :
    RecordFields.pitch { flag := flag, width := w, depth := d, next := next } = w.toNat + 2 * d.toNat := by
  show (w + 2 * d).toNat = _
  omega

/-- Settles O14: the record at the cursor by its fields, and its fields by the bits of the stream. -/
theorem decodeEndFills : Obligations.DecodeEndFills := by
  refine ⟨fun s kind r hr hrole hn hk hfields => ?_, fun s hr hrole hn => ⟨fun hkind hlen => ?_, fun hkind hlen hw hd => ?_⟩, fun s h => ?_⟩
  · refine ⟨_, exec_decodeEnd_record hr hrole hn hk hfields, s.dec.recordStep s.pat kind r,
      rfl, rfl, rfl, rfl, rfl, rfl, rfl, fun hflat => ?_, fun hfold => ⟨if_neg hfold, rfl⟩, rfl, rfl, rfl, rfl, rfl⟩
    subst hflat
    obtain rfl := readFields_flat_some hfields
    exact ⟨pitch_length false _ (s.dec.cursor + 18), rfl, rfl⟩
  · have hk : kindOfBits (storeField s.pat.store s.dec.cursor 2) = some .flat := by rw [storeField_eq_streamNumber, hkind]; rfl
    refine ⟨_, exec_decodeEnd_record hr hrole hn hk (readFields_flat hlen _ _), ?_⟩
    rw [pastRecord_eq, Decoder.recordStep, pitch_length, storeField_eq_streamNumber]
    rfl
  · have hk := (congrArg kindOfBits (storeField_eq_streamNumber s.pat s.dec.cursor 2)).trans (kindOfBits_fold hkind)
    have hfold : (if s.pat.streamNumber s.dec.cursor 2 = 2 then StepKind.foldLeft else .foldRight) ≠ .flat := by split <;> decide
    refine ⟨_, exec_decodeEnd_record hr hrole hn hk (readFields_fold hfold hlen _ _), ?_⟩
    rw [pastRecord_eq, Decoder.recordStep, pitch_fold _ hw hd, if_neg hfold, if_neg hfold, if_neg hfold]
    rfl
  · refine exec_decodeEnd_idle fun hd => ?_
    obtain ⟨hr, hrole, hn⟩ := (decoding_iff s).mp hd
    rcases h with h | h | h
    · exact Bool.noConfusion (h.symm.trans hr)
    · exact hrole h
    · rw [hn] at h; cases h

end Sys2Proof.Machine
end

section
namespace Sys2Proof.Machine

/-! # What an announcement leaves of the web, the Dwell Table and the MARK slots -/

/-- A fault raised moves nothing of the web, and no MARK slot (R189). -/
theorem raiseFault_web (s : State) (f : StationFault) :
    (s.raiseFault f).web = s.web ∧ (s.raiseFault f).link.marks = s.link.marks := by
  have enter : ∀ t : State, (t.enterFault f).web = t.web ∧ (t.enterFault f).link.marks = t.link.marks := fun t => by
    have hand : ∀ u : State, (u.handStopResume (.stop f.code)).web = u.web
        ∧ (u.handStopResume (.stop f.code)).link.marks = u.link.marks :=
      fun u => by unfold State.handStopResume; split <;> exact ⟨rfl, rfl⟩
    obtain ⟨hweb, hlink, _⟩ := setLatch_rest { t with port.state := .fault, port.fault := some { first := f, further := false } }
      { origin := .fault, reason := f.code }
    exact ⟨(hand _).1.trans hweb, (hand _).2.trans (congrArg Link.marks hlink)⟩
  unfold State.raiseFault
  split
  · exact ⟨rfl, rfl⟩
  · exact enter _
  · exact enter _
  · exact ⟨rfl, rfl⟩
  · exact ⟨rfl, rfl⟩

/-- A MARK frame handed moves nothing of the web or the Dwell Table (R163, R165). -/
theorem handMark_web (s : State) (p : MarkPayload) : (s.handMark p).web = s.web ∧ (s.handMark p).dwell = s.dwell := by
  unfold State.handMark
  split
  · exact ⟨rfl, rfl⟩
  · split
    · exact ⟨(raiseFault_web s _).1, raiseFault_dwell s _⟩
    · exact ⟨rfl, rfl⟩

/-- Outside SILENT a MARK frame takes the next free slot (R163). -/
theorem handMark_free {s : State} (hm : s.link.marks.length < 6) (hs : s.port.state ≠ .silent) (p : MarkPayload) :
    s.handMark p = { s with link.marks := s.link.marks ++ [p] } := by
  rw [State.handMark, if_neg hs, if_neg (Nat.not_le_of_lt hm)]

/-- A mark that leaves the outlet list moves nothing else of the web (R90). -/
theorem markLeaves_web (s : State) (m : Mark) : (s.markLeaves m).web = s.web := by
  have closed : ∀ (t : State) (p : Pos) (f : Reasons → Reasons), (t.closePanel p f).web = t.web := fun t p f =>
    congrArg Calm.web (calm_of_kept (closePanel_kept t p f))
  have full : ∀ (t : State) (p : Pos), (t.closeIfFull p).web = t.web := fun t p => congrArg Calm.web (calm_of_kept (closeIfFull_kept t p))
  have flag : ∀ (t : State) (p : Pos) (f : Reasons → Reasons), (t.flagPanel p f).web = t.web := fun t p f => by
    unfold State.flagPanel
    split
    · rfl
    · split <;> rfl
  have cut : ∀ t : State, t.transferCut.web = t.web := fun t => by
    unfold State.transferCut
    split
    · rfl
    · split <;> rfl
  have before : ∀ (t : State) (p : Pos), (t.closeBeforeAbort p).web = t.web := fun t p => by
    unfold State.closeBeforeAbort
    split
    · split
      · rfl
      · exact full _ p
    · exact full t p
  unfold State.markLeaves
  split
  · unfold State.handOff
    split
    · exact (cut _).trans ((closed _ _ _).trans (full s _))
    · exact (closed _ _ _).trans (before s _)
    · exact (flag _ _ _).trans (full s _)
    · exact (flag _ _ _).trans (full s _)
    · exact full s _
  · rfl

/-- The web but for its outlet list. -/
def State.bareWeb (s : State) : Web := { s.web with outlet := [] }

theorem bareWeb_of_web {s t : State} (h : t.web = s.web) : t.bareWeb = s.bareWeb := by
  rw [State.bareWeb, h]
  rfl

theorem leaveFrom_bareWeb (limit : Pos) (ms : List Mark) : ∀ s : State, (s.leaveFrom limit ms).bareWeb = s.bareWeb := by
  induction ms with
  | nil => intro s; rfl
  | cons m ms ih =>
    intro s
    unfold State.leaveFrom
    split
    · exact (ih _).trans (bareWeb_of_web (markLeaves_web s m))
    · rfl

theorem sweepTo_bareWeb (s : State) (limit : Pos) : (s.sweepTo limit).bareWeb = s.bareWeb :=
  (bareWeb_of_web (endPanel_web _ _)).trans (leaveFrom_bareWeb _ _ s)

theorem outletSweep_bareWeb (s : State) : s.outletSweep.bareWeb = s.bareWeb := sweepTo_bareWeb s _

/-- The test of the outlet list and a cut move the outlet list alone of the web (R90, R150). -/
theorem account_bareWeb (s : State) : s.account.bareWeb = s.bareWeb := by
  have chosen : ∀ t : State, t.chosen.bareWeb = t.bareWeb := fun _ => rfl
  have cut : ∀ t : State, t.cutAtMaximum.bareWeb = t.bareWeb := fun t => bareWeb_of_web (cutAtMaximum_web t)
  unfold State.account eitherOrder
  split
  · exact outletSweep_bareWeb s
  · split
    · rw [outletSweep_bareWeb, cut, chosen, sweepTo_bareWeb]
    · rw [cut, outletSweep_bareWeb, chosen, sweepTo_bareWeb]

/-- An announcement counts its mark and moves nothing else of the web but the outlet list, and the tag alone of the Dwell Table (R88, R89,
R126). -/
theorem announce_counts (s : State) (m : Mark) :
    (s.announce m).bareWeb = { s.bareWeb with sent := s.web.sent + 1 }
      ∧ (s.announce m).dwell = { s.dwell with tag := tagAfter s.dwell.tag m.body } := by
  have entered : ∀ t : State, (t.insertOutlet m).outletSweep.bareWeb = t.bareWeb ∧ (t.insertOutlet m).outletSweep.dwell = t.dwell :=
    fun t => by
      have hsweep : (t.insertOutlet m).outletSweep.dwell = (t.insertOutlet m).dwell :=
        congrArg (fun x => x.2.1) (outletSweep_unswept _)
      rw [outletSweep_bareWeb, hsweep, State.insertOutlet]
      split
      · exact ⟨bareWeb_of_web (raiseFault_web t _).1, raiseFault_dwell t _⟩
      · exact ⟨rfl, rfl⟩
  unfold State.announce
  simp only
  split
  · exact entered (s.countAnnounced m)
  · obtain ⟨hweb, hdwell⟩ := entered ((s.countAnnounced m).handMark (m.payload (s.countAnnounced m).web.sent))
    obtain ⟨gweb, gdwell⟩ := handMark_web (s.countAnnounced m) (m.payload (s.countAnnounced m).web.sent)
    exact ⟨hweb.trans (bareWeb_of_web gweb), hdwell.trans gdwell⟩

/-- With a free slot the MARK frame of an announcement is handed, whatever becomes of the outlet list (R82, R88, R163). -/
theorem announce_marks {s : State} (hm : s.link.marks.length < 6) (hn : s.ownId.val + 1 ≠ s.sets.line.n) (hs : s.port.state ≠ .silent)
    (m : Mark) : (s.announce m).link.marks = s.link.marks ++ [m.payload (s.web.sent + 1)] := by
  have insert : ∀ t : State, (t.insertOutlet m).link.marks = t.link.marks := fun t => by
    unfold State.insertOutlet
    split
    · exact (raiseFault_web t _).2
    · rfl
  have sweep : ∀ t : State, t.outletSweep.link.marks = t.link.marks := fun t => congrArg (fun x => x.1.link.marks) (outletSweep_unswept t)
  unfold State.announce
  simp only
  rw [sweep, insert, if_neg (show ¬(s.countAnnounced m).ownId.val + 1 = (s.countAnnounced m).sets.line.n from hn),
    handMark_free (s := s.countAnnounced m) hm hs]
  rfl

/-- A mark that O has not reached stays in an outlet list that was empty, whatever becomes of its MARK frame (R90, R165). -/
theorem announce_alone {s : State} {m : Mark} (he : s.web.outlet = []) (ho : atOrBeyond s.web.o m.pos = false) :
    (s.announce m).web.outlet = [m] := by
  have entered : ∀ t : State, t.web.outlet = [] → t.web.o = s.web.o →
      (t.insertOutlet m).outletSweep.web.outlet = [m] := fun t ht hto => by
    rw [Roomy.insertOutlet t m (by rw [ht]; decide), ht]
    unfold State.outletSweep State.sweepTo
    rw [endPanel_web]
    show (State.leaveFrom _ t.web.o [m]).web.outlet = [m]
    rw [State.leaveFrom, hto, ho]
    rfl
  unfold State.announce
  simp only
  split
  · exact entered _ he rfl
  · have hw := (handMark_web (s.countAnnounced m) (m.payload (s.countAnnounced m).web.sent)).1
    exact entered _ (by rw [hw]; exact he) (by rw [hw]; rfl)

end Sys2Proof.Machine
end

section
namespace Sys2Proof.Machine

/-! # The boundary that aborts a panel -/

/-- With the knife IDLE a settling leaves the calm part, also under a set latch (R46). -/
theorem settle_calm_of_idle {s : State} (h : s.knife.phase = .idle) : s.settle.calm = s.calm := by
  refine settle_calm_of_obeys fun _ => ?_
  rw [h]
  exact ⟨fun c => KnifePhase.noConfusion c, fun c => KnifePhase.noConfusion c⟩

/-- Of positions all at or before one of them, that one is the farthest. -/
theorem farthest_eq {p x : Pos} {xs : List Pos} (hp : p ∈ x :: xs) (hq : ∀ q ∈ x :: xs, atOrBeyond p q = true) :
    farthest x xs = p := by
  have behind : ∀ q, atOrBeyond p q = true → beyond q p = false := fun q h => by
    by_contra c
    simp only [beyond, atOrBeyond, Bool.not_eq_false, Bool.and_eq_true, decide_eq_true_eq, bne_iff_ne] at h c
    exact c.2 (by bv_omega)
  have reached : ∀ m, atOrBeyond p m = true → (if beyond p m then p else m) = p := fun m h => by
    by_cases e : p = m
    · simp [e]
    · simp [beyond, h, e]
  induction xs generalizing x with
  | nil => exact (List.mem_singleton.mp hp).symm
  | cons y ys ih =>
    show farthest (if beyond y x then y else x) ys = p
    have hx := hq x (by simp)
    have hy := hq y (by simp)
    have hys : ∀ q ∈ ys, atOrBeyond p q = true := fun q h => hq q (by simp [h])
    rcases List.mem_cons.mp hp with e | h
    · subst e
      rw [behind y hy]
      exact ih (List.mem_cons_self) (List.forall_mem_cons.mpr ⟨hx, hys⟩)
    · rcases List.mem_cons.mp h with e | h
      · subst e
        rw [reached x hx]
        exact ih (List.mem_cons_self) (List.forall_mem_cons.mpr ⟨hy, hys⟩)
      · refine ih (List.mem_cons_of_mem _ h) (List.forall_mem_cons.mpr ⟨?_, hys⟩)
        split
        · exact hy
        · exact hx

/-- The station with a bridge target and its flag (R52). -/
def State.aimed (s : State) (target : Pos) (held : Bool) : State := { s with leader.target := target, leader.targetSet := held }

/-- A boundary that aborts (R54, R58): in CLOSING with the target as it stands, in PANEL with the target one past the farthest guard end. -/
theorem exec_stepStart_aborts {s : State} {st : Step} (hn : s.dec.next = some st) (hd : s.stepDue = true)
    (h : s.leader.state = .closing ∨ s.leader.state = .panel ∧ s.guardsOver s.knifePoint st.pitch ≠ []) :
    ∃ target held, exec .stepStart s = .next (s.aimed target held).abortPanel.settle
      ∧ (s.leader.state = .closing → target = s.leader.target ∧ held = s.leader.targetSet)
      ∧ (s.leader.state = .panel → held = true ∧ ∀ p ∈ s.guardsOver s.knifePoint st.pitch,
          (∀ q ∈ s.guardsOver s.knifePoint st.pitch, atOrBeyond p q = true) → target = p + toPos s.sets.knife.g + 1) := by
  rw [exec_stepStart hn hd]
  rcases h with h | ⟨h, hg⟩
  · refine ⟨s.leader.target, s.leader.targetSet, ?_, fun _ => ⟨rfl, rfl⟩, fun c => LeaderState.noConfusion (h.symm.trans c)⟩
    rw [State.stepBoundary, h]
    rfl
  · obtain ⟨x, xs, hxs⟩ := List.exists_cons_of_ne_nil hg
    refine ⟨s.pastGuard (farthest x xs), true, ?_, fun c => LeaderState.noConfusion (h.symm.trans c),
      fun _ => ⟨rfl, fun p hp hq => ?_⟩⟩
    · rw [State.stepBoundary, h, hxs]
      rfl
    · rw [hxs] at hp hq
      rw [farthest_eq hp hq]
      rfl

/-- The planner of `t` is that of `u` after an abort: a bridge to the target ahead that it holds, else PENDING without a target (R52, R56,
R58). -/
def PlannedOn (u t : State) : Prop :=
  if u.leader.targetSet = true ∧ atOrBeyond u.knifePoint u.leader.target = false then
    t.leader = { u.leader with state := .bridge, aborts := satInc u.leader.aborts, number := nextPanelNumber u.leader.number }
      ∧ t.cad.mode = .continuous ∧ t.cad.pn = u.pat.p
  else
    t.leader = { u.leader with
        state := .pending, target := 0, targetSet := false, aborts := satInc u.leader.aborts
        number := nextPanelNumber u.leader.number }
      ∧ t.cad.mode = .stepping

theorem PlannedOn.counts {u t : State} (h : PlannedOn u t) : (t.leader.state = .bridge ∨ t.leader.state = .pending)
    ∧ t.leader.aborts = satInc u.leader.aborts ∧ t.leader.number = nextPanelNumber u.leader.number := by
  unfold PlannedOn at h
  split at h
  · rw [h.1]
    exact ⟨.inl rfl, rfl, rfl⟩
  · rw [h.1]
    exact ⟨.inr rfl, rfl, rfl⟩

/-- With a target set the planner goes on to its bridge, or to PENDING where the target is not ahead (R52). -/
theorem PlannedOn.of_target {s t : State} {target : Pos} (h : PlannedOn (s.aimed target true) t) :
    if atOrBeyond s.knifePoint target = true then
      t.leader = { s.leader with
          state := .pending, target := 0, targetSet := false, aborts := satInc s.leader.aborts
          number := nextPanelNumber s.leader.number }
        ∧ t.cad.mode = .stepping
    else
      t.leader = { s.leader with
          state := .bridge, target := target, targetSet := true, aborts := satInc s.leader.aborts
          number := nextPanelNumber s.leader.number }
        ∧ t.cad.mode = .continuous ∧ t.cad.pn = s.pat.p := by
  by_cases hb : atOrBeyond s.knifePoint target = true
  · rw [PlannedOn, if_neg fun c => Bool.noConfusion (hb.symm.trans c.2)] at h
    rw [if_pos hb]
    exact h
  · rw [PlannedOn, if_pos ⟨rfl, eq_false_of_ne_true hb⟩] at h
    rw [if_neg hb]
    exact h

/-- Without a target the planner goes to PENDING (R58). -/
theorem PlannedOn.of_none {s t : State} {target : Pos} (h : PlannedOn (s.aimed target false) t) :
    t.leader = { s.leader with
        state := .pending, target := 0, targetSet := false, aborts := satInc s.leader.aborts
        number := nextPanelNumber s.leader.number }
      ∧ t.cad.mode = .stepping := by
  rw [PlannedOn, if_neg fun c => Bool.noConfusion c.1] at h
  exact h

/-- An abort at the boundary, before the settling: its mark counted, the decoder rewound, no step in progress, the planner moved on (R39,
R56, R58). -/
theorem abortPanel_fields (u : State) :
    u.abortPanel.calm = (u.announceOwn (.abort u.panelNumber) u.boundary).calm
      ∧ u.abortPanel.dec = {} ∧ u.abortPanel.cad.begun = false ∧ u.abortPanel.cad.cur = none ∧ PlannedOn u u.abortPanel := by
  have hv := announceOwn_still u (.abort u.panelNumber) u.boundary
  unfold State.abortPanel
  generalize u.announceOwn (.abort u.panelNumber) u.boundary = v at hv ⊢
  obtain ⟨hcalm, _, _, hdec, hbegun, hcur⟩ := afterAbort_fields v
  have hplan := afterAbort_planner v
  have hleader : v.leader = u.leader := congrArg Still.leader hv
  have hpat : v.pat = u.pat := congrArg Still.pat hv
  have hpoint : v.knifePoint = u.knifePoint := by
    have hi : v.web.i = u.web.i := congrArg Still.i hv
    have hsets : v.sets = u.sets := congrArg Still.sets hv
    rw [State.knifePoint, hi, hsets]
    rfl
  rw [hleader, hpoint, hpat] at hplan
  exact ⟨hcalm, hdec, hbegun, hcur, hplan⟩

/-- An abort at the boundary once the step has settled, with the knife IDLE (R54, R56, R88). -/
theorem abortPanel_settled {u : State} (hk : u.knife.phase = .idle) :
    u.abortPanel.settle.dec = {} ∧ u.abortPanel.settle.cad.begun = false ∧ u.abortPanel.settle.cad.cur = none
      ∧ u.abortPanel.settle.knife.phase = .idle ∧ u.abortPanel.settle.dwell.tag = none
      ∧ u.abortPanel.settle.bareWeb = { u.bareWeb with sent := u.web.sent + 1 } ∧ PlannedOn u u.abortPanel.settle
      ∧ (u.link.marks.length < 6 → u.ownId.val + 1 ≠ u.sets.line.n → u.port.state ≠ .silent →
          u.abortPanel.settle.link.marks = u.link.marks ++
            [{ count := u.web.sent + 1, kind := 3, spare := false, origin := BitVec.ofNat 4 u.ownId.val
               position := u.boundary + toPos u.sets.feed.b, value := u.panelNumber, roll := 0 }])
      ∧ (u.web.outlet = [] → atOrBeyond u.web.o (u.boundary + toPos u.sets.feed.b) = false →
          u.abortPanel.settle.web.outlet =
            [{ body := .abort u.panelNumber, origin := u.ownId, pos := u.boundary + toPos u.sets.feed.b }]) := by
  obtain ⟨hcalm, hdec, hbegun, hcur, hplan⟩ := abortPanel_fields u
  have hphase : u.abortPanel.knife.phase = .idle := (congrArg Pace.phase (abortPanel_pace u)).trans hk
  have tcalm := (settle_calm_of_idle hphase).trans hcalm
  have tstill := settle_still u.abortPanel
  have announced := announce_counts u { body := .abort u.panelNumber, origin := u.ownId, pos := u.boundary + toPos u.sets.feed.b }
  have marks : u.link.marks.length < 6 → u.ownId.val + 1 ≠ u.sets.line.n → u.port.state ≠ .silent → _ := fun hm hn hs =>
    announce_marks hm hn hs { body := .abort u.panelNumber, origin := u.ownId, pos := u.boundary + toPos u.sets.feed.b }
  have outlet : u.web.outlet = [] → atOrBeyond u.web.o (u.boundary + toPos u.sets.feed.b) = false → _ := fun he ho =>
    announce_alone (m := { body := .abort u.panelNumber, origin := u.ownId, pos := u.boundary + toPos u.sets.feed.b }) he ho
  have pphase := announceOwn_pace u (.abort u.panelNumber) u.boundary
  unfold State.announceOwn at tcalm pphase
  generalize u.announce _ = v at tcalm announced marks outlet pphase
  generalize u.abortPanel.settle = t at tcalm tstill ⊢
  generalize u.abortPanel = w at tstill hdec hbegun hcur hplan
  have tcad : t.cad = w.cad := congrArg Still.cad tstill
  have tweb : t.web = v.web := congrArg Calm.web tcalm
  have tleader : t.leader = w.leader := congrArg Still.leader tstill
  have tlink : t.link = v.link := congrArg Calm.link tcalm
  have tdwell : t.dwell = v.dwell := congrArg Calm.dwell tcalm
  have tknife : t.knife = v.knife := congrArg Calm.knife tcalm
  refine ⟨(congrArg Still.dec tstill).trans hdec, by rw [tcad]; exact hbegun, by rw [tcad]; exact hcur, ?_, ?_,
    (bareWeb_of_web tweb).trans announced.1, ?_, fun hm hn hs => ?_, fun he ho => ?_⟩
  · rw [tknife]
    exact (congrArg Pace.phase pphase).trans hk
  · rw [tdwell, announced.2]
    rfl
  · unfold PlannedOn
    rw [tleader, tcad]
    exact hplan
  · rw [tlink]
    exact marks hm hn hs
  · rw [tweb]
    exact outlet he ho

/-- Settles O31: a step that starts has met no guard, and the boundary that aborts is the abort with its target set at most. -/
theorem guardsSpared : Obligations.GuardsSpared := by
  refine ⟨fun st s t hl hn hk he hp p hmem => ?_, fun st s _ hn hm hb hk he hc h => ?_⟩
  · by_contra hhit
    have hg : s.guardsOver s.knifePoint st.pitch ≠ [] :=
      List.ne_nil_of_mem (List.mem_filter.mpr ⟨hmem, by simpa using hhit⟩)
    by_cases hd : s.stepDue = true
    · obtain ⟨target, held, hexec, _⟩ := exec_stepStart_aborts hn hd (.inr ⟨hl, hg⟩)
      obtain ⟨_, _, _, hphase, _⟩ := abortPanel_settled (u := s.aimed target held) hk
      rw [hexec] at he
      exact hp (Host.Outcome.next.inj he ▸ hphase)
    · rw [exec_stepStart_waits (.inr hd)] at he
      exact hp (Host.Outcome.next.inj he ▸ hk)
  · have hd : s.stepDue = true := (stepDue_iff s).mpr ⟨hm, hb, ⟨hk, he⟩, hc⟩
    obtain ⟨target, held, hexec, hclosing, _⟩ := exec_stepStart_aborts hn hd h
    obtain ⟨hdec, hbegun, hcur, hphase, htag, hweb, hplan, _⟩ := abortPanel_settled (u := s.aimed target held) hk
    obtain ⟨hstate, haborts, hnumber⟩ := hplan.counts
    refine ⟨_, hexec, ?_⟩
    generalize (s.aimed target held).abortPanel.settle = t at hdec hbegun hcur hphase htag hweb hplan hstate haborts hnumber ⊢
    refine ⟨hstate, haborts, hnumber, hdec, hphase, (congrArg Web.sent hweb :), htag, hbegun, hcur, (congrArg Web.i hweb :),
      (congrArg Web.o hweb :), fun hc hnone => ?_⟩
    obtain ⟨_, rfl⟩ := hclosing hc
    rw [hnone] at hplan
    rw [hplan.of_none.1]

end Sys2Proof.Machine
end

section
namespace Sys2Proof.Machine

/-! # The panel decision -/

theorem decisionDue_iff (s : State) :
    s.decisionDue = true ↔ s.leader.state = .pending ∧ s.knife.phase = .idle ∧ 0 < s.rate.effective := by
  simp [State.decisionDue, State.runCanBegin]

theorem exec_panelDecision_waits {s : State} (h : s.leader.state ≠ .pending ∨ s.knife.phase ≠ .idle ∨ s.rate.effective = 0) :
    exec .panelDecision s = .next s := by
  refine if_neg fun c => ?_
  obtain ⟨hl, hk, he⟩ := (decisionDue_iff s).mp c
  rcases h with h | h | h
  · exact h hl
  · exact h hk
  · omega

/-- The decision that starts the panel, and the one that bridges past the farthest guard end (R50). -/
theorem exec_panelDecision {s : State} (hl : s.leader.state = .pending) (hk : s.knife.phase = .idle) (he : 0 < s.rate.effective) :
    (s.guardsOver s.knifePoint s.pat.p = [] → exec .panelDecision s = .next s.startPanel.settle)
      ∧ ∀ p ps, s.guardsOver s.knifePoint s.pat.p = p :: ps →
          exec .panelDecision s = .next (s.setTarget (s.pastGuard (farthest p ps))).enterBridge.settle := by
  have hexec : exec .panelDecision s = .next s.decidePanel.settle := if_pos ((decisionDue_iff s).mpr ⟨hl, hk, he⟩)
  rw [hexec, State.decidePanel]
  refine ⟨fun h => by rw [h], fun p ps h => by rw [h]; rfl⟩

/-- The planner after a target was set and its bridge asked for (R52). -/
theorem enterBridge_planner (s : State) :
    if atOrBeyond s.knifePoint s.leader.target = true then
      s.enterBridge.leader = { s.leader with state := .pending, target := 0, targetSet := false } ∧ s.enterBridge.cad.mode = .stepping
    else s.enterBridge.leader = { s.leader with state := .bridge } ∧ s.enterBridge.cad.mode = .continuous
      ∧ s.enterBridge.cad.pn = s.pat.p ∧ s.enterBridge.cad.begun = false := by
  split
  · rename_i h
    rw [enterBridge_empty h]
    exact ⟨rfl, rfl⟩
  · rename_i h
    rw [enterBridge_ahead h]
    exact ⟨rfl, rfl, rfl, rfl⟩

theorem enterBridge_still (s : State) :
    s.enterBridge.still = { s.still with leader := s.enterBridge.leader, cad := s.enterBridge.cad } := by
  unfold State.enterBridge
  split <;> rfl

/-- The station with its panel's start recorded, before the PANEL mark (R50). -/
def State.panelPlaced (s : State) : State := { s with leader.start := s.knifePoint, leader.outlet := s.web.o }

/-- The start of a panel, before the settling: the PANEL mark counted, the decoder rewound, the stepping run begun (R50). -/
theorem startPanel_fields (s : State) :
    s.startPanel.calm = (s.panelPlaced.announceOwn (.panel s.panelNumber) s.web.o).calm
      ∧ s.startPanel.leader =
          { s.leader with state := .panel, start := s.knifePoint, outlet := s.web.o, target := 0, targetSet := false }
      ∧ s.startPanel.dec = {} ∧ s.startPanel.cad = { s.cad with begun := true, carry := 0, cur := none } := by
  have hv := announceOwn_still s.panelPlaced (.panel s.panelNumber) s.web.o
  have he : s.startPanel = State.beginStepping
      { (s.panelPlaced.announceOwn (.panel s.panelNumber) s.web.o).rewind with
        leader := { (s.panelPlaced.announceOwn (.panel s.panelNumber) s.web.o).leader with
          state := .panel, target := 0, targetSet := false } } := rfl
  rw [he]
  generalize s.panelPlaced.announceOwn (.panel s.panelNumber) s.web.o = v at hv ⊢
  have hleader : v.leader = s.panelPlaced.leader := congrArg Still.leader hv
  have hcad : v.cad = s.cad := congrArg Still.cad hv
  refine ⟨rfl, ?_, rfl, ?_⟩
  · show { v.leader with state := .panel, target := 0, targetSet := false } = _
    rw [hleader]
    rfl
  · show { v.cad with begun := true, carry := 0, cur := none } = _
    rw [hcad]

/-- The start of a panel once the step has settled (R50, R88, log 39). -/
theorem startPanel_settled {s : State} (hk : s.knife.phase = .idle) :
    s.startPanel.settle.leader =
        { s.leader with state := .panel, start := s.knifePoint, outlet := s.web.o, target := 0, targetSet := false }
      ∧ s.startPanel.settle.dec = {} ∧ s.startPanel.settle.cad = { s.cad with begun := true, carry := 0, cur := none }
      ∧ s.startPanel.settle.bareWeb = { s.bareWeb with sent := s.web.sent + 1 }
      ∧ s.startPanel.settle.dwell.tag = some s.panelNumber
      ∧ (s.link.marks.length < 6 → s.ownId.val + 1 ≠ s.sets.line.n → s.port.state ≠ .silent →
          s.startPanel.settle.link.marks = s.link.marks ++
            [{ count := s.web.sent + 1, kind := 2, spare := false, origin := BitVec.ofNat 4 s.ownId.val
               position := s.web.o + toPos s.sets.feed.b, value := s.panelNumber, roll := 0 }]) := by
  obtain ⟨hcalm, hleader, hdec, hcad⟩ := startPanel_fields s
  have announced := announce_counts s.panelPlaced
    { body := .panel s.panelNumber, origin := s.ownId, pos := s.web.o + toPos s.sets.feed.b }
  have marks : s.link.marks.length < 6 → s.ownId.val + 1 ≠ s.sets.line.n → s.port.state ≠ .silent → _ := fun hm hn hs =>
    announce_marks (s := s.panelPlaced) hm hn hs
      { body := .panel s.panelNumber, origin := s.ownId, pos := s.web.o + toPos s.sets.feed.b }
  have hphase := announceOwn_pace s.panelPlaced (.panel s.panelNumber) s.web.o
  unfold State.announceOwn at hcalm hphase
  have tcalm : s.startPanel.settle.calm = _ := (settle_calm_of_idle ?_).trans hcalm
  · have tstill := settle_still s.startPanel
    generalize s.startPanel.settle = t at tcalm tstill ⊢
    generalize s.startPanel = w at tstill hleader hdec hcad
    have tlink := congrArg Calm.link tcalm
    refine ⟨(congrArg Still.leader tstill).trans hleader, (congrArg Still.dec tstill).trans hdec,
      (congrArg Still.cad tstill).trans hcad, (bareWeb_of_web (congrArg Calm.web tcalm)).trans announced.1,
      (congrArg (fun c => c.dwell.tag) tcalm).trans (congrArg Dwell.tag announced.2), fun hm hn hs => ?_⟩
    exact (congrArg (fun c => c.link.marks) tcalm).trans (marks hm hn hs)
  · exact (congrArg (fun c => c.knife.phase) hcalm).trans ((congrArg Pace.phase hphase).trans hk)

/-- A decision that bridges moves the planner and the run alone (R50, R52). -/
theorem bridge_settled {s : State} (hk : s.knife.phase = .idle) (target : Pos) :
    (s.setTarget target).enterBridge.settle.calm = s.calm
      ∧ (s.setTarget target).enterBridge.settle.leader = (s.setTarget target).enterBridge.leader
      ∧ (s.setTarget target).enterBridge.settle.cad = (s.setTarget target).enterBridge.cad
      ∧ (s.setTarget target).enterBridge.settle.still = { s.still with
          leader := (s.setTarget target).enterBridge.leader, cad := (s.setTarget target).enterBridge.cad } := by
  have hcalm : (s.setTarget target).enterBridge.calm = s.calm := (enterBridge_fields (s.setTarget target)).1
  have hstill : (s.setTarget target).enterBridge.still = { s.still with
      leader := (s.setTarget target).enterBridge.leader, cad := (s.setTarget target).enterBridge.cad } := enterBridge_still _
  generalize (s.setTarget target).enterBridge = u at hcalm hstill ⊢
  have tcalm := settle_calm_of_idle (s := u) ((congrArg (fun c => c.knife.phase) hcalm).trans hk)
  have tstill := settle_still u
  generalize u.settle = t at tcalm tstill ⊢
  exact ⟨tcalm.trans hcalm, congrArg Still.leader tstill, congrArg Still.cad tstill, tstill.trans hstill⟩

/-- Settles O32: the decision by whether a guard overlaps, and the boundary's abort with the target it goes on to. -/
theorem panelDecided : Obligations.PanelDecided := by
  refine ⟨fun s => ⟨exec_panelDecision_waits, fun _ hl hk he => ?_⟩, fun st s _ hn hm hb hk he hc h => ?_⟩
  · obtain ⟨hstart, hbridge⟩ := exec_panelDecision hl hk he
    refine ⟨fun hg => ⟨_, hstart hg, ?_⟩, fun hg => ?_⟩
    · obtain ⟨hleader, hdec, hcad, hweb, htag, hmarks⟩ := startPanel_settled hk
      generalize s.startPanel.settle = t at hleader hdec hcad hweb htag hmarks ⊢
      exact ⟨hleader, hdec, hcad, (congrArg Web.sent hweb :), htag, hmarks, (congrArg Web.i hweb :), (congrArg Web.o hweb :)⟩
    · obtain ⟨x, xs, hxs⟩ := List.exists_cons_of_ne_nil hg
      obtain ⟨hcalm, hleader, hcad, hstill⟩ := bridge_settled hk (s.pastGuard (farthest x xs))
      have hplan := enterBridge_planner (s.setTarget (s.pastGuard (farthest x xs)))
      refine ⟨_, hbridge x xs hxs, ?_⟩
      generalize (s.setTarget (s.pastGuard (farthest x xs))).enterBridge.settle = t at hcalm hleader hcad hstill ⊢
      rw [← hleader, ← hcad] at hplan hstill
      refine ⟨hcalm, hstill, fun _ _ p hp hq => ?_⟩
      rw [hxs] at hp hq
      rw [farthest_eq hp hq] at hplan
      exact hplan
  · have hd : s.stepDue = true := (stepDue_iff s).mpr ⟨hm, hb, ⟨hk, he⟩, hc⟩
    obtain ⟨target, held, hexec, hclosing, hpanel⟩ := exec_stepStart_aborts hn hd h
    obtain ⟨_, _, _, _, _, _, hplan, hmarks, houtlet⟩ := abortPanel_settled (u := s.aimed target held) hk
    have hplaced : (s.cad.cur.map fun c => c.outletStart + toPos c.yield).getD s.web.o = (s.aimed target held).boundary := by
      unfold State.boundary
      show _ = match s.cad.cur with | none => s.web.o | some c => c.outletStart + toPos c.yield
      cases s.cad.cur <;> rfl
    refine ⟨_, hexec, ?_⟩
    generalize (s.aimed target held).abortPanel.settle = t at hplan hmarks houtlet ⊢
    intro placed number after pending bridged
    have hplaced' : placed = (s.aimed target held).boundary + toPos s.sets.feed.b := by rw [← hplaced]
    rw [hplaced']
    refine ⟨hmarks, houtlet, fun hl hset => ?_, fun hl hset => ?_, fun hl _ _ p hp hq => ?_⟩
    · obtain ⟨rfl, rfl⟩ := hclosing hl
      rw [hset] at hplan
      exact hplan.of_target
    · obtain ⟨rfl, rfl⟩ := hclosing hl
      rw [hset] at hplan
      exact hplan.of_none
    · obtain ⟨rfl, htarget⟩ := hpanel hl
      rw [← htarget p hp hq]
      exact hplan.of_target

end Sys2Proof.Machine
end

section
namespace Sys2Proof.Machine

/-! # What an ADVANCE of a neighbour leaves of the panel lengths -/

/-- The sets, the peer records and the adopted panel length, which no crossing and no fault moves. -/
def State.adopted (s : State) : Sets × Vector Peer 16 × Nat := (s.sets, s.peers, s.web.pn)

theorem adopted_of_still {s t : State} (h : t.still = s.still) : t.adopted = s.adopted := by
  have e : ∀ u : State, u.adopted = (u.still.sets, u.still.peers, u.still.pn) := fun _ => rfl
  rw [e t, e s, h]

theorem spliceKnown_adopted (s : State) (p : Pos) : (s.spliceKnown p).adopted = s.adopted := by
  unfold State.spliceKnown
  split
  · rfl
  · rfl
  · rfl
  · split
    · rfl
    · split <;> rfl
  · split <;> rfl

theorem reportCrossing_adopted (s : State) (m : Mark) : (s.reportCrossing m).adopted = s.adopted := by
  unfold State.reportCrossing
  split
  · exact spliceKnown_adopted _ _
  · unfold State.followerPanelMark
    split <;> rfl
  · unfold State.followerAbortMark
    split <;> rfl
  · rfl

theorem crossOne_adopted (s : State) (e : BayEntry) : (s.crossOne e).1.adopted = s.adopted := by
  have hr := reportCrossing_adopted s e.mark
  unfold State.crossOne
  split
  · rfl
  · simp only
    split
    · exact (adopted_of_still (announceCrossed_still _ _ _)).trans hr
    · exact hr

theorem crossFrom_adopted (es : List BayEntry) : ∀ (kept : List BayEntry) (s : State), (s.crossFrom kept es).adopted = s.adopted := by
  induction es with
  | nil => intro kept s; rfl
  | cons e es ih =>
    intro kept s
    have hc := crossOne_adopted s e
    unfold State.crossFrom
    split
    · exact ih _ _
    · split
      · split
        · rename_i he
          rw [he] at hc
          exact (ih _ _).trans hc
        · rename_i he
          rw [he] at hc
          exact (ih _ _).trans hc
      · rfl

theorem enterBay_adopted (s : State) (m : Mark) : (s.enterBay m).adopted = s.adopted := by
  unfold State.enterBay
  split
  · exact adopted_of_still (raiseFault_still s _)
  · simp only
    refine (crossFrom_adopted _ _ _).trans ?_
    split
    · exact spliceKnown_adopted _ _
    · rfl

theorem leaveSpanFrom_adopted (ms : List Mark) : ∀ s : State, (s.leaveSpanFrom ms).adopted = s.adopted := by
  induction ms with
  | nil => intro s; rfl
  | cons m ms ih =>
    intro s
    unfold State.leaveSpanFrom
    split
    · exact (ih _).trans (enterBay_adopted _ _)
    · rfl

theorem leaveSpan_adopted (s : State) : s.leaveSpan.adopted = s.adopted := leaveSpanFrom_adopted _ s

/-- With nothing in the span queue nothing leaves it (R84). -/
theorem leaveSpan_empty {s : State} (h : s.web.span = []) : s.leaveSpan = s := by
  rw [State.leaveSpan, h]
  show { s with web := { s.web with span := [] } } = s
  rw [← h]

theorem checkCount_adopted (s : State) (expected count : Byte) (id : StationId) :
    (s.checkCount expected count id).adopted = s.adopted := by
  unfold State.checkCount
  simp only
  split
  · exact (adopted_of_still (raiseFault_still s (.markGap expected count id)) :)
  · rfl

theorem upstreamAdvance_adopted (s : State) (id : StationId) (a : AdvancePayload) : (s.upstreamAdvance id a).adopted = s.adopted := by
  have hcount := checkCount_adopted s s.web.received a.sent id
  unfold State.upstreamAdvance
  simp only
  split
  · exact (leaveSpan_adopted _).trans hcount
  · exact hcount

/-- With the count expected and nothing in the span queue, an upstream ADVANCE moves the web alone (R78, R79, R93). -/
theorem upstreamAdvance_quiet {s : State} {a : AdvancePayload} (hcount : s.web.baseline = true → s.web.received = a.sent)
    (hspan : s.web.span = []) (id : StationId) : ∃ w : Web, s.upstreamAdvance id a = { s with web := w } ∧ w.pn = s.web.pn := by
  have hchecked : s.checkCount s.web.received a.sent id = { s with web.received := a.sent, web.baseline := true } := by
    rw [State.checkCount, if_neg fun c => c.2 (hcount c.1).symm]
  unfold State.upstreamAdvance
  rw [hchecked]
  simp only
  split
  · exact ⟨_, leaveSpan_empty hspan, rfl⟩
  · exact ⟨_, rfl, rfl⟩

theorem upstream_iff (s : State) (id : StationId) : s.upstream = some id ↔ id.val + 1 = s.ownId.val := by
  have hid := id.isLt
  have hown := s.ownId.isLt
  unfold State.upstream
  split
  · constructor
    · exact (nomatch ·)
    · omega
  · rw [Option.some.injEq, Fin.ext_iff, Fin.val_ofNat, Nat.mod_eq_of_lt (by omega)]
    omega

theorem downstream_iff (s : State) (id : StationId) :
    s.downstream = some id ↔ s.ownId.val + 1 < s.sets.line.n ∧ id.val = (s.ownId.val + 1) % 16 := by
  unfold State.downstream
  split
  · rename_i h
    rw [Option.some.injEq, Fin.ext_iff, Fin.val_ofNat]
    exact ⟨fun e => ⟨h, e.symm⟩, fun e => e.2.symm⟩
  · rename_i h
    exact ⟨(nomatch ·), fun e => absurd e.1 h⟩

/-! # The panel lengths of an ADVANCE -/

/-- The station at a valid ADVANCE, before the panel lengths (R173, log 35). -/
def State.advancedBy (s : State) (id : StationId) (a : AdvancePayload) : State :=
  let t := s.enterPeer id fun p => p.advanced (s.isNeighbour id) a
  if t.upstream = some id then t.upstreamAdvance id a else t

theorem exec_advanceFrame {s : State} {id : StationId} {a : AdvancePayload} (hm : s.link.mode = .on) (hn : id.val < s.sets.line.n)
    (ho : id ≠ s.ownId) : exec (.advanceFrame id a) s = .next ((s.advancedBy id a).advanceLengths id a).keepWarmPeers.settle :=
  congrArg Host.Outcome.next (receive_valid hm hn ho 8 fun t => t.takeAdvance id a)

theorem enterPeer_rest (s : State) (id : StationId) (f : Peer → Peer) :
    (s.enterPeer id f).port.state = s.port.state ∧ (s.enterPeer id f).web = s.web ∧ (s.enterPeer id f).pat = s.pat
      ∧ (s.enterPeer id f).sets = s.sets := by
  unfold State.enterPeer
  simp only
  split <;> exact ⟨rfl, rfl, rfl, rfl⟩

/-- The sender's record and the adopted length before the panel lengths are taken. -/
theorem advancedBy_adopted (s : State) (id : StationId) (a : AdvancePayload) :
    (s.advancedBy id a).sets = s.sets ∧ (s.advancedBy id a).web.pn = s.web.pn
      ∧ (s.advancedBy id a).peer id = ((s.peer id).heard s.now).advanced (s.isNeighbour id) a := by
  have hpeer := enterPeer_peer s id id fun p => p.advanced (s.isNeighbour id) a
  obtain ⟨_, hweb, _, hsets⟩ := enterPeer_rest s id fun p => p.advanced (s.isNeighbour id) a
  rw [if_pos rfl] at hpeer
  unfold State.advancedBy
  generalize (s.enterPeer id fun p => p.advanced (s.isNeighbour id) a) = t at hpeer hweb hsets ⊢
  simp only
  split
  · have h := upstreamAdvance_adopted t id a
    generalize t.upstreamAdvance id a = u at h ⊢
    have usets : u.sets = t.sets := congrArg Prod.fst h
    have upeers : u.peers = t.peers := congrArg (fun x => x.2.1) h
    have upn : u.web.pn = t.web.pn := congrArg (fun x => x.2.2) h
    refine ⟨usets.trans hsets, upn.trans (by rw [hweb]), ?_⟩
    rw [← hpeer]
    exact (congrArg (fun v : Vector Peer 16 => v[id]) upeers :)
  · exact ⟨hsets, by rw [hweb], hpeer⟩

/-- With the count expected and nothing in the span queue the station state and the pattern stand (R93). -/
theorem advancedBy_quiet {s : State} {a : AdvancePayload} (hcount : s.web.baseline = true → s.web.received = a.sent)
    (hspan : s.web.span = []) (id : StationId) :
    (s.advancedBy id a).port.state = s.port.state ∧ (s.advancedBy id a).pat = s.pat := by
  obtain ⟨hstate, hweb, hpat, _⟩ := enterPeer_rest s id fun p => p.advanced (s.isNeighbour id) a
  unfold State.advancedBy
  generalize (s.enterPeer id fun p => p.advanced (s.isNeighbour id) a) = t at hstate hweb hpat ⊢
  simp only
  split
  · obtain ⟨w, hw, _⟩ := upstreamAdvance_quiet (s := t) (a := a) (by rw [hweb]; exact hcount) (by rw [hweb]; exact hspan) id
    rw [hw]
    exact ⟨hstate, hpat⟩
  · exact ⟨hstate, hpat⟩

theorem keepWarmPeers_state (s : State) : s.keepWarmPeers.port.state = s.port.state := by
  unfold State.keepWarmPeers State.keepWarmExit
  split
  · split <;> rfl
  · rfl

/-- A fault of the panel lengths in JOINING or ACTIVE, once the step has settled (R96, R189). -/
theorem mismatch_settled {s : State} (h : s.port.state = .joining ∨ s.port.state = .active) (f : StationFault) :
    (s.raiseFault f).keepWarmPeers.settle.port.state = .fault ∧ (s.raiseFault f).keepWarmPeers.settle.rate.latch = true
      ∧ (s.raiseFault f).keepWarmPeers.settle.port.fault.map FaultRecord.first = some f := by
  obtain ⟨hstate, hrec, hl, _⟩ := raiseFault_entry s f h
  have kstate := keepWarmPeers_state (s.raiseFault f)
  obtain ⟨_, kcalm, _⟩ := keepWarmPeers_keeps (s.raiseFault f)
  generalize (s.raiseFault f).keepWarmPeers = u at kstate kcalm ⊢
  have urec : u.port.fault = some { first := f, further := false } := (congrArg Calm.fault kcalm).trans hrec
  have ul : u.rate.latch = true := (congrArg Calm.latch kcalm).trans hl
  obtain ⟨gs, gl, _, _, gf⟩ := settle_faulted (kstate.trans hstate) (by rw [urec]; rfl)
  exact ⟨gs, gl.trans ul, gf.trans (by rw [urec]; rfl)⟩

/-- What the panel lengths leave that the rest of the step does not move. -/
theorem lengths_settled (s : State) : s.keepWarmPeers.settle.follower = s.follower ∧ s.keepWarmPeers.settle.web.pn = s.web.pn
    ∧ s.keepWarmPeers.settle.cad = s.cad := by
  obtain ⟨hstill, _, _⟩ := keepWarmPeers_keeps s
  have h := (settle_still s.keepWarmPeers).trans hstill
  generalize s.keepWarmPeers.settle = t at h ⊢
  exact ⟨congrArg Still.follower h, congrArg Still.pn h, congrArg Still.cad h⟩

/-! ## A FOLLOWER in JOINING (R64) -/

theorem advanceLengths_follower {s : State} {id : StationId} (a : AdvancePayload) (hr : s.sets.line.role = .follower)
    (hu : s.upstream = some id) (hj : s.port.state = .joining) : s.advanceLengths id a = s.followerMatch id a := by
  rw [State.advanceLengths, hr]
  exact if_pos ⟨hu, hj⟩

/-- A FOLLOWER in JOINING is unmatched by 0, matched by its own P, and faulted by another length (R64, log 25). -/
theorem followerMatch_settled {s : State} (hj : s.port.state = .joining) (id : StationId) (a : AdvancePayload) :
    (a.outLen.toNat = 0 → (s.followerMatch id a).keepWarmPeers.settle.follower.matched = false)
      ∧ (a.outLen.toNat ≠ 0 → a.outLen.toNat = s.pat.p → (s.followerMatch id a).keepWarmPeers.settle.follower.matched = true)
      ∧ (a.outLen.toNat ≠ 0 → a.outLen.toNat ≠ s.pat.p →
          (s.followerMatch id a).keepWarmPeers.settle.port.state = .fault ∧ (s.followerMatch id a).keepWarmPeers.settle.rate.latch = true
            ∧ (s.followerMatch id a).keepWarmPeers.settle.port.fault.map FaultRecord.first =
                some (.patternMismatch s.pat.p a.outLen.toNat id)) := by
  refine ⟨fun h => ?_, fun h0 h => ?_, fun h0 h => ?_⟩
  · rw [(lengths_settled _).1, State.followerMatch, if_pos h]
  · rw [(lengths_settled _).1, State.followerMatch, if_neg h0, if_pos h]
  · rw [State.followerMatch, if_neg h0, if_neg h]
    exact mismatch_settled (.inl hj) _

/-! ## A role NONE station (R95, R96) -/

/-- A role NONE station without a length adopts the one offered; with one it keeps it, and a neighbour's that differs is a fault (R95,
R96). -/
theorem noneLengths_cases (s : State) (id : StationId) (a : AdvancePayload) :
    (s.web.pn = 0 → s.noneLengths id a = { s with web.pn := s.offeredLength, cad.pn := s.offeredLength })
      ∧ (s.web.pn ≠ 0 → (s.noneLengths id a).web.pn = s.web.pn)
      ∧ (s.web.pn ≠ 0 → s.facingLength id a ≠ 0 → s.facingLength id a ≠ s.web.pn →
          s.noneLengths id a = s.raiseFault (.patternMismatch s.web.pn (s.facingLength id a) id)) := by
  unfold State.noneLengths
  refine ⟨fun h => if_pos h, fun h => ?_, fun h h0 hd => ?_⟩
  · rw [if_neg h]
    split
    · rw [(raiseFault_web s _).1]
    · rfl
  · rw [if_neg h, if_pos ⟨h0, hd⟩]

/-- The length offered by the upstream neighbour where it publishes one (R95). -/
theorem offeredLength_upstream {s : State} {id : StationId} (hu : s.upstream = some id) (h : (s.peer id).outLen ≠ 0) :
    s.offeredLength = (s.peer id).outLen := by
  rw [State.offeredLength, hu]
  exact if_pos h

/-- The length offered at id 0, by the downstream neighbour (R95). -/
theorem offeredLength_downstream {s : State} {id : StationId} (hu : s.upstream = none) (hd : s.downstream = some id) :
    s.offeredLength = (s.peer id).inLen := by
  rw [State.offeredLength, hu, hd]
  rfl

theorem advanceLengths_none {s : State} (id : StationId) (a : AdvancePayload) (hr : s.sets.line.role = .none) :
    s.advanceLengths id a = if s.isNeighbour id then s.noneLengths id a else s := by
  rw [State.advanceLengths, hr]

theorem advanceLengths_none_neighbour {s : State} {id : StationId} (a : AdvancePayload) (hr : s.sets.line.role = .none)
    (h : s.upstream = some id ∨ s.downstream = some id) : s.advanceLengths id a = s.noneLengths id a := by
  rw [advanceLengths_none id a hr, if_pos]
  rcases h with h | h <;> simp [State.isNeighbour, h]

/-- A role NONE station with a length keeps it, whoever publishes (R96). -/
theorem advanceLengths_none_keeps {s : State} (id : StationId) (a : AdvancePayload) (hr : s.sets.line.role = .none) (h : s.web.pn ≠ 0) :
    (s.advanceLengths id a).web.pn = s.web.pn := by
  rw [advanceLengths_none id a hr]
  split
  · exact (noneLengths_cases s id a).2.1 h
  · rfl

/-- Settles O56: the lengths by the station's role, on the station that the count and the rest test have left. -/
theorem panelLengthsMatch : Obligations.PanelLengthsMatch := by
  intro id a s hm hn ho hcount
  refine ⟨_, exec_advanceFrame hm hn ho, ?_⟩
  obtain ⟨hsets, hpn, hpeer⟩ := advancedBy_adopted s id a
  have hquiet : s.web.span = [] → _ := fun h => advancedBy_quiet (a := a) hcount h id
  have hup : (s.advancedBy id a).upstream = some id ↔ id.val + 1 = s.ownId.val := by
    rw [upstream_iff, State.ownId, hsets, ← State.ownId]
  have hdown : (s.advancedBy id a).downstream = some id ↔ s.ownId.val + 1 < s.sets.line.n ∧ id.val = (s.ownId.val + 1) % 16 := by
    rw [downstream_iff, State.ownId, hsets, ← State.ownId]
  have hbeside : id.val + 1 = s.ownId.val ∨ s.ownId.val = 0 ∧ id.val = 1 → s.isNeighbour id = true := fun h => by
    rw [State.isNeighbour]
    rcases h with h | ⟨h0, h1⟩
    · simp [(upstream_iff s id).mpr h]
    · simp [(downstream_iff s id).mpr ⟨by omega, by omega⟩]
  generalize s.advancedBy id a = u at hsets hpn hpeer hquiet hup hdown ⊢
  refine ⟨fun hr hj hid hspan => ?_, fun hr => ?_⟩
  · obtain ⟨hstate, hpat⟩ := hquiet hspan
    rw [advanceLengths_follower a (by rw [hsets]; exact hr) (hup.mpr hid) (hstate.trans hj), ← hpat]
    exact followerMatch_settled (hstate.trans hj) id a
  · have hrole : u.sets.line.role = .none := by rw [hsets]; exact hr
    refine ⟨fun hid h0 hlen => ?_, fun hown hid h0 => ?_, fun h0 => ?_, fun hid h0 hlen hdiff hspan hst => ?_⟩
    · have hout : (u.peer id).outLen = a.outLen.toNat := by
        rw [hpeer, hbeside (.inl hid)]
        rfl
      obtain ⟨_, tpn, tcad⟩ := lengths_settled (u.advanceLengths id a)
      rw [tpn, tcad, advanceLengths_none_neighbour a hrole (.inl (hup.mpr hid)), (noneLengths_cases u id a).1 (hpn.trans h0),
        offeredLength_upstream (hup.mpr hid) (by rw [hout]; exact fun c => hlen (BitVec.eq_of_toNat_eq c)), hout]
      exact ⟨rfl, rfl⟩
    · have hin : (u.peer id).inLen = a.inLen.toNat := by
        rw [hpeer, hbeside (.inr ⟨hown, hid⟩)]
        rfl
      have hd : u.downstream = some id := hdown.mpr ⟨by omega, by omega⟩
      have hu : u.upstream = none := by rw [State.upstream, State.ownId, hsets, ← State.ownId, if_pos hown]
      obtain ⟨_, tpn, tcad⟩ := lengths_settled (u.advanceLengths id a)
      rw [tpn, tcad, advanceLengths_none_neighbour a hrole (.inr hd), (noneLengths_cases u id a).1 (hpn.trans h0),
        offeredLength_downstream hu hd, hin]
      exact ⟨rfl, rfl⟩
    · rw [(lengths_settled _).2.1, advanceLengths_none_keeps id a hrole (by rw [hpn]; exact h0), hpn]
    · obtain ⟨hstate, _⟩ := hquiet hspan
      have hfacing : u.facingLength id a = a.outLen.toNat := if_pos (hup.mpr hid)
      rw [advanceLengths_none_neighbour a hrole (.inl (hup.mpr hid)), (noneLengths_cases u id a).2.2 (by rw [hpn]; exact h0)
        (by rw [hfacing]; exact fun c => hlen (BitVec.eq_of_toNat_eq c)) (by rw [hfacing, hpn]; exact hdiff), hfacing, hpn]
      exact mismatch_settled (by rw [hstate]; exact hst) _

end Sys2Proof.Machine
end

section
namespace Sys2Proof.Machine

/-! # The end of PRESS with a verdict due -/

/-- A station without a stand at the end of PRESS, with a closed panel in its verdict list whose end O has reached. -/
def State.pressedVerdictDue : State :=
  { knife := { phase := .press }
    stand := { verdicts := [{ number := 1, start := 0, stop := 0, spindle := none, roll := 0, reasons := {} }] } }

/-- The settling of that end of PRESS gives the verdict, also without a rewind, and logs it (R153, R154, log 5). -/
theorem pressedVerdictDue_logs : State.pressedVerdictDue.pressEnd.settle.stand.log =
    [{ number := 1, roll := 0, reject := false, reasons := {}, length := 0 }] := by decide

/-- Refutes O39: its second part keeps the panel log of every state without a rewind and does not ask for an empty verdict list. The state
`pressedVerdictDue` (the knife in PRESS, no marks, no zones, no stand, one closed panel that is due) meets its hypotheses, and the settling of
PRESS_END logs that panel. -/
theorem not_knifePhases : ¬ Obligations.KnifePhases := by
  rintro ⟨_, keepsLog, _⟩
  obtain ⟨t, hexec, _, _, hlog⟩ := keepsLog [] [] State.pressedVerdictDue rfl rfl rfl (by decide) rfl (by simp) (by simp)
  have ht : State.pressedVerdictDue.pressEnd.settle = t := Host.Outcome.next.inj hexec
  rw [← ht, pressedVerdictDue_logs] at hlog
  exact List.cons_ne_nil _ _ hlog

end Sys2Proof.Machine
end

section
namespace Sys2Proof.Machine

/-! # A pulse where nothing else is due -/

/-- At a station without a stand a nip pulse moves I and the rest timer alone (R76, R78). -/
theorem nipPulse_plain {s : State} (h : s.sets.line.standKind = .none) : s.nipPulse =
    { s with web.i := s.web.i + 1, web.restDue := if s.ownId.val = 0 then none else some (s.now + 200000) } := by
  have consume : ∀ t : State, t.sets.line.standKind = .none → t.consume = t := fun t ht => by rw [State.consume, ht]
  exact consume _ h

/-- At a station without a rewind O advances and nothing else (R45, R147). -/
theorem advanceOutlet_plain {s : State} (h : s.sets.line.standKind ≠ .rewind) (n : Nat) :
    s.advanceOutlet n = { s with web.o := s.web.o + toPos n } := by
  unfold State.advanceOutlet State.wind
  split
  · contradiction
  · rfl

/-- At a station without a rewind an empty outlet list has nothing to test (R90, R150). -/
theorem account_plain {s : State} (h : s.sets.line.standKind ≠ .rewind) (he : s.web.outlet = []) : s.account = s := by
  have hcut : s.maximumCut = none := if_pos h
  rw [State.account, hcut]
  show (s.leaveFrom s.web.o s.web.outlet).endPanel s.web.o = s
  rw [he, State.endPanel, if_neg (show ¬(State.leaveFrom s s.web.o []).sets.line.standKind = .rewind from h)]
  show { s with web := { s.web with outlet := [] } } = s
  rw [← he]

/-- With nothing in the bay queue nothing crosses (R85). -/
theorem crossings_empty {s : State} (h : s.web.bay = []) : s.crossings = s := by
  rw [State.crossings, h]
  show { s with web := { s.web with bay := [] } } = s
  rw [← h]

theorem deadlineTest_none {s : State} (h : s.reg.expect = none) : s.deadlineTest = s := by rw [State.deadlineTest, h]

/-- A position less than half the range ahead of O is not reached (00_scope, Position arithmetic). -/
theorem atOrBeyond_ahead (o : Pos) {b : Nat} (h0 : 0 < b) (h : b < 2147483648) : atOrBeyond o (o + toPos b) = false := by
  have hb : (toPos b).toNat = b := Nat.mod_eq_of_lt (by omega)
  rw [atOrBeyond, decide_eq_false_iff_not]
  bv_omega

theorem atOrBeyond_self (o : Pos) : atOrBeyond o o = true := by simp [atOrBeyond]

/-! ## One mark at the knife line -/

/-- A crossing that is reported moves the planners, the decoder and the run alone (the table of R85). -/
theorem reportCrossing_eq (s : State) (m : Mark) : s.reportCrossing m = { s with
    leader := (s.reportCrossing m).leader, follower := (s.reportCrossing m).follower, dec := (s.reportCrossing m).dec
    cad := (s.reportCrossing m).cad } := by
  have known : ∀ (t : State) (p : Pos), t.spliceKnown p = { t with leader := (t.spliceKnown p).leader } := fun t p => by
    unfold State.spliceKnown
    split
    · rfl
    · rfl
    · rfl
    · split
      · rfl
      · split <;> rfl
    · split <;> rfl
  unfold State.reportCrossing
  split
  · rw [known]
  · unfold State.followerPanelMark
    split <;> rfl
  · unfold State.followerAbortMark
    split <;> rfl
  · rfl

/-- The one mark of the bay queue that has reached the knife line crosses, where nothing else is due (R84, R85). -/
theorem nipEffects_crosses {s t : State} {m : Mark} {kept : Option BayEntry} (he : s.reg.expect = none)
    (hb : s.web.bay = [{ mark := m, awaiting := false }]) (hm : m.pos + toPos s.sets.feed.a = s.web.i)
    (hc : s.crossOne { mark := m, awaiting := false } = (t, kept)) (hs : t.web.span = []) :
    s.nipEffects = { t with web.bay := kept.toList } := by
  have hcross : s.crossings = { t with web.bay := kept.toList } := by
    rw [State.crossings, hb, State.crossFrom, if_neg Bool.false_ne_true, hm, if_pos (atOrBeyond_self _), hc]
    cases kept <;> rfl
  rw [State.nipEffects, deadlineTest_none he, hcross]
  exact leaveSpan_empty hs

/-- A PANEL or ABORT mark at a LEADER is discarded (R85). -/
theorem crossOne_discarded {s : State} {e : BayEntry} (h : discardedAtLeader s.sets.line.role e.mark.body = true) :
    s.crossOne e = ({ s with web.discarded := satInc s.web.discarded }, none) := if_pos h

/-- A mark at the knife line, on the current segment, is announced where the segment is FLOW, and awaits the credit inside a FOLD that has
none (R86, R87). -/
theorem crossOne_kept {s : State} {e : BayEntry} (h : discardedAtLeader s.sets.line.role e.mark.body = false)
    (hp : s.knifePoint = e.mark.pos) (hseg : atOrBeyond e.mark.pos s.web.seg.start = true) :
    (s.web.seg.kind = .flow → s.crossOne e = ((s.reportCrossing e.mark).announceCrossed e.mark s.web.o, none))
      ∧ ((∃ w, s.web.seg.kind = .fold w false) → s.crossOne e = (s.reportCrossing e.mark, some { e with awaiting := true })) := by
  have hr := reportCrossing_eq s e.mark
  rw [State.crossOne, if_neg (by rw [h]; decide)]
  generalize s.reportCrossing e.mark = t at hr ⊢
  have hweb : t.web = s.web := by rw [hr]
  have hpoint : t.knifePoint = e.mark.pos := by rw [← hp, hr]; rfl
  refine ⟨fun hk => ?_, fun ⟨w, hk⟩ => ?_⟩
  · have hc : t.web.seg.convert t.knifePoint t.web.o e.mark.pos = some s.web.o := by
      rw [hpoint, hweb, Segment.convert, if_pos hseg, hk]
      simp
    simp only [hc]
  · have hc : t.web.seg.convert t.knifePoint t.web.o e.mark.pos = none := by
      rw [hpoint, hweb, Segment.convert, if_pos hseg, hk]
    simp only [hc]

/-- A mark that crosses in a FLOW segment into an empty outlet list, with a MARK slot free: announced b after the outlet position at the
knife, and out of the bay queue (R85, R86, R88). -/
theorem nipEffects_announces {s : State} {m : Mark} (he : s.reg.expect = none) (hb : s.web.bay = [{ mark := m, awaiting := false }])
    (hs : s.web.span = []) (hm : m.pos + toPos s.sets.feed.a = s.web.i) (hseg : atOrBeyond m.pos s.web.seg.start = true)
    (hd : discardedAtLeader s.sets.line.role m.body = false) (hk : s.web.seg.kind = .flow) (hmarks : s.link.marks.length < 6)
    (ho : s.web.outlet = []) (h0 : 0 < s.sets.feed.b) (h1 : s.sets.feed.b < 2147483648) :
    s.nipEffects.knife = s.knife ∧ s.nipEffects.rate = s.rate ∧ s.nipEffects.web.bay = [] ∧ s.nipEffects.web.sent = s.web.sent + 1
      ∧ s.nipEffects.web.outlet = [{ m with pos := s.web.o + toPos s.sets.feed.b }]
      ∧ (s.ownId.val + 1 ≠ s.sets.line.n → s.port.state ≠ .silent →
          s.nipEffects.link.marks = s.link.marks ++
            [Mark.payload { m with pos := s.web.o + toPos s.sets.feed.b } (s.web.sent + 1)])
      ∧ s.nipEffects.follower = (s.reportCrossing m).follower ∧ s.nipEffects.dec = (s.reportCrossing m).dec
      ∧ s.nipEffects.cad = (s.reportCrossing m).cad := by
  have hpoint : s.knifePoint = m.pos := by rw [State.knifePoint, ← hm]; simp
  have hr := reportCrossing_eq s m
  have hspan : ((s.reportCrossing m).announceCrossed m s.web.o).web.span = [] := by
    have h := announceCrossed_still (s.reportCrossing m) m s.web.o
    have hspan : (s.reportCrossing m).web.span = [] := by rw [hr]; exact hs
    exact (congrArg Still.span h).trans hspan
  have hcross := (crossOne_kept (e := { mark := m, awaiting := false }) hd hpoint hseg).1 hk
  rw [nipEffects_crosses he hb hm hcross hspan]
  generalize s.reportCrossing m = t at hr ⊢
  have tweb : t.web = s.web := by rw [hr]
  have tlink : t.link = s.link := by rw [hr]
  have tsets : t.sets = s.sets := by rw [hr]
  have tknife : t.knife = s.knife := by rw [hr]
  have trate : t.rate = s.rate := by rw [hr]
  have tport : t.port = s.port := by rw [hr]
  unfold State.announceCrossed
  rw [tsets]
  obtain ⟨aknife, arate, amarks⟩ := announce_room (s := t) (m := { m with pos := s.web.o + toPos s.sets.feed.b })
    (by rw [tlink]; exact hmarks) (by rw [tweb, ho]; decide)
  have aoutlet := announce_alone (s := t) (m := { m with pos := s.web.o + toPos s.sets.feed.b }) (by rw [tweb]; exact ho)
    (by rw [tweb]; exact atOrBeyond_ahead _ h0 h1)
  obtain ⟨aweb, _⟩ := announce_counts t { m with pos := s.web.o + toPos s.sets.feed.b }
  have astill := announce_still t { m with pos := s.web.o + toPos s.sets.feed.b }
  rw [State.ownId, tsets, tport, tlink, tweb, ← State.ownId] at amarks
  generalize t.announce _ = v at aknife arate amarks aoutlet aweb astill ⊢
  have vsent : v.web.sent = s.web.sent + 1 := by rw [← tweb]; exact (congrArg Web.sent aweb :)
  exact ⟨aknife.trans tknife, arate.trans trate, rfl, vsent, aoutlet, amarks, congrArg Still.follower astill, congrArg Still.dec astill,
    congrArg Still.cad astill⟩

/-- A mark that reaches the knife line inside a FOLD not yet credited stays to await the credit (R87). -/
theorem nipEffects_awaits {s : State} {m : Mark} (he : s.reg.expect = none) (hb : s.web.bay = [{ mark := m, awaiting := false }])
    (hs : s.web.span = []) (hm : m.pos + toPos s.sets.feed.a = s.web.i) (hseg : atOrBeyond m.pos s.web.seg.start = true)
    (hd : discardedAtLeader s.sets.line.role m.body = false) (hk : ∃ w, s.web.seg.kind = .fold w false) :
    s.nipEffects = { s.reportCrossing m with web.bay := [{ mark := m, awaiting := true }] } := by
  have hpoint : s.knifePoint = m.pos := by rw [State.knifePoint, ← hm]; simp
  have hspan : (s.reportCrossing m).web.span = [] := by rw [reportCrossing_eq s m]; exact hs
  exact nipEffects_crosses he hb hm ((crossOne_kept (e := { mark := m, awaiting := false }) hd hpoint hseg).2 hk) hspan

/-- A mark that a LEADER discards leaves the bay queue and nothing else (R85). -/
theorem nipEffects_discards {s : State} {m : Mark} (he : s.reg.expect = none) (hb : s.web.bay = [{ mark := m, awaiting := false }])
    (hs : s.web.span = []) (hm : m.pos + toPos s.sets.feed.a = s.web.i) (hd : discardedAtLeader s.sets.line.role m.body = true) :
    s.nipEffects = { s with web.discarded := satInc s.web.discarded, web.bay := [] } :=
  nipEffects_crosses he hb hm (crossOne_discarded (e := { mark := m, awaiting := false }) hd) hs

/-! ## What a crossing that is reported does to the planners (R60 to R63, R55) -/

theorem reportCrossing_none {s : State} (h : s.sets.line.role = .none) (m : Mark) : s.reportCrossing m = s := by
  rw [State.reportCrossing, h]

/-- A PANEL mark at a FOLLOWER opens its panel, in PANEL with an overrun counted (R61, R63, log 44). -/
theorem reportCrossing_panel {s : State} {m : Mark} {number : BitVec 16} (h : s.sets.line.role = .follower) (hm : m.body = .panel number) :
    (s.follower.state = .waiting →
        (s.reportCrossing m).follower = { s.follower with state := .panel, number := number.toNat } ∧ (s.reportCrossing m).dec = {}
          ∧ (s.reportCrossing m).cad.mode = .stepping ∧ (s.reportCrossing m).cad.begun = false)
      ∧ (s.follower.state = .panel →
          (s.reportCrossing m).follower = { s.follower with number := number.toNat, overruns := satInc s.follower.overruns }
            ∧ (s.reportCrossing m).dec = {} ∧ (s.reportCrossing m).cad.mode = .stepping) := by
  have hr : s.reportCrossing m = s.followerPanelMark number := by rw [State.reportCrossing, h, hm]
  rw [hr, State.followerPanelMark]
  refine ⟨fun c => ?_, fun c => ?_⟩
  · rw [c]
    exact ⟨rfl, rfl, rfl, rfl⟩
  · rw [c]
    refine ⟨?_, rfl, rfl⟩
    show { s.follower with overruns := satInc s.follower.overruns, state := .panel, number := number.toNat } = _
    rw [← c]

/-- An ABORT mark drops a FOLLOWER in PANEL to waiting (R62). -/
theorem reportCrossing_abort {s : State} {m : Mark} {number : BitVec 16} (h : s.sets.line.role = .follower) (hm : m.body = .abort number)
    (hf : s.follower.state = .panel) : s.reportCrossing m = s.enterWaiting := by
  rw [State.reportCrossing, h, hm]
  show s.followerAbortMark = _
  rw [State.followerAbortMark, hf]

/-- A SPLICE at a LEADER's knife line leaves its guard held (R51). -/
theorem reportCrossing_splice {s : State} {m : Mark} {roll : Byte} (h : s.sets.line.role = .leader) (hm : m.body = .splice roll) :
    (s.reportCrossing m).leader.held = some m.pos := by
  have known : ∀ (t : State) (p : Pos), (t.spliceKnown p).leader.held = t.leader.held := fun t p => by
    unfold State.spliceKnown
    split
    · rfl
    · rfl
    · rfl
    · split
      · rfl
      · split <;> rfl
    · split <;> rfl
  rw [State.reportCrossing, h, hm]
  exact known _ _

end Sys2Proof.Machine
end

section
namespace Sys2Proof.Machine

/-! # A mark at the knife line at a pulse -/

theorem discardedAtLeader_other {r : Role} (h : r ≠ .leader) (body : MarkBody) : discardedAtLeader r body = false := by
  unfold discardedAtLeader
  split
  · exact absurd rfl h
  · exact absurd rfl h
  · rfl

/-- A continuous run with a pulse counted and I and O advanced, before the pulse's effects on the web (R21, R45). -/
def State.flowed (s : State) : State := { s.continuousCounted with
  web.i := s.web.i + 1, web.restDue := if s.ownId.val = 0 then none else some (s.continuousCounted.now + 200000), web.o := s.web.o + 1 }

/-- Without a stand, zones, marks in the outlet list and a planner a continuous pulse is its advance and its effects on the web (R45). -/
theorem continuousPulse_plain {s : State} (hstand : s.sets.line.standKind = .none) (hz : s.sets.box.zoneCount = 0)
    (ho : s.web.outlet = []) (hl : s.leader.state = .off) : s.continuousCounted.flowPulse bridgeBoundary = s.flowed.nipEffects := by
  have hrewind : s.sets.line.standKind ≠ .rewind := by rw [hstand]; decide
  have hbridge : bridgeBoundary s.flowed = s.flowed := if_neg fun c => by
    have hb := ((bridgeDone_iff _).mp c).1
    exact LeaderState.noConfusion (hl.symm.trans hb)
  have hadvance : s.continuousCounted.nipPulse.advanceOutlet 1 = s.flowed := by
    rw [nipPulse_plain (s := s.continuousCounted) hstand]
    refine advanceOutlet_plain ?_ 1
    exact hrewind
  rw [State.flowPulse, hadvance, State.afterAdvance, if_pos (show s.flowed.sets.box.zoneCount = 0 from hz),
    account_plain (s := s.flowed) hrewind ho, hbridge]

/-- The feed count falls in the knife alone (R43). -/
theorem feedStep_eq (s : State) (c : Cycle) : s.feedStep c = { s with knife := (s.feedStep c).knife } := by
  unfold State.feedStep
  simp only
  split <;> rfl

/-- A feed with a pulse counted and I advanced, before the pulse's effects on the web (R43). -/
def State.fed (s : State) (c : Cycle) : State := { s with
  now := max s.now s.feedPulseAt
  knife := ((s.reachTime s.feedPulseAt).feedStep c).knife
  web.i := s.web.i + 1
  web.restDue := if s.ownId.val = 0 then none else some (max s.now s.feedPulseAt + 200000) }

theorem feedPulse_plain {s : State} (h : s.sets.line.standKind = .none) (c : Cycle) : s.feedPulse c = (s.fed c).nipEffects := by
  rw [State.feedPulse, feedStep_eq, nipPulse_plain]
  · rfl
  · exact h

/-- A feed that runs has a clear latch where the knife has obeyed it (R46). -/
theorem latch_clear_of_feed {s : State} (hk : s.KnifeObeys) (hp : s.knife.phase = .feed) (hh : s.knife.halted = false) :
    s.rate.latch = false := by
  by_contra c
  exact Bool.noConfusion (hh.symm.trans ((hk (by simpa using c)).2 hp))

/-- A continuous pulse that brings the one mark of the bay queue to the knife line, once the step has settled (R85, R86, R88). -/
theorem continuousPulse_announces {s : State} {m : Mark} (hobeys : s.KnifeObeys) (hb : s.web.bay = [{ mark := m, awaiting := false }])
    (hs : s.web.span = []) (he : s.reg.expect = none) (hstand : s.sets.line.standKind = .none)
    (hm : m.pos + toPos s.sets.feed.a = s.web.i + 1) (hseg : atOrBeyond m.pos s.web.seg.start = true)
    (hmode : s.cad.mode = .continuous) (hbegun : s.cad.begun = true) (hpn : s.cad.pn ≠ 0) (heff : 0 < s.rate.effective)
    (hk : s.web.seg.kind = .flow) (hz : s.sets.box.zoneCount = 0) (ho : s.web.outlet = []) (hmarks : s.link.marks.length < 6)
    (h0 : 0 < s.sets.feed.b) (h1 : s.sets.feed.b < 2147483648) (hr : s.sets.line.role ≠ .leader) (hl : s.leader.state = .off) :
    Completes .continuousPulse s fun t =>
      t.web.bay = [] ∧ t.web.sent = s.web.sent + 1 ∧ t.web.outlet = [{ m with pos := s.web.o + 1 + toPos s.sets.feed.b }]
        ∧ (s.ownId.val + 1 ≠ s.sets.line.n → s.port.state ≠ .silent →
            t.link.marks = s.link.marks ++ [Mark.payload { m with pos := s.web.o + 1 + toPos s.sets.feed.b } (s.web.sent + 1)])
        ∧ t.follower = (s.flowed.reportCrossing m).follower ∧ t.dec = (s.flowed.reportCrossing m).dec
        ∧ t.cad = (s.flowed.reportCrossing m).cad := by
  have announced := nipEffects_announces (s := s.flowed) he hb hs hm hseg (discardedAtLeader_other hr m.body) hk hmarks ho h0 h1
  refine ⟨_, exec_continuousPulse hmode hbegun hpn heff, ?_⟩
  rw [continuousPulse_plain hstand hz ho hl]
  generalize s.flowed.nipEffects = u at announced ⊢
  obtain ⟨uknife, urate, ubay, usent, uoutlet, umarks, ufollower, udec, ucad⟩ := announced
  have uobeys : u.KnifeObeys := by
    unfold State.KnifeObeys
    rw [uknife, urate]
    exact hobeys
  have tcalm := settle_calm_of_obeys uobeys
  have tstill := settle_still u
  generalize u.settle = t at tcalm tstill ⊢
  have tweb : t.web = u.web := congrArg Calm.web tcalm
  have tlink : t.link = u.link := congrArg Calm.link tcalm
  have tfollower : t.follower = u.follower := congrArg Still.follower tstill
  have tdec : t.dec = u.dec := congrArg Still.dec tstill
  have tcad : t.cad = u.cad := congrArg Still.cad tstill
  rw [tweb, tlink, tfollower, tdec, tcad]
  exact ⟨ubay, usent, uoutlet, umarks, ufollower, udec, ucad⟩

/-- A feed pulse whose effects leave the latch clear, once the step has settled. -/
theorem feedPulse_of_clear {s : State} {c : Cycle} (hstand : s.sets.line.standKind = .none)
    (hclear : (s.fed c).nipEffects.rate.latch = false) :
    (s.feedPulse c).settle.web = (s.fed c).nipEffects.web ∧ (s.feedPulse c).settle.leader = (s.fed c).nipEffects.leader
      ∧ (s.feedPulse c).settle.follower = (s.fed c).nipEffects.follower ∧ (s.feedPulse c).settle.dec = (s.fed c).nipEffects.dec
      ∧ (s.feedPulse c).settle.cad = (s.fed c).nipEffects.cad := by
  rw [feedPulse_plain hstand]
  generalize (s.fed c).nipEffects = u at hclear ⊢
  have tcalm := settle_calm_of_obeys (clear_obeys hclear)
  have tstill := settle_still u
  generalize u.settle = t at tcalm tstill ⊢
  exact ⟨congrArg Calm.web tcalm, congrArg Still.leader tstill, congrArg Still.follower tstill, congrArg Still.dec tstill,
    congrArg Still.cad tstill⟩

/-- A feed pulse that brings the one mark of the bay queue to the knife line at a FOLLOWER: the mark awaits the credit, and the planner takes
it (R62, R63, R87). -/
theorem feedPulse_follower {s : State} {m : Mark} {c : Cycle} (hclear : s.rate.latch = false)
    (hb : s.web.bay = [{ mark := m, awaiting := false }]) (hs : s.web.span = []) (he : s.reg.expect = none)
    (hstand : s.sets.line.standKind = .none) (hm : m.pos + toPos s.sets.feed.a = s.web.i + 1)
    (hseg : atOrBeyond m.pos s.web.seg.start = true) (hk : ∃ w, s.web.seg.kind = .fold w false) (hr : s.sets.line.role = .follower) :
    let t := (s.feedPulse c).settle
    t.web.bay = [{ mark := m, awaiting := true }] ∧ t.web.sent = s.web.sent ∧ t.web.outlet = s.web.outlet
      ∧ (∀ number, m.body = .abort number → s.follower.state = .panel →
          t.follower = { s.follower with state := .waiting } ∧ t.cad.mode = .continuous ∧ t.cad.pn = s.pat.p)
      ∧ (∀ number, m.body = .panel number → s.follower.state = .panel →
          t.follower = { s.follower with number := number.toNat, overruns := satInc s.follower.overruns }
            ∧ t.dec = {} ∧ t.cad.mode = .stepping) := by
  have hrole : (s.fed c).sets.line.role ≠ .leader := fun hl => Role.noConfusion (hr.symm.trans hl)
  have hu := nipEffects_awaits (s := s.fed c) he hb hs hm hseg (discardedAtLeader_other hrole m.body) hk
  have hrep := reportCrossing_eq (s.fed c) m
  obtain ⟨tweb, _, tfollower, tdec, tcad⟩ := feedPulse_of_clear (c := c) hstand (by rw [hu, hrep]; exact hclear)
  intro t
  have rweb : ((s.fed c).reportCrossing m).web = (s.fed c).web := by rw [hrep]
  rw [show t.web = _ from tweb, show t.follower = _ from tfollower, show t.dec = _ from tdec, show t.cad = _ from tcad, hu]
  refine ⟨rfl, ?_, ?_, fun number hbody hf => ?_, fun number hbody hf => ?_⟩
  · show ((s.fed c).reportCrossing m).web.sent = _
    rw [rweb]
    rfl
  · show ((s.fed c).reportCrossing m).web.outlet = _
    rw [rweb]
    rfl
  · rw [reportCrossing_abort (s := s.fed c) hr hbody hf]
    exact ⟨rfl, rfl, rfl⟩
  · exact (reportCrossing_panel (s := s.fed c) hr hbody).2 hf

/-- A feed pulse that brings the one mark of the bay queue to the knife line at a LEADER: a PANEL or ABORT mark is discarded, a SPLICE awaits
the credit with its guard held (R51, R85, R87). -/
theorem feedPulse_leader {s : State} {m : Mark} {c : Cycle} (hclear : s.rate.latch = false)
    (hb : s.web.bay = [{ mark := m, awaiting := false }]) (hs : s.web.span = []) (he : s.reg.expect = none)
    (hstand : s.sets.line.standKind = .none) (hm : m.pos + toPos s.sets.feed.a = s.web.i + 1)
    (hseg : atOrBeyond m.pos s.web.seg.start = true) (hk : ∃ w, s.web.seg.kind = .fold w false) (hr : s.sets.line.role = .leader) :
    let t := (s.feedPulse c).settle
    t.web.sent = s.web.sent ∧ t.web.outlet = s.web.outlet
      ∧ (∀ number, m.body = .panel number ∨ m.body = .abort number →
          t.web.bay = [] ∧ t.web.discarded = satInc s.web.discarded ∧ t.leader = s.leader)
      ∧ (∀ roll, m.body = .splice roll → t.web.bay = [{ mark := m, awaiting := true }] ∧ t.leader.held = some m.pos) := by
  have hrole : (s.fed c).sets.line.role = .leader := hr
  have hrep := reportCrossing_eq (s.fed c) m
  have rweb : ((s.fed c).reportCrossing m).web = (s.fed c).web := by rw [hrep]
  intro t
  by_cases hd : discardedAtLeader (s.fed c).sets.line.role m.body = true
  · have hu := nipEffects_discards (s := s.fed c) he hb hs hm hd
    obtain ⟨tweb, tleader, _⟩ := feedPulse_of_clear (c := c) hstand (by rw [hu]; exact hclear)
    rw [show t.web = _ from tweb, show t.leader = _ from tleader, hu]
    refine ⟨rfl, rfl, fun _ _ => ⟨rfl, rfl, rfl⟩, fun roll hbody => ?_⟩
    rw [hrole, hbody] at hd
    exact Bool.noConfusion hd
  · have hu := nipEffects_awaits (s := s.fed c) he hb hs hm hseg (eq_false_of_ne_true hd) hk
    obtain ⟨tweb, tleader, _⟩ := feedPulse_of_clear (c := c) hstand (by rw [hu, hrep]; exact hclear)
    rw [show t.web = _ from tweb, show t.leader = _ from tleader, hu]
    refine ⟨?_, ?_, fun number hbody => ?_, fun roll hbody => ⟨rfl, reportCrossing_splice hrole hbody⟩⟩
    · show ((s.fed c).reportCrossing m).web.sent = _
      rw [rweb]
      rfl
    · show ((s.fed c).reportCrossing m).web.outlet = _
      rw [rweb]
      rfl
    · rw [hrole] at hd
      rcases hbody with h | h <;> rw [h] at hd <;> exact absurd rfl hd

end Sys2Proof.Machine
end

section
namespace Sys2Proof.Machine

/-! # Expectations and misses -/

theorem registration_flag (s : State) : (s.signal .registration).port.ip.getLsbD 2 = true := by
  simp [State.signal, Source.flag, Source.bit]

/-- A miss with its count and signal, before the fourth in a row raises its fault (R74). -/
def State.missed (s : State) : State :=
  State.signal { s with reg.expect := none, reg.misses := min (s.reg.misses + 1) 4 } .registration

theorem miss_eq {s : State} {e : Expectation} (h : s.reg.expect = some e) :
    s.miss = if s.reg.misses = 3 then s.missed.raiseFault (.registrationLost e.step e.x) else s.missed := by
  rw [State.miss, h]
  rfl

/-- An open expectation is missed (R74): the count, the signal, the web as it was, and a fault at the fourth miss in a row alone. -/
theorem miss_fields {s : State} {e : Expectation} (h : s.reg.expect = some e) :
    s.miss.reg = { s.reg with expect := none, misses := min (s.reg.misses + 1) 4 } ∧ s.miss.web = s.web ∧ s.miss.sets = s.sets
      ∧ s.miss.port.ip.getLsbD 2 = true
      ∧ (s.reg.misses ≠ 3 → s.miss.port.fault = s.port.fault ∧ s.miss.rate = s.rate)
      ∧ (s.reg.misses = 3 → s.port.state = .joining ∨ s.port.state = .active →
          s.miss.port.state = .fault ∧ s.miss.rate.latch = true ∧ s.miss.rate.effective = 0
            ∧ s.miss.rate.cause = some { origin := .fault, reason := 5 }
            ∧ s.miss.port.fault = some { first := .registrationLost e.step e.x, further := false }) := by
  have hflag : s.missed.port.ip.getLsbD 2 = true := registration_flag _
  rw [miss_eq h]
  by_cases h3 : s.reg.misses = 3
  · rw [if_pos h3]
    have hstill := raiseFault_still s.missed (.registrationLost e.step e.x)
    have hweb := (raiseFault_web s.missed (.registrationLost e.step e.x)).1
    have hentry := raiseFault_entry s.missed (.registrationLost e.step e.x)
    have hip := (Rises.raiseFault s.missed (.registrationLost e.step e.x)).2.2 2 hflag
    generalize s.missed.raiseFault (.registrationLost e.step e.x) = t at hstill hweb hentry hip ⊢
    refine ⟨congrArg Still.reg hstill, hweb, congrArg Still.sets hstill, hip, fun c => absurd h3 c, fun _ hst => ?_⟩
    obtain ⟨hstate, hrec, hl, hc, heff, _⟩ := hentry hst
    exact ⟨hstate, hl, heff, hc, hrec⟩
  · rw [if_neg h3]
    exact ⟨rfl, rfl, rfl, hflag, fun _ => ⟨rfl, rfl⟩, fun c => absurd c h3⟩

/-! ## A deadline that a feed pulse passes (R74) -/

/-- With nothing in the queues the effects of a pulse are the deadline's test (R70). -/
theorem nipEffects_deadline {s : State} {e : Expectation} (he : s.reg.expect = some e) (hb : s.web.bay = []) (hs : s.web.span = []) :
    s.nipEffects = if beyond s.web.i e.deadline = true then s.miss else s := by
  have hweb : s.deadlineTest.web = s.web := by
    rw [State.deadlineTest, he]
    simp only
    split
    · exact (miss_fields he).2.1
    · rfl
  rw [State.nipEffects, crossings_empty (by rw [hweb]; exact hb), leaveSpan_empty (by rw [hweb]; exact hs), State.deadlineTest, he]

/-- A feed pulse with an open expectation and empty queues, once the step has settled: the deadline not passed, and passed (R70, R74). -/
theorem feedPulse_deadline {s : State} {e : Expectation} (c : Cycle) (he : s.reg.expect = some e) (hclear : s.rate.latch = false)
    (hb : s.web.bay = []) (hs : s.web.span = []) (hstand : s.sets.line.standKind = .none) :
    (beyond (s.web.i + 1) e.deadline = false →
        (s.feedPulse c).settle.reg = s.reg ∧ (s.feedPulse c).settle.port.fault = s.port.fault)
      ∧ (beyond (s.web.i + 1) e.deadline = true →
          (s.feedPulse c).settle.reg = { s.reg with expect := none, misses := min (s.reg.misses + 1) 4 }
            ∧ (s.feedPulse c).settle.port.ip.getLsbD 2 = true
            ∧ (s.reg.misses ≠ 3 → (s.feedPulse c).settle.port.fault = s.port.fault)
            ∧ (s.reg.misses = 3 → s.port.state = .joining ∨ s.port.state = .active →
                (s.feedPulse c).settle.port.state = .fault ∧ (s.feedPulse c).settle.rate.latch = true
                  ∧ (s.feedPulse c).settle.rate.effective = 0
                  ∧ (s.feedPulse c).settle.rate.cause = some { origin := .fault, reason := 5 }
                  ∧ (s.feedPulse c).settle.port.fault.map FaultRecord.first = some (.registrationLost e.step e.x))) := by
  have hmiss := miss_fields (s := s.fed c) he
  rw [feedPulse_plain hstand, nipEffects_deadline (s := s.fed c) he hb hs]
  refine ⟨fun hd => ?_, fun hd => ?_⟩
  · rw [if_neg (show ¬beyond (s.fed c).web.i e.deadline = true from ne_true_of_eq_false hd)]
    have tcalm := settle_calm_of_obeys (clear_obeys (s := s.fed c) hclear)
    have tstill := settle_still (s.fed c)
    generalize (s.fed c).settle = t at tcalm tstill ⊢
    exact ⟨congrArg Still.reg tstill, congrArg Calm.fault tcalm⟩
  · rw [if_pos (show beyond (s.fed c).web.i e.deadline = true from hd)]
    generalize (s.fed c).miss = u at hmiss ⊢
    obtain ⟨ureg, _, _, uip, uquiet, ulost⟩ := hmiss
    have tstill := settle_still u
    have trises := Rises.settle u
    have tcalm := settle_calm_of_obeys (s := u)
    have tlost := settle_faulted (s := u)
    generalize u.settle = t at tstill trises tcalm tlost ⊢
    refine ⟨(congrArg Still.reg tstill).trans ureg, trises.2.2 2 uip, fun h3 => ?_, fun h3 hst => ?_⟩
    · obtain ⟨ufault, urate⟩ := uquiet h3
      exact (congrArg Calm.fault (tcalm (clear_obeys (by rw [urate]; exact hclear)))).trans ufault
    · obtain ⟨ustate, ul, ueff, uc, urec⟩ := ulost h3 hst
      obtain ⟨gs, gl, ge, gc, gf⟩ := tlost ustate (by rw [urec]; rfl)
      exact ⟨gs, gl.trans ul, ge.trans ueff, gc.trans uc, gf.trans (by rw [urec]; rfl)⟩

/-! ## The history tested against an expectation (R70, R71) -/

/-- A record of the history that an expected point takes: unused, with its error within the window (R70). -/
def Detection.Fits (d : Detection) (w : Nat) (x : Pos) : Prop := d.used = false ∧ -(w : Int) ≤ (d.x - x).toInt ∧ (d.x - x).toInt ≤ w

theorem fits_iff (d : Detection) (w : Nat) (x : Pos) : d.Fits w x ↔ d.used = false ∧ inWindow w (foldError d.x x) = true := by
  simp [Detection.Fits, inWindow, foldError]

theorem takeDetection_none {w : Nat} {x : Pos} {history : List Detection} (h : ∀ y ∈ history, ¬y.Fits w x) :
    takeDetection w x history = none := by
  induction history with
  | nil => rfl
  | cons d ds ih =>
    obtain ⟨hd, hds⟩ := List.forall_mem_cons.mp h
    rw [takeDetection, if_neg (fun c => hd ((fits_iff d w x).mpr c)), ih hds]
    rfl

/-- The oldest record that fits is the one taken (R70). -/
theorem takeDetection_oldest {w : Nat} {x : Pos} {older newer : List Detection} {d : Detection} (h : ∀ y ∈ older, ¬y.Fits w x)
    (hd : d.Fits w x) :
    takeDetection w x (older ++ d :: newer) = some ((d.x - x).toInt, older ++ { d with used := true } :: newer) := by
  induction older with
  | nil => exact if_pos ((fits_iff d w x).mp hd)
  | cons y ys ih =>
    obtain ⟨hy, hys⟩ := List.forall_mem_cons.mp h
    rw [List.cons_append, takeDetection, if_neg (fun c => hy ((fits_iff y w x).mpr c)), ih hys]
    rfl

/-! ## An expectation opens at a step start (R70, R74) -/

/-- The station with an expectation of a step, before it is tested against the history. -/
def State.expecting (s : State) (step : Nat) : State :=
  { s with
    reg.expect := some
      { step := step, x := s.reg.nominal, deadline := s.reg.nominal + toPos (s.sets.feed.aS + s.sets.knife.window) } }

/-- A new expectation misses the one that stands, and is then tested against the history and its deadline (R70, R74). -/
theorem openExpectation_cases (s : State) (step : Nat) :
    (∀ e history, takeDetection s.miss.sets.knife.window s.miss.reg.nominal s.miss.reg.history = some (e, history) →
        s.openExpectation step = (s.miss.expecting step).acceptDetection e history)
      ∧ (takeDetection s.miss.sets.knife.window s.miss.reg.nominal s.miss.reg.history = none →
        s.openExpectation step = (s.miss.expecting step).deadlineTest) := by
  unfold State.openExpectation
  simp only
  exact ⟨fun e history h => by rw [h]; rfl, fun h => by rw [h]; rfl⟩

theorem miss_none {s : State} (h : s.reg.expect = none) : s.miss = s := by rw [State.miss, h]

/-- What an accepted detection makes of the registration unit (R71, R74). -/
theorem acceptDetection_fields (s : State) (e : Int) (history : List Detection) :
    (s.acceptDetection e history).reg = { s.reg with
        history := history, expect := none, c := (s.reg.c + e).fdiv 2, u := s.reg.u + ((s.reg.c + e).fdiv 2 - s.reg.c), misses := 0
        lastErr := e, accepted := satInc s.reg.accepted }
      ∧ (0 < s.reg.misses → (s.acceptDetection e history).port.ip.getLsbD 2 = true) := by
  unfold State.acceptDetection
  simp only
  split
  · exact ⟨rfl, fun _ => registration_flag _⟩
  · rename_i h
    exact ⟨rfl, fun c => absurd c h⟩

end Sys2Proof.Machine
end

section
namespace Sys2Proof.Machine

/-! # A registered FOLD at a step start -/

/-- The deadline of an expectation at the nominal point (R70). -/
def State.deadlineNow (s : State) : Pos := s.reg.nominal + toPos (s.sets.feed.aS + s.sets.knife.window)

/-- A miss leaves what a new expectation is formed of. -/
theorem miss_keeps (s : State) : s.miss.web = s.web ∧ s.miss.sets = s.sets ∧ s.miss.reg.nominal = s.reg.nominal
    ∧ s.miss.reg.history = s.reg.history ∧ s.miss.reg.c = s.reg.c := by
  cases he : s.reg.expect with
  | none => rw [miss_none he]; exact ⟨rfl, rfl, rfl, rfl, rfl⟩
  | some e =>
    obtain ⟨hreg, hweb, hsets, _⟩ := miss_fields he
    rw [hreg]
    exact ⟨hweb, hsets, rfl, rfl, rfl⟩

/-- An expectation for which the history holds a record that fits takes the oldest such at once (R70, R71). -/
theorem openExpectation_accepts {s : State} {older newer : List Detection} {d : Detection} (step : Nat) (he : s.reg.expect = none)
    (hh : s.reg.history = older ++ d :: newer) (ho : ∀ y ∈ older, ¬y.Fits s.sets.knife.window s.reg.nominal)
    (hd : d.Fits s.sets.knife.window s.reg.nominal) :
    s.openExpectation step =
      (s.expecting step).acceptDetection (d.x - s.reg.nominal).toInt (older ++ { d with used := true } :: newer) := by
  have h := (openExpectation_cases s step).1 (d.x - s.reg.nominal).toInt (older ++ { d with used := true } :: newer)
  rw [miss_none he, hh] at h
  exact h (takeDetection_oldest ho hd)

/-- Without a record that fits the expectation opens while I is not past its deadline (R70). -/
theorem openExpectation_opens {s : State} (step : Nat) (hh : ∀ y ∈ s.reg.history, ¬y.Fits s.sets.knife.window s.reg.nominal)
    (hd : beyond s.web.i s.deadlineNow = false) : s.openExpectation step = s.miss.expecting step := by
  obtain ⟨hweb, hsets, hnominal, hhistory, _⟩ := miss_keeps s
  rw [(openExpectation_cases s step).2 (takeDetection_none (by rw [hhistory, hsets, hnominal]; exact hh)), State.deadlineTest]
  refine if_neg ?_
  show ¬beyond s.miss.web.i (s.miss.reg.nominal + toPos (s.miss.sets.feed.aS + s.miss.sets.knife.window)) = true
  rw [hweb, hnominal, hsets]
  exact ne_true_of_eq_false hd

/-- Without a record that fits an expectation whose deadline I is past is missed at once (R70, R74). -/
theorem openExpectation_misses {s : State} (step : Nat) (he : s.reg.expect = none)
    (hh : ∀ y ∈ s.reg.history, ¬y.Fits s.sets.knife.window s.reg.nominal) (hd : beyond s.web.i s.deadlineNow = true) :
    s.openExpectation step = (s.expecting step).miss := by
  have h := (openExpectation_cases s step).2
  rw [miss_none he] at h
  rw [h (takeDetection_none hh), State.deadlineTest]
  exact if_pos hd

theorem openExpectation_sets (s : State) (step : Nat) : (s.openExpectation step).sets = s.sets := by
  have accept : ∀ (t : State) (e : Int) (history : List Detection), (t.acceptDetection e history).sets = t.sets := fun t e history => by
    unfold State.acceptDetection
    simp only
    split <;> rfl
  have hmiss : s.miss.sets = s.sets := (miss_keeps s).2.1
  obtain ⟨htake, hnone⟩ := openExpectation_cases s step
  cases h : takeDetection s.miss.sets.knife.window s.miss.reg.nominal s.miss.reg.history with
  | none =>
    rw [hnone h]
    exact (congrArg Pace.sets (deadlineTest_pace (s.miss.expecting step))).trans hmiss
  | some taken =>
    rw [htake taken.1 taken.2 h, accept]
    exact hmiss

/-- The station at a step start before its expectation opens: the panel's start handed over and the cadence of the step (R61, R69). -/
def State.stepOpened (s : State) (st : Step) : State := s.openRegistration.startCadenceStep st

/-- Before the expectation opens a panel's first step sets the nominal point and U at a FOLLOWER (R69, R72). -/
theorem stepOpened_fields {s : State} (h : s.sets.line.role = .follower) (st : Step) :
    (s.stepOpened st).reg = { s.reg with
        nominal := if s.cad.cur = none then s.knifePoint else s.reg.nominal
        u := if s.cad.cur = none then s.reg.c else s.reg.u }
      ∧ (s.stepOpened st).web = s.web ∧ (s.stepOpened st).sets = s.sets ∧ (s.stepOpened st).port = s.port := by
  unfold State.stepOpened State.openRegistration
  by_cases hc : s.cad.cur = none
  · rw [if_pos ⟨h, hc⟩, if_pos hc, if_pos hc]
    exact ⟨rfl, rfl, rfl, rfl⟩
  · rw [if_neg (fun c => hc c.2), if_neg hc, if_neg hc]
    exact ⟨rfl, rfl, rfl, rfl⟩

/-- The nominal point moved on by the pitch of a step (R69). -/
def State.pitched (s : State) (st : Step) : State := { s with reg.nominal := s.reg.nominal + toPos st.pitch }

theorem registering_iff (s : State) : s.registering = true ↔ s.sets.line.role = .follower ∧ s.sets.knife.registration = true := by
  simp [State.registering]

/-- A registered FOLD opens its expectation, moves the nominal point on, and begins its cycle (R69, R70). -/
theorem takeStep_registered {s : State} {st : Step} (h : s.registering = true) (hk : st.kind ≠ .flat) (hf : st.flag = true) :
    s.takeStep st = (((s.stepOpened st).openExpectation st.number).pitched st).startFold st := by
  obtain ⟨hrole, _⟩ := (registering_iff s).mp h
  obtain ⟨_, _, hsets, _⟩ := stepOpened_fields hrole st
  have hreg : (s.stepOpened st).registering = true := by
    rw [State.registering, hsets]
    exact h
  have hrole' : (s.stepOpened st).sets.line.role = .follower := by rw [hsets]; exact hrole
  have he : s.takeStep st = ((s.stepOpened st).registerStep st).startFold st := if_neg hk
  rw [he, State.registerStep, if_pos hrole', if_pos ⟨hk, hf, hreg⟩]
  rfl

/-- Once the step has settled, a FOLD that begins under registration has its feed's correction taken out of U, keeps what was signalled, and is
halted where a fault has set the latch (R46, R73, log 32). -/
theorem startFold_settled {s : State} (h : s.registering = true) (st : Step) :
    (∃ v, (s.startFold st).settle.reg = { s.reg with u := s.reg.u - v, lastU := v })
      ∧ (∀ k, s.port.ip.getLsbD k = true → (s.startFold st).settle.port.ip.getLsbD k = true)
      ∧ ∀ f, s.port.state = .fault → s.rate.latch = true → s.rate.effective = 0 →
          s.port.fault = some { first := f, further := false } →
          (s.startFold st).settle.port.state = .fault ∧ (s.startFold st).settle.rate.latch = true
            ∧ (s.startFold st).settle.rate.effective = 0 ∧ (s.startFold st).settle.port.fault.map FaultRecord.first = some f
            ∧ (s.startFold st).settle.knife.phase = .feed ∧ (s.startFold st).settle.knife.halted = true := by
  have hfold : (∃ v, (s.startFold st).reg = { s.reg with u := s.reg.u - v, lastU := v }) ∧ (s.startFold st).port = s.port
      ∧ (s.startFold st).rate = s.rate ∧ (s.startFold st).knife.phase = .feed := by
    unfold State.startFold State.takeFeed
    rw [if_pos h]
    exact ⟨⟨_, rfl⟩, rfl, rfl, rfl⟩
  generalize s.startFold st = u at hfold ⊢
  obtain ⟨⟨v, ureg⟩, uport, urate, uphase⟩ := hfold
  have tstill := settle_still u
  have trises := Rises.settle u
  have tcalm := settle_calm (s := u) fun _ => by rw [uphase]; decide
  have tlost := settle_faulted (s := u)
  generalize u.settle = t at tstill trises tcalm tlost ⊢
  refine ⟨⟨v, (congrArg Still.reg tstill).trans ureg⟩, fun k hk => trises.2.2 k (by rw [uport]; exact hk), fun f hs hl he hf => ?_⟩
  rw [uport, urate] at tlost
  obtain ⟨gs, gl, ge, _, gf⟩ := tlost hs (by rw [hf]; rfl)
  have tknife : t.knife = { u.knife with halted := true } := by
    refine (congrArg Calm.knife tcalm).trans ?_
    show u.knife.settled u.rate.latch = _
    rw [urate, hl, Knife.settled, if_pos rfl, Knife.latched, if_pos uphase]
  rw [tknife]
  exact ⟨gs, gl.trans hl, ge.trans he, gf.trans (by rw [hf]; rfl), uphase, rfl⟩

/-- What the start of a FOLD under registration, with the settling of its step, makes of the station `o` whose expectation has opened: the
nominal point and U moved on, what was signalled kept, and where a fault has set the latch the cycle begun and halted (R73, log 32). -/
def FoldBegun (o t : State) : Prop :=
  (∃ x v, t.reg = { o.reg with nominal := x, u := o.reg.u - v, lastU := v })
    ∧ (∀ k, o.port.ip.getLsbD k = true → t.port.ip.getLsbD k = true)
    ∧ ∀ f, o.port.state = .fault → o.rate.latch = true → o.rate.effective = 0 → o.port.fault = some { first := f, further := false } →
        t.port.state = .fault ∧ t.rate.latch = true ∧ t.rate.effective = 0 ∧ t.port.fault.map FaultRecord.first = some f
          ∧ t.knife.phase = .feed ∧ t.knife.halted = true

/-- The step start of a registered FOLD at a FOLLOWER, in terms of the expectation it opens (R70, R73, R74, log 32). -/
theorem exec_stepStart_registered {s : State} {st : Step} (hn : s.dec.next = some st) (hd : s.stepDue = true)
    (h : s.registering = true) (hl : s.leader.state = .off) (hk : st.kind ≠ .flat) (hf : st.flag = true) :
    Completes .stepStart s (FoldBegun ((s.stepOpened st).openExpectation st.number)) := by
  obtain ⟨hrole, _⟩ := (registering_iff s).mp h
  have hsets : ((s.stepOpened st).openExpectation st.number).sets = s.sets :=
    (openExpectation_sets _ _).trans (stepOpened_fields hrole st).2.2.1
  have hexec := exec_stepStart hn hd
  rw [stepBoundary_takes (by rw [hl]; decide) (fun c => LeaderState.noConfusion (hl.symm.trans c)), takeStep_registered h hk hf] at hexec
  refine ⟨_, hexec, ?_⟩
  generalize (s.stepOpened st).openExpectation st.number = o at hsets ⊢
  have hreg : (o.pitched st).registering = true := by
    rw [← h, State.registering, State.registering, ← hsets]
    rfl
  have hsettled := startFold_settled hreg st
  generalize ((o.pitched st).startFold st).settle = t at hsettled ⊢
  obtain ⟨⟨v, treg⟩, hip, hlost⟩ := hsettled
  exact ⟨⟨_, v, treg⟩, hip, hlost⟩

end Sys2Proof.Machine
end

section
namespace Sys2Proof.Machine

/-! # The MISSFOLD of a STOP in TUCK -/

theorem advanceOutlet_web (s : State) (n : Nat) : (s.advanceOutlet n).web = { s.web with o := s.web.o + toPos n }
    ∧ (s.advanceOutlet n).link = s.link ∧ (s.advanceOutlet n).port = s.port ∧ (s.advanceOutlet n).sets = s.sets := by
  unfold State.advanceOutlet State.wind
  split <;> exact ⟨rfl, rfl, rfl, rfl⟩

/-- A credit without zones and with nothing in the bay queue moves O, credits the segment and tests the outlet list (R45, R77). -/
theorem creditFold_plain {s : State} (hz : s.sets.box.zoneCount = 0) (hb : s.web.bay = []) (w : Nat) :
    (s.creditFold w).bareWeb = { s.bareWeb with o := s.web.o + toPos w, seg := s.web.seg.credit }
      ∧ (s.creditFold w).link = s.link ∧ (s.creditFold w).port.state = s.port.state ∧ (s.creditFold w).sets = s.sets
      ∧ (s.web.outlet = [] → (s.creditFold w).web.outlet = []) := by
  obtain ⟨vweb, vlink, vport, vsets⟩ := advanceOutlet_web { s with web.seg := s.web.seg.credit } w
  unfold State.creditFold
  generalize State.advanceOutlet { s with web.seg := s.web.seg.credit } w = v at vweb vlink vport vsets ⊢
  have hbay : v.account.web.bay = [] := by
    have h : v.account.web.bay = v.web.bay := congrArg Steady.bay (account_steady v)
    rw [h, vweb]
    exact hb
  have hcredit : v.account.creditFrom (v.account.web.seg.outletStart + toPos w) [] v.account.web.bay = v.account := by
    rw [hbay]
    show { v.account with web := { v.account.web with bay := [] } } = v.account
    rw [← hbay]
  have haside := congrArg Prod.fst (account_unswept v)
  have hweb := account_bareWeb v
  have hlength := account_outlet v
  simp only
  rw [State.afterAdvance, if_pos (by rw [vsets]; exact hz), hcredit]
  generalize v.account = u at haside hweb hlength ⊢
  refine ⟨hweb.trans ?_, (congrArg Aside.link haside).trans vlink, (congrArg Aside.state haside).trans (congrArg Port.state vport),
    (congrArg Aside.sets haside).trans vsets, fun ho => ?_⟩
  · rw [State.bareWeb, vweb]
    rfl
  · rw [vweb] at hlength
    exact List.length_eq_zero_iff.mp (Nat.le_zero.mp (hlength.trans (by rw [show ({ s.web with
      seg := s.web.seg.credit, o := s.web.o + toPos w } : Web).outlet = [] from ho]; rfl)))

/-- Entry to ABORTING without zones and with nothing in the bay queue: the credit, and the MISSFOLD b beyond the fold's outlet start (R47,
R88). -/
theorem enterAborting_announces {s : State} {c : Cycle} (hc : s.knife.cycle = some c) (hz : s.sets.box.zoneCount = 0)
    (hb : s.web.bay = []) :
    s.enterAborting.bareWeb =
        { s.bareWeb with o := s.web.o + toPos c.w, seg := s.web.seg.credit, sent := s.web.sent + 1 }
      ∧ (s.link.marks.length < 6 → s.ownId.val + 1 ≠ s.sets.line.n → s.port.state ≠ .silent →
          s.enterAborting.link.marks = s.link.marks ++
            [{ count := s.web.sent + 1, kind := 5, spare := false, origin := BitVec.ofNat 4 s.ownId.val
               position := c.outletStart + toPos s.sets.feed.b, value := 0, roll := 0 }])
      ∧ (s.web.outlet = [] → atOrBeyond (s.web.o + toPos c.w) (c.outletStart + toPos s.sets.feed.b) = false →
          s.enterAborting.web.outlet = [{ body := .missfold, origin := s.ownId, pos := c.outletStart + toPos s.sets.feed.b }]) := by
  obtain ⟨vweb, vlink, vstate, vsets, voutlet⟩ := creditFold_plain (s := { s with
    knife.phase := .aborting, knife.due := s.now + 1000 * s.sets.knife.tRelease, knife.missed := satInc s.knife.missed }) hz hb c.w
  unfold State.enterAborting
  rw [hc]
  simp only
  generalize State.creditFold _ c.w = v at vweb vlink vstate vsets voutlet ⊢
  have vown : v.ownId = s.ownId := congrArg (fun x => x.line.id) vsets
  have vo : v.web.o = s.web.o + toPos c.w := (congrArg Web.o vweb :)
  have vsent : v.web.sent = s.web.sent := (congrArg Web.sent vweb :)
  unfold State.announceOwn
  rw [vown, vsets]
  refine ⟨?_, fun hm hn hs => ?_, fun ho hp => ?_⟩
  · rw [(announce_counts v _).1, vweb, vsent]
    rfl
  · rw [announce_marks (by rw [vlink]; exact hm) (by rw [vown, vsets]; exact hn) (by rw [vstate]; exact hs), vlink, vsent]
    rfl
  · exact announce_alone (voutlet ho) (by rw [vo]; exact hp)

/-- An accepted STOP in TUCK (R6, R47, R82, R83). -/
theorem exec_stop_tuck {s : State} {c : Cycle} (hcheck : s.pat.status ≠ .checking)
    (hst : s.port.state = .joining ∨ s.port.state = .active ∨ s.port.state = .fault) (hp : s.knife.phase = .tuck)
    (hc : s.knife.cycle = some c) (hz : s.sets.box.zoneCount = 0) (hb : s.web.bay = []) :
    Completes (.stop []) s fun t =>
      t.web.o = s.web.o + toPos c.w ∧ t.web.seg = s.web.seg.credit ∧ t.web.sent = s.web.sent + 1
        ∧ t.knife.missed = satInc s.knife.missed ∧ t.knife.phase = .aborting
        ∧ (s.link.marks.length < 6 → s.ownId.val + 1 ≠ s.sets.line.n →
            t.link.marks = s.link.marks ++
              [{ count := s.web.sent + 1, kind := 5, spare := false, origin := BitVec.ofNat 4 s.ownId.val
                 position := c.outletStart + toPos s.sets.feed.b, value := 0, roll := 0 }])
        ∧ (s.web.outlet = [] → atOrBeyond (s.web.o + toPos c.w) (c.outletStart + toPos s.sets.feed.b) = false →
            t.web.outlet = [{ body := .missfold, origin := s.ownId, pos := c.outletStart + toPos s.sets.feed.b }]) := by
  obtain ⟨hsend, hsilent⟩ := sending_of_states hst
  refine ⟨_, exec_stop hcheck hsend, ?_⟩
  obtain ⟨tphase, _, tmissed, _⟩ := stopped_tuck hsilent hp
  have ucalm := stopped_calm hsilent
  have upace := stopped_pace s
  have ustate : s.stopped.port.state = s.port.state := by
    rw [stopped_eq hsilent]
    exact (setLatch_rest (s.shiftOut 8) { origin := .port, reason := 0 }).2.2.2.2.1
  generalize s.stopped = u at tphase tmissed ucalm upace ustate ⊢
  have uweb : u.web = s.web := congrArg Calm.web ucalm
  have ulink : u.link = { s.link with stopResume := some (.stop 0), onLink := s.link.replacedIn .stopResume } :=
    congrArg Calm.link ucalm
  have usets : u.sets = s.sets := congrArg Pace.sets upace
  have announced := enterAborting_announces (s := u) (c := c) ((congrArg Pace.cycle upace).trans hc) (by rw [usets]; exact hz)
    (by rw [uweb]; exact hb)
  have tcalm := settle_tuck (s := u) (congrArg Calm.latch ucalm) ((congrArg Pace.phase upace).trans hp)
  rw [State.bareWeb, State.ownId, usets, uweb, ulink, ustate, ← State.ownId] at announced
  generalize u.settle = t at tcalm tphase tmissed ⊢
  generalize u.enterAborting = v at tcalm announced
  have tweb : t.web = v.web := congrArg Calm.web tcalm
  have tlink : t.link = v.link := congrArg Calm.link tcalm
  obtain ⟨vweb, vmarks, voutlet⟩ := announced
  show t.web.o = _ ∧ t.web.seg = _ ∧ t.web.sent = _ ∧ t.knife.missed = _ ∧ t.knife.phase = _ ∧ (_ → _ → t.link.marks = _)
    ∧ (_ → _ → t.web.outlet = _)
  rw [tweb, tlink]
  exact ⟨(congrArg Web.o vweb :), (congrArg Web.seg vweb :), (congrArg Web.sent vweb :), tmissed, tphase,
    fun hm hn => vmarks hm hn hsilent, voutlet⟩

end Sys2Proof.Machine
end

section
namespace Sys2Proof.Machine

/-! # Marks and misses -/

theorem Completes.imp {c : Instr} {s : State} {p q : State → Prop} (h : Completes c s p) (hpq : ∀ t, p t → q t) : Completes c s q := by
  obtain ⟨t, he, ht⟩ := h
  exact ⟨t, he, hpq t ht⟩

/-- The nominal point at which a FOLLOWER's step expects its fold (R69, R72). -/
def State.expectedAt (s : State) : Pos := if s.cad.cur = none then s.knifePoint else s.reg.nominal

/-- What the fault of a fourth miss at a FOLD's step start leaves: the station in FAULT, and the cycle begun and halted (R74, log 32). -/
def LostAtStart (s t : State) (step : Nat) (expected : Pos) : Prop :=
  s.port.state = .joining ∨ s.port.state = .active →
    t.port.state = .fault ∧ t.rate.latch = true ∧ t.rate.effective = 0
      ∧ t.port.fault.map FaultRecord.first = some (.registrationLost step expected) ∧ t.knife.phase = .feed ∧ t.knife.halted = true

/-- The deadline of that expectation (R70). -/
def State.expectedBy (s : State) : Pos := s.expectedAt + toPos (s.sets.feed.aS + s.sets.knife.window)

theorem stepOpened_expects {s : State} (h : s.sets.line.role = .follower) (st : Step) :
    (s.stepOpened st).reg.nominal = s.expectedAt ∧ (s.stepOpened st).deadlineNow = s.expectedBy
      ∧ (s.stepOpened st).web = s.web ∧ (s.stepOpened st).sets = s.sets := by
  obtain ⟨hreg, hweb, hsets, _⟩ := stepOpened_fields h st
  rw [State.deadlineNow, hreg, hsets]
  exact ⟨rfl, rfl, hweb, rfl⟩

/-- The registration unit with the expectation of the step, before it is tested (R69, R70). -/
theorem stepOpened_expecting {s : State} (h : s.sets.line.role = .follower) (st : Step) (step : Nat) :
    ((s.stepOpened st).expecting step).reg = { s.reg with
        nominal := s.expectedAt, u := if s.cad.cur = none then s.reg.c else s.reg.u
        expect := some { step := step, x := s.expectedAt, deadline := s.expectedBy } }
      ∧ ((s.stepOpened st).expecting step).port = s.port := by
  obtain ⟨hreg, _, hsets, hport⟩ := stepOpened_fields h st
  unfold State.expecting
  simp only
  rw [hreg, hsets]
  exact ⟨rfl, hport⟩

/-- A fold whose record stands in the history already is accepted at the step start (R70, R71, R73). -/
theorem foldBegun_accepts {s t : State} {st : Step} (h : s.sets.line.role = .follower)
    (ht : FoldBegun ((s.stepOpened st).openExpectation st.number) t) (he : s.reg.expect = none) {older newer : List Detection}
    {d : Detection} (hh : s.reg.history = older ++ d :: newer) (ho : ∀ y ∈ older, ¬y.Fits s.sets.knife.window s.expectedAt)
    (hd : d.Fits s.sets.knife.window s.expectedAt) :
    let c := (s.reg.c + (d.x - s.expectedAt).toInt).fdiv 2
    t.reg.expect = none ∧ t.reg.history = older ++ { d with used := true } :: newer ∧ t.reg.c = c ∧ t.reg.misses = 0
      ∧ t.reg.lastErr = (d.x - s.expectedAt).toInt ∧ t.reg.accepted = satInc s.reg.accepted
      ∧ t.reg.u + t.reg.lastU = (if s.cad.cur = none then s.reg.c else s.reg.u) + (c - s.reg.c)
      ∧ (0 < s.reg.misses → t.port.ip.getLsbD 2 = true) := by
  obtain ⟨hreg, _, _, _⟩ := stepOpened_fields h st
  obtain ⟨hnominal, _, _, hsets⟩ := stepOpened_expects h st
  have hopen := openExpectation_accepts (s := s.stepOpened st) st.number (by rw [hreg]; exact he) (by rw [hreg]; exact hh)
    (by rw [hsets, hnominal]; exact ho) (by rw [hsets, hnominal]; exact hd)
  rw [hnominal] at hopen
  obtain ⟨oreg, oip⟩ := acceptDetection_fields ((s.stepOpened st).expecting st.number) (d.x - s.expectedAt).toInt
    (older ++ { d with used := true } :: newer)
  obtain ⟨ereg, eport⟩ := stepOpened_expecting h st st.number
  rw [hopen] at ht
  rw [ereg] at oreg oip
  generalize State.acceptDetection _ _ _ = o at ht oreg oip
  obtain ⟨⟨x, v, treg⟩, tip, _⟩ := ht
  rw [oreg] at treg
  rw [treg]
  refine ⟨rfl, rfl, rfl, rfl, rfl, rfl, ?_, fun hm => tip 2 (oip hm)⟩
  exact Int.sub_add_cancel _ _

/-- Without a record that fits, and with I not past the deadline, the expectation opens, and one that stands is missed first (R70, R74). -/
theorem foldBegun_opens {s t : State} {st : Step} (h : s.sets.line.role = .follower)
    (ht : FoldBegun ((s.stepOpened st).openExpectation st.number) t)
    (hh : ∀ y ∈ s.reg.history, ¬y.Fits s.sets.knife.window s.expectedAt) (hb : beyond s.web.i s.expectedBy = false) :
    t.reg.expect = some { step := st.number, x := s.expectedAt, deadline := s.expectedBy } ∧ t.reg.history = s.reg.history
      ∧ t.reg.c = s.reg.c
      ∧ (s.reg.expect = none → t.reg.misses = s.reg.misses)
      ∧ ∀ e, s.reg.expect = some e → t.reg.misses = min (s.reg.misses + 1) 4 ∧ t.port.ip.getLsbD 2 = true
          ∧ (s.reg.misses = 3 → LostAtStart s t e.step e.x) := by
  obtain ⟨hreg, _, _, hport⟩ := stepOpened_fields h st
  obtain ⟨hnominal, hdeadline, hweb, hsets⟩ := stepOpened_expects h st
  have hopen := openExpectation_opens (s := s.stepOpened st) st.number (by rw [hsets, hnominal, hreg]; exact hh)
    (by rw [hweb, hdeadline]; exact hb)
  obtain ⟨_, msets, mnominal, mhistory, mc⟩ := miss_keeps (s.stepOpened st)
  have mnone : s.reg.expect = none → (s.stepOpened st).miss = s.stepOpened st := fun he => miss_none (by rw [hreg]; exact he)
  have msome : ∀ e, s.reg.expect = some e → _ := fun e he => miss_fields (s := s.stepOpened st) (e := e) (by rw [hreg]; exact he)
  rw [hopen] at ht
  rw [hport, hreg] at msome
  rw [hreg] at mhistory mc
  rw [hnominal] at mnominal
  rw [hsets] at msets
  have hmisses : (s.stepOpened st).reg.misses = s.reg.misses := by rw [hreg]
  generalize s.stepOpened st = o at ht mnone msome msets mnominal mhistory mc hmisses
  obtain ⟨⟨x, v, treg⟩, tip, tlost⟩ := ht
  rw [treg]
  refine ⟨?_, mhistory, mc, fun he => ?_, fun e he => ?_⟩
  · show (o.miss.expecting st.number).reg.expect = _
    rw [State.expecting, mnominal, msets]
    rfl
  · show o.miss.reg.misses = _
    rw [mnone he]
    exact hmisses
  · obtain ⟨ureg, _, _, uip, _, ulost⟩ := msome e he
    refine ⟨?_, tip 2 uip, fun h3 hst => ?_⟩
    · show o.miss.reg.misses = _
      rw [ureg]
    · obtain ⟨ustate, ul, ue, _, uf⟩ := ulost h3 hst
      exact tlost _ ustate ul ue uf

/-- Without a record that fits, and with I past the deadline already, the expectation is missed at the step start (R70, R74, log 32). -/
theorem foldBegun_misses {s t : State} {st : Step} (h : s.sets.line.role = .follower)
    (ht : FoldBegun ((s.stepOpened st).openExpectation st.number) t) (he : s.reg.expect = none)
    (hh : ∀ y ∈ s.reg.history, ¬y.Fits s.sets.knife.window s.expectedAt) (hb : beyond s.web.i s.expectedBy = true) :
    t.reg.expect = none ∧ t.reg.history = s.reg.history ∧ t.reg.c = s.reg.c ∧ t.reg.misses = min (s.reg.misses + 1) 4
      ∧ t.port.ip.getLsbD 2 = true ∧ (s.reg.misses = 3 → LostAtStart s t st.number s.expectedAt) := by
  obtain ⟨hreg, _, _, hport⟩ := stepOpened_fields h st
  obtain ⟨hnominal, hdeadline, hweb, hsets⟩ := stepOpened_expects h st
  have hopen := openExpectation_misses (s := s.stepOpened st) st.number (by rw [hreg]; exact he)
    (by rw [hsets, hnominal, hreg]; exact hh) (by rw [hweb, hdeadline]; exact hb)
  have hmiss := miss_fields (s := (s.stepOpened st).expecting st.number) rfl
  obtain ⟨ereg, eport⟩ := stepOpened_expecting h st st.number
  rw [hopen] at ht
  rw [ereg, eport, hnominal] at hmiss
  generalize State.miss _ = o at ht hmiss
  obtain ⟨oreg, _, _, oip, _, olost⟩ := hmiss
  obtain ⟨⟨x, v, treg⟩, tip, tlost⟩ := ht
  rw [oreg] at treg
  rw [treg]
  refine ⟨rfl, rfl, rfl, rfl, tip 2 oip, fun h3 hst => ?_⟩
  obtain ⟨ostate, ol, oe, _, ofault⟩ := olost h3 hst
  exact tlost _ ostate ol oe ofault

/-- Settles O35: the one mark at the knife line at each pulse, the expectation of a step start, the deadline at a feed pulse, and the entry to
ABORTING. -/
theorem marksAndMisses : Obligations.MarksAndMisses := by
  refine ⟨fun m s hobeys hb hs he hstand hm hseg => ⟨fun hmode hbegun hpn heff _ hk hz ho hmarks h0 h1 hr hl => ?_,
    fun c hc hp hh hrem hk => ⟨fun hr => ?_, fun hr => ?_⟩⟩, fun st s hn hmode hbegun hphase heff hcomplete hreg hl hk hf => ?_,
    fun e c s he hobeys hb hs hstand hc hp hh hrem => ?_, fun c s hcheck hst hp hc hz hb => exec_stop_tuck hcheck hst hp hc hz hb⟩
  · refine (continuousPulse_announces hobeys hb hs he hstand hm hseg hmode hbegun hpn heff hk hz ho hmarks h0 h1 hr hl).imp ?_
    rintro t ⟨tbay, tsent, toutlet, tmarks, tfollower, tdec, tcad⟩
    refine ⟨tbay, tsent, toutlet, tmarks, fun hrole hw number hbody => ?_, fun hrole => ?_⟩
    · rw [tfollower, tdec, tcad]
      exact (reportCrossing_panel (s := s.flowed) hrole hbody).1 hw
    · rw [tfollower, tdec, tcad, reportCrossing_none (s := s.flowed) hrole m]
      exact ⟨rfl, rfl, hmode⟩
  · exact ⟨_, exec_feedPulse hc hp hh hrem, feedPulse_follower (latch_clear_of_feed hobeys hp hh) hb hs he hstand hm hseg hk hr⟩
  · exact ⟨_, exec_feedPulse hc hp hh hrem, feedPulse_leader (latch_clear_of_feed hobeys hp hh) hb hs he hstand hm hseg hk hr⟩
  · have hd : s.stepDue = true := (stepDue_iff s).mpr ⟨hmode, hbegun, ⟨hphase, heff⟩, hcomplete⟩
    obtain ⟨hrole, _⟩ := (registering_iff s).mp hreg
    refine (exec_stepStart_registered hn hd hreg hl hk hf).imp fun t ht => ⟨fun he => ⟨fun older d newer hh ho hfit => ?_, fun hh => ?_⟩,
      fun e he hh hb => ?_⟩
    · exact foldBegun_accepts hrole ht he hh ho hfit
    · by_cases hb : beyond s.web.i s.expectedBy = true
      · obtain ⟨texpect, thistory, tc, tmisses, tip, tlost⟩ := foldBegun_misses hrole ht he hh hb
        exact ⟨thistory, tc, fun c => absurd hb (ne_true_of_eq_false c), fun _ => ⟨texpect, tmisses, tip, tlost⟩⟩
      · obtain ⟨texpect, thistory, tc, tmisses, _⟩ := foldBegun_opens hrole ht hh (eq_false_of_ne_true hb)
        exact ⟨thistory, tc, fun _ => ⟨texpect, tmisses he⟩, fun c => absurd c hb⟩
    · obtain ⟨texpect, thistory, _, _, tmissed⟩ := foldBegun_opens hrole ht hh hb
      obtain ⟨tmisses, tip, tlost⟩ := tmissed e he
      exact ⟨texpect, thistory, tmisses, tip, tlost⟩
  · exact ⟨_, exec_feedPulse hc hp hh hrem, feedPulse_deadline c he (latch_clear_of_feed hobeys hp hh) hb hs hstand⟩

end Sys2Proof.Machine
end

section
namespace Sys2Proof.Machine

/-! # The feed of a FOLD under registration -/

theorem acceptDetection_pace (s : State) (e : Int) (history : List Detection) : (s.acceptDetection e history).pace = s.pace := by
  unfold State.acceptDetection
  simp only
  split <;> rfl

/-- An expectation that opens leaves the web, the sets and the knife's cycle, also where its own miss raises REGISTRATION_LOST (R70, R74). -/
theorem openExpectation_pace (s : State) (step : Nat) : (s.openExpectation step).pace = s.pace := by
  have hexpecting : (s.miss.expecting step).pace = s.pace := miss_pace s
  obtain ⟨htake, hnone⟩ := openExpectation_cases s step
  cases h : takeDetection s.miss.sets.knife.window s.miss.reg.nominal s.miss.reg.history with
  | none => rw [hnone h, deadlineTest_pace, hexpecting]
  | some taken => rw [htake taken.1 taken.2 h, acceptDetection_pace, hexpecting]

theorem stepOpened_pace (s : State) (st : Step) : (s.stepOpened st).pace = s.pace := by
  unfold State.stepOpened State.openRegistration
  split <;> rfl

theorem knifePoint_of_pace {s t : State} (h : t.pace = s.pace) : t.knifePoint = s.knifePoint := by
  have hi : t.web.i = s.web.i := congrArg Pace.i h
  have hsets : t.sets = s.sets := congrArg Pace.sets h
  rw [State.knifePoint, State.knifePoint, hi, hsets]

/-- The station under registration as its FOLD begins: a flagged one has opened its expectation, and the nominal point has moved on by the
pitch (R69, R70). -/
def State.foldReady (s : State) (st : Step) : State :=
  (if st.flag = true then (s.stepOpened st).openExpectation st.number else s.stepOpened st).pitched st

theorem foldReady_pace (s : State) (st : Step) : (s.foldReady st).pace = s.pace := by
  unfold State.foldReady
  split
  · exact (openExpectation_pace _ _).trans (stepOpened_pace s st)
  · exact stepOpened_pace s st

/-- A FOLD without the registration flag finds U as the panel's start or the step before has left it (R72, R73). -/
theorem foldReady_u {s : State} (h : s.sets.line.role = .follower) {st : Step} (hf : st.flag = false) :
    (s.foldReady st).reg.u = if s.cad.cur = none then s.reg.c else s.reg.u := by
  rw [State.foldReady, if_neg (ne_true_of_eq_false hf), State.pitched]
  exact congrArg Registration.u (stepOpened_fields h st).1

theorem takeStep_registering {s : State} {st : Step} (h : s.registering = true) (hk : st.kind ≠ .flat) :
    s.takeStep st = (s.foldReady st).startFold st := by
  obtain ⟨hrole, _⟩ := (registering_iff s).mp h
  unfold State.foldReady
  by_cases hf : st.flag = true
  · rw [if_pos hf]
    exact takeStep_registered h hk hf
  · have hsets : (s.stepOpened st).sets.line.role = .follower := by
      rw [(stepOpened_fields hrole st).2.2.1]
      exact hrole
    have he : s.takeStep st = ((s.stepOpened st).registerStep st).startFold st := if_neg hk
    rw [if_neg hf, he, State.registerStep, if_pos hsets, if_neg fun c => hf c.2.1]
    rfl

/-- The feed length of a FOLD under registration (R73). -/
def State.feedLength (s : State) (pitch : Nat) : Nat := ((pitch : Int) + appliedCorrection s.sets.knife.maxTrim pitch s.reg.u).toNat

/-- The clamp never leaves a feed below 1 (R73). -/
theorem feedLength_cast (s : State) (pitch : Nat) :
    (s.feedLength pitch : Int) = (pitch : Int) + appliedCorrection s.sets.knife.maxTrim pitch s.reg.u ∧ 1 ≤ s.feedLength pitch := by
  have hclamp : 1 - (pitch : Int) ≤ appliedCorrection s.sets.knife.maxTrim pitch s.reg.u := le_max_left _ _
  unfold State.feedLength
  omega

/-- The cycle of a FOLD under registration, and the correction taken out of U (R42, R73). -/
theorem startFold_feeds {s : State} (h : s.registering = true) (st : Step) :
    (s.startFold st).knife.phase = .feed
      ∧ (s.startFold st).knife.cycle = some
          { step := st.number, dir := st.kind.dir, w := st.width, f := s.feedLength st.pitch, start := s.knifePoint
            outletStart := s.web.o, remaining := s.feedLength st.pitch }
      ∧ (s.startFold st).reg.lastU = appliedCorrection s.sets.knife.maxTrim st.pitch s.reg.u
      ∧ (s.startFold st).reg.u + (s.startFold st).reg.lastU = s.reg.u := by
  unfold State.startFold State.takeFeed
  rw [if_pos h]
  exact ⟨rfl, rfl, rfl, Int.sub_add_cancel _ _⟩

/-- A settling leaves a FEED under way, halted or not, and the correction of its feed (R46). -/
theorem settle_feed {s : State} (h : s.knife.phase = .feed) :
    s.settle.knife.phase = .feed ∧ s.settle.knife.cycle = s.knife.cycle ∧ s.settle.reg = s.reg := by
  have hcalm := settle_calm (s := s) fun _ => by rw [h]; decide
  have hcycle := settle_cycle s
  have hstill := settle_still s
  generalize s.settle = t at hcalm hcycle hstill ⊢
  refine ⟨?_, hcycle, congrArg Still.reg hstill⟩
  have hknife : t.knife = s.knife.settled s.rate.latch := congrArg Calm.knife hcalm
  rw [hknife, Knife.settled]
  split
  · rw [latched_phase, h]
  · exact h

/-- Settles O30: the cycle begins with the clamped part of the U that the step's own expectation has left, and the settling, which halts the
feed where that expectation's miss has set the latch, leaves its length. -/
theorem foldFeedLength : Obligations.FoldFeedLength := by
  intro st s hn hmode hbegun hphase heff hcomplete hreg hl hk _
  obtain ⟨hrole, _⟩ := (registering_iff s).mp hreg
  have hexec := exec_stepStart hn ((stepDue_iff s).mpr ⟨hmode, hbegun, ⟨hphase, heff⟩, hcomplete⟩)
  rw [stepBoundary_takes (by rw [hl]; decide) (fun c => LeaderState.noConfusion (hl.symm.trans c)), takeStep_registering hreg hk] at hexec
  refine ⟨_, hexec, ?_⟩
  have upace := foldReady_pace s st
  have uu := foldReady_u (st := st) hrole
  generalize s.foldReady st = u at upace uu ⊢
  have usets : u.sets = s.sets := congrArg Pace.sets upace
  have uo : u.web.o = s.web.o := congrArg Pace.o upace
  have ureg : u.registering = true := by
    rw [State.registering, usets]
    exact hreg
  obtain ⟨fphase, fcycle, flast, fu⟩ := startFold_feeds ureg st
  obtain ⟨tphase, tcycle, treg⟩ := settle_feed fphase
  obtain ⟨hlength, hone⟩ := feedLength_cast u st.pitch
  generalize (u.startFold st).settle = t at tphase tcycle treg ⊢
  rw [fcycle, knifePoint_of_pace upace, uo] at tcycle
  rw [← treg] at flast fu
  beta_reduce
  rw [tcycle, fu, ← usets]
  refine ⟨tphase, rfl, ?_, hone, flast, uu⟩
  rw [flast]
  exact hlength

end Sys2Proof.Machine
end

section
namespace Sys2Proof.Machine

/-! # A detection -/

/-- A bit of a byte of channel levels in which one has been set. -/
theorem setLevel_getLsbD (levels : BitVec 8) (ch k : Fin 8) (b : Bool) :
    (setLevel levels ch b).getLsbD k.val = if k = ch then b else levels.getLsbD k.val := by
  by_cases h : k = ch
  · subst h
    cases b <;> simp [setLevel]
  · have hne : ch.val ≠ k.val := fun c => h (Fin.ext c.symm)
    cases b <;> simp [setLevel, h, hne.symm]

/-- Where the Fold Registration Unit takes a rise of the match: a FOLLOWER with registration on, outside CONFIG (R67, R68). -/
def State.Detecting (s : State) : Prop :=
  s.sets.line.role = .follower ∧ s.sets.knife.registration = true ∧ s.port.state ≠ .config

theorem detecting_iff (s : State) : s.Detecting ↔ s.registering = true ∧ s.running = true := by
  rw [registering_iff, and_assoc]
  simp [State.Detecting, State.running]

/-- Where the fold sensor sees the web now (R68). -/
def State.sensorPoint (s : State) : Pos := s.web.i - toPos s.sets.feed.aS

/-- The error of a fold seen now from an expectation (R70). -/
def State.errorFrom (s : State) (j : Expectation) : Int := (s.sensorPoint - j.x).toInt

/-- The history without the record that a new one displaces (R68). -/
def State.olderDetections (s : State) : List Detection := if 8 ≤ s.reg.history.length then s.reg.history.drop 1 else s.reg.history

theorem olderDetections_eq (s : State) :
    s.olderDetections = if s.reg.history.length < 8 then s.reg.history else s.reg.history.drop 1 := by
  unfold State.olderDetections
  by_cases h : 8 ≤ s.reg.history.length
  · rw [if_pos h, if_neg (Nat.not_lt.mpr h)]
  · rw [if_neg h, if_pos (Nat.not_le.mp h)]

/-- The station with the record of a detection placed and counted (R68). -/
def State.placed (s : State) : State :=
  { s with
    reg.history := s.olderDetections ++ [{ x := s.sensorPoint, used := false }]
    reg.detections := satInc s.reg.detections }

/-- The station whose open expectation has taken the detection of now (R71). -/
def State.matched (s : State) (j : Expectation) : State :=
  s.placed.acceptDetection (s.errorFrom j) (s.olderDetections ++ [{ x := s.sensorPoint, used := true }])

/-- The error lies in the window (R70). -/
def State.Within (s : State) (e : Int) : Prop := -(s.sets.knife.window : Int) ≤ e ∧ e ≤ (s.sets.knife.window : Int)

theorem detect_skipped {s : State} (h : ¬s.Detecting) : s.detect = s := if_neg fun c => h ((detecting_iff s).mpr c)

theorem inWindow_iff (s : State) (e : Int) : inWindow s.sets.knife.window e = true ↔ s.Within e := by
  simp [inWindow, State.Within]

/-- A detection by the expectation it meets: none, one that its error fits, one that it does not (R68, R70, R71). -/
theorem detect_cases {s : State} (h : s.Detecting) :
    (s.reg.expect = none → s.detect = s.placed)
      ∧ ∀ j, s.reg.expect = some j →
          (s.Within (s.errorFrom j) → s.detect = s.matched j) ∧ (¬s.Within (s.errorFrom j) → s.detect = s.placed) := by
  have hdetect : s.detect = match s.reg.expect with
      | none => s.placed
      | some j => if inWindow s.sets.knife.window (s.errorFrom j) = true then s.matched j else s.placed :=
    if_pos ((detecting_iff s).mp h)
  rw [hdetect]
  refine ⟨fun he => ?_, fun j he => ⟨fun hw => ?_, fun hw => ?_⟩⟩
  · rw [he]
  · rw [he]
    exact if_pos ((inWindow_iff s _).mpr hw)
  · rw [he]
    exact if_neg fun c => hw ((inWindow_iff s _).mp c)

/-- An accepted detection touches the registration unit, and beside it only what it signals (R71, R74). -/
theorem acceptDetection_rest (s : State) (e : Int) (history : List Detection) :
    (s.acceptDetection e history).calm = s.calm
      ∧ (s.acceptDetection e history).still = { s.still with reg := (s.acceptDetection e history).reg } := by
  unfold State.acceptDetection
  simp only
  split <;> exact ⟨rfl, rfl⟩

/-- From `s` to `t` the calm and the still part change at most in the registration unit, and there not in the levels and the timers of its
filter. -/
def FilterKept (s t : State) : Prop :=
  t.calm = s.calm ∧ t.still = { s.still with reg := t.reg } ∧ t.reg.raw = s.reg.raw ∧ t.reg.filtered = s.reg.filtered
    ∧ t.reg.timers = s.reg.timers

theorem placed_kept (s : State) : FilterKept s s.placed := ⟨rfl, rfl, rfl, rfl, rfl⟩

theorem matched_kept (s : State) (j : Expectation) : FilterKept s (s.matched j) := by
  obtain ⟨hcalm, hstill⟩ := acceptDetection_rest s.placed (s.errorFrom j) (s.olderDetections ++ [{ x := s.sensorPoint, used := true }])
  obtain ⟨hreg, _⟩ := acceptDetection_fields s.placed (s.errorFrom j) (s.olderDetections ++ [{ x := s.sensorPoint, used := true }])
  refine ⟨hcalm, hstill, ?_⟩
  rw [State.matched, hreg]
  exact ⟨rfl, rfl, rfl⟩

theorem detect_kept (s : State) : FilterKept s s.detect := by
  by_cases hd : s.Detecting
  · obtain ⟨hnone, hsome⟩ := detect_cases hd
    cases he : s.reg.expect with
    | none => rw [hnone he]; exact placed_kept s
    | some j =>
      obtain ⟨hwithin, houtside⟩ := hsome j he
      by_cases hw : s.Within (s.errorFrom j)
      · rw [hwithin hw]; exact matched_kept s j
      · rw [houtside hw]; exact placed_kept s
  · rw [detect_skipped hd]
    exact ⟨rfl, rfl, rfl, rfl, rfl⟩

theorem settle_reg (s : State) : s.settle.reg = s.reg := by
  have h := settle_still s
  generalize s.settle = t at h ⊢
  exact congrArg Still.reg h

/-- What a detection of the station `u` leaves in `t` (R68, R70, R71, R74): its record in the history, and the expectation that takes it with
the correction, or the rest of the unit as it was. -/
structure Detected (u t : State) : Prop where
  count : t.reg.detections = satInc u.reg.detections
  points : t.reg.history.map Detection.x =
    (if u.reg.history.length < 8 then u.reg.history else u.reg.history.drop 1).map Detection.x ++ [u.sensorPoint]
  taken : ∀ j, u.reg.expect = some j → u.Within (u.errorFrom j) →
    t.reg.expect = none ∧ t.reg.c = (u.reg.c + u.errorFrom j).fdiv 2
      ∧ t.reg.u = u.reg.u + ((u.reg.c + u.errorFrom j).fdiv 2 - u.reg.c) ∧ t.reg.misses = 0 ∧ t.reg.lastErr = u.errorFrom j
      ∧ t.reg.accepted = satInc u.reg.accepted ∧ t.reg.history.getLast?.map Detection.used = some true
      ∧ (0 < u.reg.misses → t.port.ip.getLsbD 2 = true)
  outside : ∀ j, u.reg.expect = some j → ¬u.Within (u.errorFrom j) →
    t.reg = { u.reg with history := t.reg.history, detections := t.reg.detections }
  unexpected : u.reg.expect = none → t.reg = { u.reg with history := t.reg.history, detections := t.reg.detections }
    ∧ t.reg.history.getLast?.map Detection.used = some false

theorem detected_placed {u t : State} (ht : t.reg = u.placed.reg) (h : ∀ j, u.reg.expect = some j → ¬u.Within (u.errorFrom j)) :
    Detected u t := by
  refine ⟨?_, ?_, fun j he hw => absurd hw (h j he), fun _ _ _ => ?_, fun _ => ⟨?_, ?_⟩⟩ <;> rw [ht]
  · rfl
  · rw [← olderDetections_eq]
    exact List.map_append
  · rfl
  · rfl
  · show (u.olderDetections ++ [_]).getLast?.map Detection.used = _
    rw [List.getLast?_concat]
    rfl

theorem detected_matched {u t : State} {j : Expectation} (he : u.reg.expect = some j) (hw : u.Within (u.errorFrom j))
    (ht : t.reg = (u.matched j).reg) (hip : (u.matched j).port.ip.getLsbD 2 = true → t.port.ip.getLsbD 2 = true) : Detected u t := by
  obtain ⟨hreg, hflag⟩ := acceptDetection_fields u.placed (u.errorFrom j) (u.olderDetections ++ [{ x := u.sensorPoint, used := true }])
  have ht := ht.trans hreg
  refine ⟨?_, ?_, fun i hi _ => ?_, fun i hi hn => ?_, fun hn => ?_⟩
  · rw [ht]
    rfl
  · rw [ht, ← olderDetections_eq]
    exact List.map_append
  · cases he.symm.trans hi
    refine ⟨?_, ?_, ?_, ?_, ?_, ?_, ?_, fun hm => hip (hflag hm)⟩ <;> rw [ht]
    case refine_7 => simp only [List.getLast?_concat, Option.map_some]
    all_goals rfl
  · cases he.symm.trans hi
    exact absurd hw hn
  · cases he.symm.trans hn

/-- A detection with the settling of its step. -/
theorem detect_settled {u : State} (h : u.Detecting) : Detected u u.detect.settle := by
  obtain ⟨hnone, hsome⟩ := detect_cases h
  have hreg := settle_reg u.detect
  have hip := (Rises.settle u.detect).2.2 2
  generalize u.detect.settle = t at hreg hip ⊢
  cases he : u.reg.expect with
  | none =>
    rw [hnone he] at hreg
    exact detected_placed hreg fun j hj => by cases he.symm.trans hj
  | some j =>
    by_cases hw : u.Within (u.errorFrom j)
    · rw [(hsome j he).1 hw] at hreg hip
      exact detected_matched he hw hreg hip
    · rw [(hsome j he).2 hw] at hreg
      refine detected_placed hreg fun i hi => ?_
      cases he.symm.trans hi
      exact hw

end Sys2Proof.Machine
end

section
namespace Sys2Proof.Machine

/-! # The filter of a fold sensor -/

/-- The station with a channel's filtered level set, before the match is tested (R66). -/
def State.levelled (s : State) (ch : Fin 8) (b : Bool) : State := { s with reg.filtered := setLevel s.reg.filtered ch b }

/-- The match rises from the levels of `s` to those of `t` under the KNIFE set in force (R67, log 40). -/
def MatchRises (s t : State) : Prop := matchOf s.sets.knife s.reg.filtered = false ∧ matchOf s.sets.knife t.reg.filtered = true

theorem setFiltered_rises {s : State} {ch : Fin 8} {b : Bool} (h : MatchRises s (s.levelled ch b)) :
    s.setFiltered ch b = (s.levelled ch b).detect := if_pos h

theorem setFiltered_level {s : State} {ch : Fin 8} {b : Bool} (h : ¬MatchRises s (s.levelled ch b)) :
    s.setFiltered ch b = s.levelled ch b := if_neg h

/-- What a filtered level that takes the level `b` makes of the station `s`, once the step has settled: the level, and a detection where the
match rises and the unit takes it (R66, R67). -/
structure Filtered (s : State) (ch : Fin 8) (b : Bool) (t : State) : Prop where
  raw : t.reg.raw = s.reg.raw
  filtered : t.reg.filtered = setLevel s.reg.filtered ch b
  timers : t.reg.timers = s.reg.timers
  calm : t.calm = s.calm
  still : t.still = { s.still with reg := t.reg }
  undetected : ¬(MatchRises s t ∧ s.Detecting) → t.reg = { s.reg with filtered := t.reg.filtered }
  detected : MatchRises s t → s.Detecting → Detected (s.levelled ch b) t

/-- A filtered level that is set, before the step settles. -/
theorem setFiltered_rest (s : State) (ch : Fin 8) (b : Bool) :
    (s.setFiltered ch b).calm = s.calm ∧ (s.setFiltered ch b).still = { s.still with reg := (s.setFiltered ch b).reg }
      ∧ (s.setFiltered ch b).reg.raw = s.reg.raw ∧ (s.setFiltered ch b).reg.filtered = setLevel s.reg.filtered ch b
      ∧ (s.setFiltered ch b).reg.timers = s.reg.timers := by
  by_cases h : MatchRises s (s.levelled ch b)
  · rw [setFiltered_rises h]
    exact detect_kept (s.levelled ch b)
  · rw [setFiltered_level h]
    exact ⟨rfl, rfl, rfl, rfl, rfl⟩

theorem setFiltered_settled {s : State} (hk : s.KnifeObeys) (ch : Fin 8) (b : Bool) : Filtered s ch b (s.setFiltered ch b).settle := by
  obtain ⟨ucalm, ustill, uraw, ufiltered, utimers⟩ := setFiltered_rest s ch b
  have tcalm := (settle_calm_of_obeys (knifeObeys_of_calm ucalm hk)).trans ucalm
  have tstill := settle_still (s.setFiltered ch b)
  have treg := settle_reg (s.setFiltered ch b)
  have hrises : MatchRises s (s.setFiltered ch b).settle ↔ MatchRises s (s.levelled ch b) := by
    rw [MatchRises, treg, ufiltered]
    rfl
  refine ⟨by rw [treg, uraw], by rw [treg, ufiltered], by rw [treg, utimers], tcalm, by rw [tstill, ustill, treg], fun hn => ?_,
    fun hr hd => ?_⟩
  · have hlevel : s.setFiltered ch b = s.levelled ch b := by
      by_cases hr : MatchRises s (s.levelled ch b)
      · rw [setFiltered_rises hr]
        exact detect_skipped fun hd => hn ⟨hrises.mpr hr, hd⟩
      · exact setFiltered_level hr
    rw [treg, hlevel]
    rfl
  · rw [setFiltered_rises (hrises.mp hr)]
    exact detect_settled (show (s.levelled ch b).Detecting from hd)

/-! ## The rows of the fold sensor (R66) -/

theorem exec_foldSensorChange_same {ch : Fin 8} {level : Bool} {s : State} (h : level = s.reg.raw.getLsbD ch.val) :
    exec (.foldSensorChange ch level) s = .next s := if_pos h

theorem exec_foldSensorChange {ch : Fin 8} {level : Bool} {s : State} (h : level ≠ s.reg.raw.getLsbD ch.val) :
    exec (.foldSensorChange ch level) s = .next ((s.setRaw ch level).filterChange ch level).settle := if_neg h

/-- A raw change as the filter takes it, by the filtered level, the deskew time and the channel's timer (R66). -/
theorem filterChange_cases (s : State) (ch : Fin 8) (level : Bool) :
    (level = s.reg.filtered.getLsbD ch.val → s.filterChange ch level = s.setDeskew ch none)
      ∧ (level ≠ s.reg.filtered.getLsbD ch.val → s.sets.knife.deskew = 0 →
          s.filterChange ch level = (s.setDeskew ch none).setFiltered ch level)
      ∧ (level ≠ s.reg.filtered.getLsbD ch.val → s.sets.knife.deskew ≠ 0 →
          s.filterChange ch level = s.setDeskew ch (some (s.reg.timers[ch].getD (s.now + 100 * s.sets.knife.deskew)))) := by
  unfold State.filterChange
  refine ⟨fun h => if_pos h, fun h hd => ?_, fun h hd => ?_⟩
  · rw [if_neg h, if_pos hd]
  · rw [if_neg h, if_neg hd]
    cases ht : s.reg.timers[ch] with
    | none => rfl
    | some due =>
      have hset : s.reg.timers.set ch (some due) = s.reg.timers := by
        rw [← ht]
        exact Vector.set_getElem_self ch.isLt
      show s = s.setDeskew ch (some due)
      rw [State.setDeskew, hset]

/-- A change of the filter's timer with the settling of its step. -/
theorem setDeskew_settled {s : State} (hk : s.KnifeObeys) (ch : Fin 8) (due : Option Nat) :
    (s.setDeskew ch due).settle.reg = { s.reg with timers := s.reg.timers.set ch due }
      ∧ (s.setDeskew ch due).settle.calm = s.calm
      ∧ (s.setDeskew ch due).settle.still = { s.still with reg := { s.reg with timers := s.reg.timers.set ch due } } := by
  have tcalm := settle_calm_of_obeys (s := s.setDeskew ch due) hk
  have tstill := settle_still (s.setDeskew ch due)
  exact ⟨congrArg Still.reg tstill, tcalm, tstill⟩

/-- The station at the expiry of a channel's timer, before the filtered level is set (R66). -/
def State.deskewed (s : State) (ch : Fin 8) (due : Nat) : State := (s.reachTime due).setDeskew ch none

theorem exec_deskewTimerExpiry_idle {ch : Fin 8} {s : State} (h : s.reg.timers[ch] = none) :
    exec (.deskewTimerExpiry ch) s = .next s := by
  show execDeskewTimerExpiry ch s = _
  rw [execDeskewTimerExpiry, h]

theorem exec_deskewTimerExpiry {ch : Fin 8} {due : Nat} {s : State} (h : s.reg.timers[ch] = some due) :
    exec (.deskewTimerExpiry ch) s = .next ((s.deskewed ch due).setFiltered ch (s.reg.raw.getLsbD ch.val)).settle := by
  show execDeskewTimerExpiry ch s = _
  rw [execDeskewTimerExpiry, h]
  rfl

/-- The expiry of a channel's timer, in terms of the level it sets (R66). -/
theorem exec_deskewTimerExpiry_filtered {ch : Fin 8} {due : Nat} {s : State} (h : s.reg.timers[ch] = some due) (hk : s.KnifeObeys) :
    Completes (.deskewTimerExpiry ch) s (Filtered (s.deskewed ch due) ch (s.reg.raw.getLsbD ch.val)) :=
  ⟨_, exec_deskewTimerExpiry h, setFiltered_settled (s := s.deskewed ch due) hk ch _⟩

/-- The station at a raw change with a deskew time of 0, before the filtered level is set (R66). -/
def State.passedOn (s : State) (ch : Fin 8) (level : Bool) : State := (s.setRaw ch level).setDeskew ch none

/-- A raw change with a deskew time of 0, in terms of the filtered level that follows at once (R66). -/
theorem exec_foldSensorChange_filtered {ch : Fin 8} {level : Bool} {s : State} (h : level ≠ s.reg.raw.getLsbD ch.val)
    (hl : level ≠ s.reg.filtered.getLsbD ch.val) (hd : s.sets.knife.deskew = 0) (hk : s.KnifeObeys) :
    Completes (.foldSensorChange ch level) s (Filtered (s.passedOn ch level) ch level) := by
  refine ⟨_, exec_foldSensorChange h, ?_⟩
  rw [(filterChange_cases (s.setRaw ch level) ch level).2.1 hl hd]
  exact setFiltered_settled (s := s.passedOn ch level) hk ch level

/-- A raw change back to the filtered level, or away from it with a deskew time above 0, in terms of the channel's timer (R66). -/
theorem exec_foldSensorChange_timed {ch : Fin 8} {level : Bool} {s : State} (h : level ≠ s.reg.raw.getLsbD ch.val) (hk : s.KnifeObeys)
    (hl : level = s.reg.filtered.getLsbD ch.val ∨ s.sets.knife.deskew ≠ 0) :
    Completes (.foldSensorChange ch level) s fun t =>
      t.reg = { s.reg with
          raw := setLevel s.reg.raw ch level
          timers := s.reg.timers.set ch
            (if level = s.reg.filtered.getLsbD ch.val then none
              else some (s.reg.timers[ch].getD (s.now + 100 * s.sets.knife.deskew))) }
        ∧ t.calm = s.calm ∧ t.still = { s.still with reg := t.reg } := by
  obtain ⟨hback, _, haway⟩ := filterChange_cases (s.setRaw ch level) ch level
  have hsettled := setDeskew_settled (s := s.setRaw ch level) hk ch
  refine ⟨_, exec_foldSensorChange h, ?_⟩
  by_cases hf : level = s.reg.filtered.getLsbD ch.val
  · obtain ⟨treg, tcalm, tstill⟩ := hsettled none
    rw [hback hf, if_pos hf, treg]
    exact ⟨rfl, tcalm, tstill⟩
  · obtain ⟨treg, tcalm, tstill⟩ := hsettled (some (s.reg.timers[ch].getD (s.now + 100 * s.sets.knife.deskew)))
    rw [haway hf (hl.resolve_left hf), if_neg hf]
    exact ⟨treg, tcalm, tstill.trans (by rw [← treg]; rfl)⟩

/-- Settles O40: what a raw change and an expiry make of the channel's timer and of its filtered level. -/
theorem foldSensorFilters : Obligations.FoldSensorFilters := by
  refine fun ch level s => ⟨exec_foldSensorChange_same, fun hraw hk => ?_, exec_deskewTimerExpiry_idle, fun due hdue hk => ?_⟩
  · by_cases hl : level = s.reg.filtered.getLsbD ch.val ∨ s.sets.knife.deskew ≠ 0
    · refine (exec_foldSensorChange_timed hraw hk hl).imp fun t ht => ?_
      obtain ⟨treg, tcalm, tstill⟩ := ht
      refine ⟨fun k => ?_, fun hb => ?_, fun ha _ => ?_, fun ha hd => ?_, tcalm, tstill⟩
      · rw [treg]
        exact setLevel_getLsbD _ _ _ _
      · rw [treg, if_pos hb]
      · rw [treg, if_neg ha]
      · exact absurd hd (hl.resolve_left ha)
    · obtain ⟨hf, hd⟩ := not_or.mp hl
      have hd := not_not.mp hd
      refine (exec_foldSensorChange_filtered hraw hf hd hk).imp fun t ht => ?_
      refine ⟨fun k => ?_, fun hb => absurd hb hf, fun _ h0 => absurd hd (Nat.ne_of_gt h0), fun _ _ => ⟨fun k => ?_, ht.timers⟩,
        ht.calm, ht.still⟩
      · rw [ht.raw]
        exact setLevel_getLsbD _ _ _ _
      · rw [ht.filtered]
        exact setLevel_getLsbD _ _ _ _
  · refine (exec_deskewTimerExpiry_filtered hdue hk).imp fun t ht => ?_
    have hframe := ht.undetected
    refine ⟨congrArg Still.now ht.still, ht.timers, fun k => ?_, fun hn => ?_, ht.calm, ?_⟩
    · rw [ht.filtered]
      exact setLevel_getLsbD _ _ _ _
    · rw [hframe fun c => ?_]
      · rfl
      · rcases hn with hn | hn
        · exact Bool.noConfusion (hn.symm.trans c.1.2)
        · exact Bool.noConfusion (hn.symm.trans c.1.1)
    · rw [show t.now = max s.now due from congrArg Still.now ht.still]
      exact ht.still

/-- Settles O41: at a rise the record and the expectation that takes it, on the expiry's path and on the path of a deskew time of 0. -/
theorem detectionCorrects : Obligations.DetectionCorrects := by
  refine ⟨fun ch due s hdue hrole hon hrun hk hlow => ?_, fun ch level s hraw hl hd hk => ?_, fun ch due s hdue hk hoff => ?_⟩
  · refine (exec_deskewTimerExpiry_filtered hdue hk).imp fun t ht hhigh => ?_
    obtain ⟨hcount, hpoints, htaken, houtside, hunexpected⟩ := ht.detected ⟨hlow, hhigh⟩ ⟨hrole, hon, hrun⟩
    refine ⟨hcount, hpoints, fun j he => ⟨htaken j he, fun hw => ?_⟩, fun he => ⟨?_, (hunexpected he).2⟩⟩
    · rw [houtside j he hw]
      rfl
    · rw [(hunexpected he).1]
      rfl
  · refine (exec_foldSensorChange_filtered hraw hl hd hk).imp fun t ht => ⟨fun hn => ?_, fun hrises htakes => ?_⟩
    · rw [ht.undetected hn]
      rfl
    · obtain ⟨hcount, hpoints, htaken, houtside, hunexpected⟩ := ht.detected hrises htakes
      refine ⟨hcount, hpoints, fun j he => ⟨htaken j he, fun hw => ?_⟩, fun he => ⟨?_, (hunexpected he).2⟩⟩
      · rw [houtside j he hw]
        rfl
      · rw [(hunexpected he).1]
        rfl
  · refine (exec_deskewTimerExpiry_filtered hdue hk).imp fun t ht => ?_
    rw [ht.undetected fun c => ?_]
    · rfl
    · obtain ⟨_, hrole, hon, hrun⟩ := c
      rcases hoff with h | h | h
      · exact h hrole
      · exact Bool.noConfusion (h.symm.trans hon)
      · exact hrun h

end Sys2Proof.Machine
end

section
namespace Sys2Proof.Machine

/-! # What a mark that enters the span queue or leaves it moves -/

/-- A splice that becomes known to the leader moves its planner alone (R55). -/
theorem spliceKnown_eq (s : State) (p : Pos) : s.spliceKnown p = { s with leader := (s.spliceKnown p).leader } := by
  unfold State.spliceKnown
  split
  · rfl
  · rfl
  · rfl
  · split
    · rfl
    · split <;> rfl
  · split <;> rfl

/-- A leader in OFF, PENDING or BRIDGE takes no notice of a splice (R55). -/
theorem spliceKnown_unmoved {s : State} (h : s.leader.state = .off ∨ s.leader.state = .pending ∨ s.leader.state = .bridge) (p : Pos) :
    s.spliceKnown p = s := by
  unfold State.spliceKnown
  rcases h with h | h | h <;> rw [h]

/-- In PANEL a splice whose guard overlaps the step in progress closes the panel (R55). -/
theorem spliceKnown_panel {s : State} {step : StepInfo} (h : s.leader.state = .panel) (hc : s.cad.cur = some step) (p : Pos) :
    (s.spliceKnown p).leader = if guardHit step.start step.pitch p s.sets.knife.g = true then
      { s.leader with state := .closing, target := s.pastGuard p, targetSet := true } else s.leader := by
  unfold State.spliceKnown
  rw [h, hc]
  simp only
  split <;> rfl

/-- In CLOSING the target moves to the later guard end (R55). -/
theorem spliceKnown_closing {s : State} (h : s.leader.state = .closing) (p : Pos) :
    (s.spliceKnown p).leader = if s.leader.targetSet = false ∨ beyond (s.pastGuard p) s.leader.target = true then
      { s.leader with target := s.pastGuard p, targetSet := true } else s.leader := by
  unfold State.spliceKnown
  rw [h]
  simp only
  split <;> rfl

/-- The upstream neighbour's count and the latch of K, which no mark on its way through the queues moves. -/
def State.upstreamView (s : State) : Pos × Bool × Nat × Byte × Bool :=
  (s.web.k, s.web.latched, s.web.latches, s.web.received, s.web.baseline)

theorem upstreamView_of_still {s t : State} (h : t.still = s.still) : t.upstreamView = s.upstreamView := by
  have e : ∀ u : State, u.upstreamView =
      (u.still.k, u.still.latched, u.still.latches, u.still.received, u.still.baseline) := fun _ => rfl
  rw [e t, e s, h]

/-- Marks on their way through the queues leave the upstream view, and a station in FAULT there. -/
def MarksPass (s t : State) : Prop := t.upstreamView = s.upstreamView ∧ Faulted s t

namespace MarksPass

theorem refl (s : State) : MarksPass s s := ⟨rfl, Faulted.of_eq rfl rfl rfl⟩

theorem trans {s t u : State} (h : MarksPass s t) (g : MarksPass t u) : MarksPass s u := ⟨g.1.trans h.1, h.2.trans g.2⟩

theorem raiseFault (s : State) (f : StationFault) : MarksPass s (s.raiseFault f) :=
  ⟨upstreamView_of_still (raiseFault_still s f), Faulted.raiseFault s f⟩

theorem spliceKnown (s : State) (p : Pos) : MarksPass s (s.spliceKnown p) := by
  rw [spliceKnown_eq]
  exact ⟨rfl, Faulted.of_eq rfl rfl rfl⟩

theorem reportCrossing (s : State) (m : Mark) : MarksPass s (s.reportCrossing m) := by
  rw [reportCrossing_eq]
  exact ⟨rfl, Faulted.of_eq rfl rfl rfl⟩

theorem crossOne (s : State) (e : BayEntry) : MarksPass s (s.crossOne e).1 := by
  have report := reportCrossing s e.mark
  unfold State.crossOne
  split
  · exact ⟨rfl, Faulted.of_eq rfl rfl rfl⟩
  · simp only
    split
    · exact report.trans ⟨upstreamView_of_still (announceCrossed_still _ _ _), Faulted.announce _ _⟩
    · exact report

theorem crossFrom (es : List BayEntry) : ∀ (kept : List BayEntry) (s : State), MarksPass s (s.crossFrom kept es) := by
  induction es with
  | nil => exact fun kept s => ⟨rfl, Faulted.of_eq rfl rfl rfl⟩
  | cons e es ih =>
    intro kept s
    have cross := crossOne s e
    unfold State.crossFrom
    split
    · exact ih _ s
    · split
      · split
        all_goals
          rename_i he
          rw [he] at cross
          exact cross.trans (ih _ _)
      · exact ⟨rfl, Faulted.of_eq rfl rfl rfl⟩

theorem enterBay (s : State) (m : Mark) : MarksPass s (s.enterBay m) := by
  unfold State.enterBay
  split
  · exact raiseFault s _
  · have placed : MarksPass s { s with web.bay := insertMark (fun e => e.mark.pos) { mark := m, awaiting := false } s.web.bay } :=
      ⟨rfl, Faulted.of_eq rfl rfl rfl⟩
    simp only
    refine MarksPass.trans (placed.trans ?_) (crossFrom _ _ _)
    split
    · exact spliceKnown _ _
    · exact refl _

theorem leaveSpanFrom (ms : List Mark) : ∀ s : State, MarksPass s (s.leaveSpanFrom ms) := by
  induction ms with
  | nil => exact fun s => ⟨rfl, Faulted.of_eq rfl rfl rfl⟩
  | cons m ms ih =>
    intro s
    have rest : ∀ l : List Mark, MarksPass s { s with web.span := l } := fun l => ⟨rfl, Faulted.of_eq rfl rfl rfl⟩
    unfold State.leaveSpanFrom
    split
    · exact ((rest ms).trans (enterBay _ _)).trans (ih _)
    · exact rest _

theorem leaveSpan (s : State) : MarksPass s s.leaveSpan := leaveSpanFrom _ s

theorem enterSpan (s : State) (m : Mark) : MarksPass s (s.enterSpan m) := by
  unfold State.enterSpan
  split
  · exact raiseFault s _
  · have placed : MarksPass s { s with web.span := insertMark Mark.pos m s.web.span } := ⟨rfl, Faulted.of_eq rfl rfl rfl⟩
    simp only
    refine MarksPass.trans (placed.trans ?_) (leaveSpan _)
    split
    · split
      · exact spliceKnown _ _
      · exact refl _
    · exact refl _

end MarksPass

theorem enterSpan_adopted (s : State) (m : Mark) : (s.enterSpan m).adopted = s.adopted := by
  unfold State.enterSpan
  split
  · exact adopted_of_still (raiseFault_still s _)
  · simp only
    refine (leaveSpan_adopted _).trans ?_
    split
    · split
      · exact spliceKnown_adopted _ _
      · rfl
    · rfl

/-! ## Insertion in position order and the test of the span queue's head (R82, R84) -/

/-- Insertion keeps the list in its order on both sides of the new entry, which comes behind the last one it is at or beyond (R82). -/
theorem insertMark_split {α : Type} (key : α → Pos) (x : α) (l : List α) : ∃ n < l.length + 1,
    insertMark key x l = l.take n ++ x :: l.drop n ∧ (∀ y ∈ l.drop n, atOrBeyond (key x) (key y) = false)
      ∧ ∀ y, (l.take n).getLast? = some y → atOrBeyond (key x) (key y) = true := by
  induction l with
  | nil => exact ⟨0, Nat.one_pos, rfl, fun _ hy => absurd hy List.not_mem_nil, fun _ hy => nomatch hy⟩
  | cons z l ih =>
    obtain ⟨n, hn, heq, hbehind, hbefore⟩ := ih
    by_cases h : (z :: l).any (fun y => atOrBeyond (key x) (key y)) = true
    · refine ⟨n + 1, Nat.succ_lt_succ hn, ?_, hbehind, fun y hy => ?_⟩
      · rw [insertMark, if_pos h, heq]
        rfl
      · cases htake : l.take n with
        | nil =>
          have hdrop : l.drop n = l := by
            have happend := List.take_append_drop n l
            rwa [htake, List.nil_append] at happend
          have hz : atOrBeyond (key x) (key z) = true := by
            rw [List.any_cons, Bool.or_eq_true] at h
            refine h.resolve_right fun hl => ?_
            obtain ⟨w, hw, hwx⟩ := List.any_eq_true.mp hl
            exact Bool.noConfusion (hwx.symm.trans (hbehind w (by rw [hdrop]; exact hw)))
          rw [List.take_succ_cons, htake] at hy
          exact Option.some.inj hy ▸ hz
        | cons w ws =>
          rw [List.take_succ_cons, htake, List.getLast?_cons_cons] at hy
          exact hbefore y (htake ▸ hy)
    · refine ⟨0, Nat.succ_pos _, ?_, fun y hy => ?_, fun _ hy => nomatch hy⟩
      · rw [insertMark, if_neg h]
        rfl
      · by_contra c
        exact h (List.any_eq_true.mpr ⟨y, hy, by simpa using c⟩)

/-- A span queue whose head is not due stays as it is (R84). -/
theorem leaveSpan_waits {s : State}
    (h : s.web.latched = true → ∀ m, s.web.span.head? = some m → atOrBeyond (s.web.i + s.web.k) m.pos = false) : s.leaveSpan = s := by
  cases hspan : s.web.span with
  | nil => exact leaveSpan_empty hspan
  | cons m ms =>
    rw [State.leaveSpan, hspan, State.leaveSpanFrom, if_neg]
    · rw [← hspan]
    · rintro ⟨hl, hm⟩
      exact Bool.noConfusion (hm.symm.trans (h hl m (by rw [hspan]; rfl)))

/-- A mark that finds room in the span queue, where none is due, is inserted and nothing else of the web moves (R82, R83). -/
theorem enterSpan_inserts {s : State} {m : Mark} (hroom : s.web.span.length < 16)
    (h : s.web.latched = true → ∀ y ∈ m :: s.web.span, atOrBeyond (s.web.i + s.web.k) y.pos = false) :
    (s.enterSpan m).web = { s.web with span := insertMark Mark.pos m s.web.span } := by
  have waits : ∀ u : State, u.web = { s.web with span := insertMark Mark.pos m s.web.span } →
      u.leaveSpan.web = { s.web with span := insertMark Mark.pos m s.web.span } := fun u hu => by
    rw [leaveSpan_waits, hu]
    rw [hu]
    refine fun hl y hy => h hl y ?_
    obtain ⟨n, _, hsplit, _⟩ := insertMark_split Mark.pos m s.web.span
    have hy' : y ∈ insertMark Mark.pos m s.web.span := List.mem_of_head? hy
    rw [hsplit, List.mem_append, List.mem_cons] at hy'
    rcases hy' with hy' | rfl | hy'
    · exact List.mem_cons_of_mem _ (List.mem_of_mem_take hy')
    · exact List.mem_cons_self
    · exact List.mem_cons_of_mem _ (List.mem_of_mem_drop hy')
  rw [State.enterSpan, if_neg (Nat.not_le_of_lt hroom)]
  simp only
  apply waits
  split
  · split
    · rw [spliceKnown_eq]
    · rfl
  · rfl

/-! # A MARK of the upstream neighbour -/

/-- The station has entered FAULT with this fault, and its latch is set (R189). -/
def FaultedBy (f : StationFault) (t : State) : Prop :=
  t.port.state = .fault ∧ t.rate.latch = true ∧ t.port.fault.map FaultRecord.first = some f

namespace FaultedBy

theorem raised {s : State} (h : s.port.state = .joining ∨ s.port.state = .active) (f : StationFault) : FaultedBy f (s.raiseFault f) := by
  obtain ⟨hstate, hrec, hlatch, _⟩ := raiseFault_entry s f h
  exact ⟨hstate, hlatch, by rw [hrec]; rfl⟩

theorem record_isSome {f : StationFault} {s : State} (h : FaultedBy f s) : s.port.fault.isSome = true := by
  obtain ⟨_, _, hfirst⟩ := h
  cases hr : s.port.fault with
  | none => rw [hr] at hfirst; exact nomatch hfirst
  | some r => rfl

theorem kept {f : StationFault} {s t : State} (h : FaultedBy f s) (g : Faulted s t) : FaultedBy f t := by
  have hsome := h.record_isSome
  obtain ⟨hstate, hlatch, hfirst⟩ := h
  obtain ⟨tstate, trate, _, tfirst⟩ := g hstate hsome
  exact ⟨tstate, by rw [trate]; exact hlatch, tfirst.trans hfirst⟩

theorem settled {f : StationFault} {s : State} (h : FaultedBy f s) : FaultedBy f s.settle := by
  have hsome := h.record_isSome
  obtain ⟨hstate, hlatch, hfirst⟩ := h
  obtain ⟨tstate, tlatch, _, _, tfirst⟩ := settle_faulted hstate hsome
  exact ⟨tstate, tlatch.trans hlatch, tfirst.trans hfirst⟩

end FaultedBy

/-- The count of the upstream neighbour is taken, and nothing else of the web moves (R91 to R93). -/
theorem checkCount_web (s : State) (expected count : Byte) (id : StationId) :
    (s.checkCount expected count id).web = { s.web with received := count, baseline := true } := by
  unfold State.checkCount
  simp only
  split
  · rw [(raiseFault_web s _).1]
  · rfl

/-- A first count, or the one expected, raises nothing (R91). -/
theorem checkCount_expected {s : State} {expected count : Byte} (h : s.web.baseline = false ∨ count = expected) (id : StationId) :
    s.checkCount expected count id = { s with web.received := count, web.baseline := true } := by
  rw [State.checkCount, if_neg]
  rintro ⟨hb, hc⟩
  exact h.elim (fun c => Bool.noConfusion (c.symm.trans hb)) hc

/-- Another count than the one expected faults a station in JOINING or ACTIVE (R92, R93). -/
theorem checkCount_gap {s : State} {expected count : Byte} (hb : s.web.baseline = true) (hc : count ≠ expected)
    (hs : s.port.state = .joining ∨ s.port.state = .active) (id : StationId) :
    FaultedBy (.markGap expected count id) (s.checkCount expected count id) := by
  rw [State.checkCount, if_pos ⟨hb, hc⟩]
  exact FaultedBy.raised hs (.markGap expected count id)

/-- A received mark of no kind of the part, or without the field its kind carries, is no mark (R198). -/
theorem markOf_none {p : MarkPayload} (h : p.kind = 0 ∨ 5 < p.kind.toNat ∨ 2 ≤ p.kind.toNat ∧ p.kind.toNat ≤ 4 ∧ p.value = 0) :
    markOf p = none := by
  have bare : ∀ k : BitVec 3, p.kind = k → k = 0 ∨ 5 < k.toNat ∨ 2 ≤ k.toNat ∧ k.toNat ≤ 4 ∧ p.value = 0 := fun k hk => hk ▸ h
  have h1 : p.kind ≠ 1 := fun c => by simpa using bare 1 c
  have h5 : p.kind ≠ 5 := fun c => by simpa using bare 5 c
  have hbody : markBodyOf p = none := by
    by_cases hv : p.value = 0
    · simp only [markBodyOf, if_neg h1, if_neg h5, if_pos hv, ite_self]
    · have h2 : p.kind ≠ 2 := fun c => hv (by simpa using bare 2 c)
      have h3 : p.kind ≠ 3 := fun c => hv (by simpa using bare 3 c)
      have h4 : p.kind ≠ 4 := fun c => hv (by simpa using bare 4 c)
      simp only [markBodyOf, if_neg h1, if_neg h2, if_neg h3, if_neg h4, if_neg h5]
  rw [markOf, hbody]
  rfl

/-- A payload carries a mark of the part with this body (R198). -/
def CarriesMark (p : MarkPayload) (body : MarkBody) : Prop :=
  p.kind = 1 ∧ body = .splice p.roll ∨ p.kind = 2 ∧ p.value ≠ 0 ∧ body = .panel p.value
    ∨ p.kind = 3 ∧ p.value ≠ 0 ∧ body = .abort p.value ∨ p.kind = 4 ∧ p.value ≠ 0 ∧ body = .underset p.value
    ∨ p.kind = 5 ∧ body = .missfold

/-- The mark that a payload carries, at its upstream position. -/
def carriedMark (p : MarkPayload) (body : MarkBody) : Mark :=
  { body := body, origin := Fin.ofNat 16 p.origin.toNat, pos := p.position }

theorem markOf_some {p : MarkPayload} {body : MarkBody} (h : CarriesMark p body) : markOf p = some (carriedMark p body) ∧ body.code = p.kind := by
  have hbody : markBodyOf p = some body ∧ body.code = p.kind := by
    rcases h with ⟨hk, rfl⟩ | ⟨hk, hv, rfl⟩ | ⟨hk, hv, rfl⟩ | ⟨hk, hv, rfl⟩ | ⟨hk, rfl⟩
    · exact ⟨by simp [markBodyOf, hk], hk.symm⟩
    · exact ⟨by simpa [markBodyOf, hk] using hv, hk.symm⟩
    · exact ⟨by simpa [markBodyOf, hk] using hv, hk.symm⟩
    · exact ⟨by simpa [markBodyOf, hk] using hv, hk.symm⟩
    · exact ⟨by simp [markBodyOf, hk], hk.symm⟩
  rw [markOf, hbody.1]
  exact ⟨rfl, hbody.2⟩

/-- The station at a peer's MARK, before the settling (R173). -/
def State.markedBy (s : State) (id : StationId) (p : MarkPayload) : State :=
  let t := s.enterPeer id fun r => r.marked (s.isNeighbour id) p.count
  if t.upstream = some id then t.upstreamMark id p else t

theorem exec_markFrame {s : State} {id : StationId} {p : MarkPayload} (hm : s.link.mode = .on) (hn : id.val < s.sets.line.n)
    (ho : id ≠ s.ownId) : exec (.markFrame id p) s = .next (s.markedBy id p).settle :=
  congrArg Host.Outcome.next (receive_valid hm hn ho 5 fun t => t.takeMark id p)

theorem upstreamMark_adopted (s : State) (id : StationId) (p : MarkPayload) : (s.upstreamMark id p).adopted = s.adopted := by
  have hcount := checkCount_adopted s (s.web.received + 1) p.count id
  unfold State.upstreamMark
  simp only
  split
  · exact hcount
  · exact (enterSpan_adopted _ _).trans hcount

/-- A MARK of the upstream neighbour gives its count, whatever becomes of the mark (R91, R92). -/
theorem upstreamMark_counts (s : State) (id : StationId) (p : MarkPayload) :
    (s.upstreamMark id p).web.received = p.count ∧ (s.upstreamMark id p).web.baseline = true
      ∧ Faulted (s.checkCount (s.web.received + 1) p.count id) (s.upstreamMark id p) := by
  have hweb := checkCount_web s (s.web.received + 1) p.count id
  unfold State.upstreamMark
  generalize s.checkCount (s.web.received + 1) p.count id = t at hweb ⊢
  simp only
  split
  · rw [hweb]
    exact ⟨rfl, rfl, Faulted.of_eq rfl rfl rfl⟩
  · rename_i m _
    obtain ⟨hview, hfault⟩ := MarksPass.enterSpan t m
    have hreceived : (t.enterSpan m).web.received = t.web.received := congrArg (fun v => v.2.2.2.1) hview
    have hbaseline : (t.enterSpan m).web.baseline = t.web.baseline := congrArg (fun v => v.2.2.2.2) hview
    rw [hreceived, hbaseline, hweb]
    exact ⟨rfl, rfl, hfault⟩

/-- What is no mark is counted, and the span queue stays (R198). -/
theorem upstreamMark_discards {s : State} {p : MarkPayload} (h : markOf p = none) (id : StationId) :
    (s.upstreamMark id p).web.discarded = satInc s.web.discarded ∧ (s.upstreamMark id p).web.span = s.web.span := by
  have hweb := checkCount_web s (s.web.received + 1) p.count id
  rw [State.upstreamMark, h]
  simp only
  rw [hweb]
  exact ⟨rfl, rfl⟩

/-- A mark that finds room, where none is due, is inserted behind the marks at or before its position (R82, R83). -/
theorem upstreamMark_inserts {s : State} {p : MarkPayload} {m : Mark} (h : markOf p = some m) (hroom : s.web.span.length < 16)
    (hdue : s.web.latched = true → ∀ y ∈ m :: s.web.span, atOrBeyond (s.web.i + s.web.k) y.pos = false) (id : StationId) :
    (s.upstreamMark id p).web.discarded = s.web.discarded
      ∧ (s.upstreamMark id p).web.span = insertMark Mark.pos m s.web.span := by
  have hweb := checkCount_web s (s.web.received + 1) p.count id
  rw [State.upstreamMark, h]
  simp only
  rw [enterSpan_inserts (by rw [hweb]; exact hroom) (by rw [hweb]; exact hdue), hweb]
  exact ⟨rfl, rfl⟩

/-- A mark into a full span queue is dropped with QUEUE_OVERFLOW (R82). -/
theorem upstreamMark_drops {s : State} {p : MarkPayload} {m : Mark} (h : markOf p = some m) (hfull : 16 ≤ s.web.span.length)
    (id : StationId) :
    (s.upstreamMark id p).web.discarded = s.web.discarded ∧ (s.upstreamMark id p).web.span = s.web.span
      ∧ (s.web.baseline = false ∨ p.count = s.web.received + 1 → s.port.state = .joining ∨ s.port.state = .active →
          FaultedBy (.queueOverflow .span m.body.code m.origin) (s.upstreamMark id p)) := by
  have hweb := checkCount_web s (s.web.received + 1) p.count id
  have hdrop : s.upstreamMark id p =
      (s.checkCount (s.web.received + 1) p.count id).raiseFault (.queueOverflow .span m.body.code m.origin) := by
    rw [State.upstreamMark, h]
    simp only
    rw [State.enterSpan, if_pos (by rw [hweb]; exact hfull)]
  rw [hdrop, (raiseFault_web _ _).1, hweb]
  refine ⟨rfl, rfl, fun hcount hstate => ?_⟩
  rw [checkCount_expected hcount]
  refine FaultedBy.raised ?_ _
  exact hstate

/-- The sender as it stands in its record after a MARK (R174, R175). -/
def MarkHeard (s : State) (id : StationId) (p : MarkPayload) (t : State) : Prop :=
  t.peer id = ((s.peer id).heard s.now).marked (s.isNeighbour id) p.count ∧ ∀ y : StationId, y ≠ id → t.peer y = s.peer y

theorem markHeard_settled (s : State) (id : StationId) (p : MarkPayload) : MarkHeard s id p (s.markedBy id p).settle := by
  have hentered := enterPeer_peer s id
  have hmarked : (s.markedBy id p).peers = (s.enterPeer id fun r => r.marked (s.isNeighbour id) p.count).peers := by
    unfold State.markedBy
    simp only
    split
    · exact congrArg (fun x : Sets × Vector Peer 16 × Nat => x.2.1) (upstreamMark_adopted _ id p)
    · rfl
  have hsettled := (peers_of_still (settle_still (s.markedBy id p))).trans hmarked
  generalize (s.markedBy id p).settle = t at hsettled ⊢
  have hpeer : ∀ y, t.peer y = if y = id then ((s.peer id).heard s.now).marked (s.isNeighbour id) p.count else s.peer y := fun y =>
    (congrArg (fun v : Vector Peer 16 => v[y]) hsettled).trans (hentered y _)
  exact ⟨by rw [hpeer, if_pos rfl], fun y hy => by rw [hpeer, if_neg hy]⟩

/-- The record that a MARK leaves: LIVE, its frame counted, and the count of a neighbour (R174, R175). -/
theorem MarkHeard.record {s t : State} {id : StationId} {p : MarkPayload} (h : MarkHeard s id p t) (hn : id.val < s.sets.line.n) :
    (t.peer id).presence = .live ∧ (t.peer id).staleDue = some (s.now + 50000) ∧ (t.peer id).frames = satInc (s.peer id).frames
      ∧ (id.val + 1 = s.ownId.val ∨ id.val = s.ownId.val + 1 → (t.peer id).sent = p.count) := by
  have hmarked : ∀ (r : Peer) (b : Bool), (r.marked b p.count).presence = r.presence ∧ (r.marked b p.count).staleDue = r.staleDue
      ∧ (r.marked b p.count).frames = r.frames := fun r b => by
    unfold Peer.marked
    split <;> exact ⟨rfl, rfl, rfl⟩
  obtain ⟨hpresence, hstale, hframes⟩ := hmarked ((s.peer id).heard s.now) (s.isNeighbour id)
  rw [h.1, hpresence, hstale, hframes]
  refine ⟨rfl, rfl, rfl, fun hbeside => ?_⟩
  have hneighbour : s.isNeighbour id = true := by
    rw [State.isNeighbour, Bool.or_eq_true, beq_iff_eq, beq_iff_eq, upstream_iff, downstream_iff]
    exact hbeside.imp_right fun h => ⟨by omega, by omega⟩
  rw [hneighbour]
  rfl

/-- A MARK of another peer than the upstream neighbour does not touch the web (R83). -/
theorem markedBy_elsewhere {s : State} {id : StationId} (h : id.val + 1 ≠ s.ownId.val) (hk : s.KnifeObeys) (p : MarkPayload) :
    (s.markedBy id p).settle.web = s.web := by
  obtain ⟨_, ecalm, _, _, erate⟩ := enterPeer_keeps s id fun r => r.marked (s.isNeighbour id) p.count
  obtain ⟨_, eweb, _, esets⟩ := enterPeer_rest s id fun r => r.marked (s.isNeighbour id) p.count
  unfold State.markedBy
  generalize (s.enterPeer id fun r => r.marked (s.isNeighbour id) p.count) = t at ecalm erate eweb esets ⊢
  have hup : ¬t.upstream = some id := by
    rw [upstream_iff, State.ownId, esets, ← State.ownId]
    exact h
  have hknife : t.knife = s.knife := congrArg Calm.knife ecalm
  have hobeys : t.KnifeObeys := by
    unfold State.KnifeObeys
    rw [hknife, erate]
    exact hk
  simp only
  rw [if_neg hup]
  have tcalm := settle_calm_of_obeys hobeys
  generalize t.settle = u at tcalm ⊢
  exact (congrArg Calm.web tcalm).trans eweb

/-- A MARK of the upstream neighbour is taken on the station as it was, but for the sender's record (R83). -/
theorem markedBy_upstream {s : State} {id : StationId} (h : id.val + 1 = s.ownId.val) (p : MarkPayload) :
    ∃ t : State, s.markedBy id p = t.upstreamMark id p ∧ t.web = s.web ∧ t.port.state = s.port.state := by
  obtain ⟨estate, eweb, _, esets⟩ := enterPeer_rest s id fun r => r.marked (s.isNeighbour id) p.count
  refine ⟨_, if_pos ?_, eweb, estate⟩
  rw [upstream_iff, State.ownId, esets, ← State.ownId]
  exact h

/-- What the settling leaves of the web's counts and of the span queue. -/
theorem settle_span (s : State) : s.settle.web.received = s.web.received ∧ s.settle.web.baseline = s.web.baseline
    ∧ s.settle.web.discarded = s.web.discarded ∧ s.settle.web.span = s.web.span := by
  have h := settle_still s
  generalize s.settle = t at h ⊢
  exact ⟨congrArg Still.received h, congrArg Still.baseline h, congrArg Still.discarded h, congrArg Still.span h⟩

/-! # A mark that leaves the span queue -/

/-- What a mark that enters the bay queue tells the leader's planner (R51, log 24). -/
def State.told (s : State) (m : Mark) : State :=
  match m.body with
  | .splice _ => s.spliceKnown m.pos
  | _ => s

theorem told_eq (s : State) (m : Mark) : s.told m = { s with leader := (s.told m).leader } := by
  unfold State.told
  split
  · exact spliceKnown_eq s m.pos
  · rfl

theorem told_splice {s : State} {m : Mark} {roll : Byte} (h : m.body = .splice roll) : s.told m = s.spliceKnown m.pos := by
  rw [State.told, h]

theorem told_other {s : State} {m : Mark} (h : m.body.code ≠ 1) : s.told m = s := by
  unfold State.told
  split
  · rename_i hb
    rw [hb] at h
    exact absurd rfl h
  · rfl

/-- A mark that enters an empty bay queue at I stays there, the knife line being ahead of it (R84, R85). -/
theorem enterBay_alone {s : State} {m : Mark} (hb : s.web.bay = []) (hm : m.pos = s.web.i) (h0 : 0 < s.sets.feed.a)
    (h1 : s.sets.feed.a < 2147483648) : s.enterBay m = ({ s with web.bay := [{ mark := m, awaiting := false }] }).told m := by
  have hplaced : s.enterBay m = (({ s with web.bay := [{ mark := m, awaiting := false }] }).told m).crossings := by
    rw [State.enterBay, if_neg (by rw [hb]; decide), hb]
    rfl
  rw [hplaced, told_eq, State.crossings]
  show State.crossFrom _ [] [{ mark := m, awaiting := false }] = _
  rw [State.crossFrom, if_neg Bool.false_ne_true, if_neg]
  · rfl
  · show ¬atOrBeyond s.web.i (m.pos + toPos s.sets.feed.a) = true
    rw [hm, atOrBeyond_ahead s.web.i h0 h1]
    exact Bool.false_ne_true

/-- The head of the span queue as it leaves for the bay queue (R84). -/
def State.spanLeft (s : State) (m : Mark) (ms : List Mark) : State :=
  { s with web.span := ms, web.bay := [{ mark := { m with pos := s.web.i }, awaiting := false }] }

/-- The head of the span queue that I + K has just reached leaves for an empty bay queue, the next one not being due (R84). -/
theorem leaveSpan_head {s : State} {m : Mark} {ms : List Mark} (hs : s.web.span = m :: ms) (hl : s.web.latched = true)
    (hb : s.web.bay = []) (hm : m.pos = s.web.i + s.web.k)
    (hnext : ∀ x, ms.head? = some x → atOrBeyond m.pos x.pos = false) (h0 : 0 < s.sets.feed.a) (h1 : s.sets.feed.a < 2147483648) :
    s.leaveSpan = (s.spanLeft m ms).told { m with pos := s.web.i } := by
  have hpoint : m.pos - s.web.k = s.web.i := by rw [hm]; simp
  have hhead : s.leaveSpan = ((s.spanLeft m ms).told { m with pos := s.web.i }).leaveSpanFrom ms := by
    rw [State.leaveSpan, hs, State.leaveSpanFrom, if_pos ⟨hl, by rw [← hm]; exact atOrBeyond_self _⟩, hpoint,
      enterBay_alone (s := { s with web.span := ms }) hb rfl h0 h1]
    rfl
  have hspan : ((s.spanLeft m ms).told { m with pos := s.web.i }).web.span = ms := by rw [told_eq]; rfl
  have hwaits : ((s.spanLeft m ms).told { m with pos := s.web.i }).leaveSpan = (s.spanLeft m ms).told { m with pos := s.web.i } := by
    refine leaveSpan_waits fun _ x hx => ?_
    rw [hspan] at hx
    have hfuture := hnext x hx
    rw [hm] at hfuture
    rw [told_eq]
    exact hfuture
  rw [State.leaveSpan, hspan] at hwaits
  exact hhead.trans hwaits

/-- Where the bay queue is empty and no expectation is open, a feed pulse only tests the span queue. -/
theorem fed_nipEffects {s : State} (hb : s.web.bay = []) (he : s.reg.expect = none) (c : Cycle) :
    (s.fed c).nipEffects = (s.fed c).leaveSpan := by
  rw [State.nipEffects, deadlineTest_none (s := s.fed c) he, crossings_empty (s := s.fed c) hb]

/-- A feed pulse that does not bring I to the head of the span queue (R84). -/
theorem feedPulse_waits {s : State} {m : Mark} {ms : List Mark} (hs : s.web.span = m :: ms) (hb : s.web.bay = [])
    (he : s.reg.expect = none) (hstand : s.sets.line.standKind = .none) (hclear : s.rate.latch = false)
    (hm : atOrBeyond (s.web.i + 1 + s.web.k) m.pos = false) (c : Cycle) :
    (s.feedPulse c).settle.web.span = m :: ms ∧ (s.feedPulse c).settle.web.bay = [] ∧ (s.feedPulse c).settle.leader = s.leader := by
  have hwaits : (s.fed c).nipEffects = s.fed c := by
    rw [fed_nipEffects hb he]
    refine leaveSpan_waits fun _ x hx => ?_
    have hx' : s.web.span.head? = some x := hx
    rw [hs] at hx'
    exact Option.some.inj hx' ▸ hm
  obtain ⟨tweb, tleader, _⟩ := feedPulse_of_clear (c := c) hstand (by rw [hwaits]; exact hclear)
  rw [tweb, tleader, hwaits]
  exact ⟨hs, hb, rfl⟩

/-- A feed pulse that brings I to the head of the span queue: the mark stands in the bay queue at its web point, and the planner is told of
it (R51, R84). -/
theorem feedPulse_leaves {s : State} {m : Mark} {ms : List Mark} (hs : s.web.span = m :: ms) (hl : s.web.latched = true)
    (hb : s.web.bay = []) (he : s.reg.expect = none) (hstand : s.sets.line.standKind = .none) (hclear : s.rate.latch = false)
    (h0 : 0 < s.sets.feed.a) (h1 : s.sets.feed.a ≤ 200000) (hm : m.pos = s.web.i + 1 + s.web.k)
    (hnext : ∀ x, ms.head? = some x → atOrBeyond m.pos x.pos = false) (c : Cycle) :
    (s.feedPulse c).settle.web = ((s.fed c).spanLeft m ms).web
      ∧ (s.feedPulse c).settle.leader = (((s.fed c).spanLeft m ms).told { m with pos := s.web.i + 1 }).leader := by
  have hleaves : (s.fed c).nipEffects = ((s.fed c).spanLeft m ms).told { m with pos := s.web.i + 1 } := by
    rw [fed_nipEffects hb he]
    exact leaveSpan_head (s := s.fed c) hs hl hb hm hnext h0 (Nat.lt_of_le_of_lt h1 (by decide))
  have htold := told_eq ((s.fed c).spanLeft m ms) { m with pos := s.web.i + 1 }
  obtain ⟨tweb, tleader, _⟩ := feedPulse_of_clear (c := c) hstand (by rw [hleaves, htold]; exact hclear)
  rw [tweb, tleader, hleaves]
  exact ⟨by rw [htold], rfl⟩

/-- What a splice that enters the bay queue at a web point makes of a planner, with the step in progress and the guard (R51, R55, log 24). -/
theorem told_leader {s : State} {m : Mark} {roll : Byte} (h : m.body = .splice roll) :
    (s.leader.state = .panel → ∀ step, s.cad.cur = some step →
        (s.told m).leader = if guardHit step.start step.pitch m.pos s.sets.knife.g = true then
            { s.leader with state := .closing, target := m.pos + toPos s.sets.knife.g + 1, targetSet := true } else s.leader)
      ∧ (s.leader.state = .closing →
        (s.told m).leader = if s.leader.targetSet = false ∨ beyond (m.pos + toPos s.sets.knife.g + 1) s.leader.target = true then
            { s.leader with target := m.pos + toPos s.sets.knife.g + 1, targetSet := true } else s.leader)
      ∧ (s.leader.state = .off ∨ s.leader.state = .pending ∨ s.leader.state = .bridge → (s.told m).leader = s.leader) := by
  rw [told_splice h]
  exact ⟨fun hp _ hc => spliceKnown_panel hp hc _, fun hc => spliceKnown_closing hc _, fun hu => by rw [spliceKnown_unmoved hu]⟩

/-- Settles O57: the MARK's count, then what becomes of the mark it carries; and the head of the span queue at a feed pulse. -/
theorem spanQueueRuns : Obligations.SpanQueueRuns := by
  refine ⟨fun id p s hm hn ho => ⟨_, exec_markFrame hm hn ho, ?_⟩,
    fun m ms c s hs hl hb he hstand hk hc hp hh hr h0 h1 => ⟨fun hpos => ?_, fun hpos hnext => ?_⟩⟩
  · have hheard := markHeard_settled s id p
    obtain ⟨hpresence, hstale, hframes, hsent⟩ := hheard.record hn
    refine ⟨hpresence, hstale, hframes, hsent, hheard.2, fun hfar hk => markedBy_elsewhere hfar hk p, fun hid => ?_⟩
    obtain ⟨t, ht, hweb, hstate⟩ := markedBy_upstream hid p
    obtain ⟨sreceived, sbaseline, sdiscarded, sspan⟩ := settle_span (t.upstreamMark id p)
    obtain ⟨hreceived, hbaseline, hfaulted⟩ := upstreamMark_counts t id p
    rw [ht, sreceived, sbaseline, sdiscarded, sspan]
    refine ⟨hreceived, hbaseline, fun hb hc hs => ?_, fun hnone => ?_, fun body hbody hdue => ?_⟩
    · rw [← hweb] at hb hc ⊢
      rw [← hstate] at hs
      exact ((checkCount_gap hb hc hs id).kept hfaulted).settled
    · rw [← hweb]
      exact upstreamMark_discards (markOf_none hnone) id
    · obtain ⟨hmark, hcode⟩ := markOf_some hbody
      rw [← hweb] at hdue
      rw [← hweb, ← hstate]
      refine ⟨?_, fun hroom => ?_, fun hfull => ?_⟩
      · rcases Nat.lt_or_ge t.web.span.length 16 with hroom | hfull
        · exact (upstreamMark_inserts hmark hroom hdue id).1
        · exact (upstreamMark_drops hmark hfull id).1
      · rw [(upstreamMark_inserts hmark hroom hdue id).2]
        exact insertMark_split Mark.pos (carriedMark p body) t.web.span
      · obtain ⟨hdiscarded, hspan, hoverflow⟩ := upstreamMark_drops hmark hfull id
        rw [← hcode]
        exact ⟨hspan, fun hcount hs => (hoverflow hcount hs).settled⟩
  · refine ⟨_, exec_feedPulse hc hp hh hr, ?_⟩
    exact feedPulse_waits hs hb he hstand (latch_clear_of_feed hk hp hh) hpos c
  · refine ⟨_, exec_feedPulse hc hp hh hr, ?_⟩
    have hfuture : ∀ x, ms.head? = some x → atOrBeyond m.pos x.pos = false := fun x hx => by
      rw [hx] at hnext
      exact hnext
    obtain ⟨tweb, tleader⟩ := feedPulse_leaves hs hl hb he hstand (latch_clear_of_feed hk hp hh) h0 h1 hpos hfuture c
    dsimp only
    rw [tweb, tleader]
    refine ⟨rfl, rfl, rfl, fun _ roll hbody => ?_, fun hbody => ?_⟩
    · exact told_leader (s := (s.fed c).spanLeft m ms) (m := { m with pos := s.web.i + 1 }) hbody
    · rw [told_other (s := (s.fed c).spanLeft m ms) (m := { m with pos := s.web.i + 1 }) hbody]
      rfl

end Sys2Proof.Machine
end

section
namespace Sys2Proof.Machine

/-! # What verdicts and arming make of the stand -/

theorem otherSpindle_twice (id : SpindleId) : otherSpindle (otherSpindle id) = id := by cases id <;> rfl

theorem otherSpindle_ne (id : SpindleId) : otherSpindle id ≠ id := by cases id <;> exact fun c => SpindleId.noConfusion c

/-- A record replaced leaves the stand's hold and its count of transfers. -/
@[simp] theorem setSpindle_hold (t : Stand) (id : SpindleId) (x : Spindle) :
    (t.setSpindle id x).overfill = t.overfill ∧ (t.setSpindle id x).transfers = t.transfers := by
  cases id <;> exact ⟨rfl, rfl⟩

/-- The spindle found in a state is in it. -/
theorem inState_eq_some {t : Stand} {st : SpindleState} {id : SpindleId} (h : t.inState st = some id) : (t.spindle id).state = st := by
  unfold Stand.inState at h
  split at h
  · rename_i ha
    exact Option.some.inj h ▸ ha
  · split at h
    · rename_i hb
      exact Option.some.inj h ▸ hb
    · exact nomatch h

/-! ## Verdicts (R153, R154) -/

/-- The reasons a closed panel is judged by (R153). -/
def State.reasonsOf (s : State) (c : ClosedPanel) : Reasons := { c.reasons with underset := c.reasons.underset || s.rangeOverlaps c }

/-- The log entry of its verdict (R154). -/
def State.entryOf (s : State) (c : ClosedPanel) : LogEntry :=
  { number := c.number, roll := c.roll, reject := (s.reasonsOf c).any, reasons := s.reasonsOf c, length := (c.stop - c.start).toNat }

/-- A panel was counted on this spindle's roll, and the record still holds that roll (R153, logs 46 and 48). -/
def ClosedPanel.countedOn (c : ClosedPanel) (id : SpindleId) (x : Spindle) : Bool :=
  decide (c.spindle = some id ∧ c.roll = x.roll ∧ x.state ≠ .empty)

/-- From `s` to `t` these closed panels have got their verdicts, in this order, by the open range and the feed set of `s`. -/
structure Judged (s : State) (cs : List ClosedPanel) (t : State) : Prop where
  panel : t.stand.panel = s.stand.panel
  hold : t.stand.overfill = s.stand.overfill ∧ t.stand.transfers = s.stand.transfers
  log : s.stand.log.length + cs.length ≤ 32 → t.stand.log = s.stand.log ++ cs.map s.entryOf
  spindle : ∀ id : SpindleId, t.stand.spindle id =
    { s.stand.spindle id with
      good := (s.stand.spindle id).good
        + ((cs.filter fun c => c.countedOn id (s.stand.spindle id)).filter fun c => !(s.reasonsOf c).any).length
      reject := (s.stand.spindle id).reject
        + ((cs.filter fun c => c.countedOn id (s.stand.spindle id)).filter fun c => (s.reasonsOf c).any).length }
  flag : cs ≠ [] → t.port.ip.getLsbD 1 = true

theorem countVerdict_rest (t : Stand) (c : ClosedPanel) (rejected : Bool) :
    (t.countVerdict c rejected).panel = t.panel ∧ (t.countVerdict c rejected).overfill = t.overfill
      ∧ (t.countVerdict c rejected).transfers = t.transfers := by
  unfold Stand.countVerdict
  split
  · exact ⟨rfl, rfl, rfl⟩
  · simp only
    split
    · exact ⟨setSpindle_panel _ _ _, setSpindle_hold _ _ _⟩
    · exact ⟨rfl, rfl, rfl⟩

/-- A verdict counts on the roll the panel was counted on, while the record holds it (R153). -/
theorem countVerdict_spindle (t : Stand) (c : ClosedPanel) (rejected : Bool) (id : SpindleId) :
    (t.countVerdict c rejected).spindle id =
      if c.countedOn id (t.spindle id) = true then
        if rejected then { t.spindle id with reject := (t.spindle id).reject + 1 }
        else { t.spindle id with good := (t.spindle id).good + 1 }
      else t.spindle id := by
  unfold Stand.countVerdict ClosedPanel.countedOn
  cases hc : c.spindle with
  | none => rfl
  | some y =>
    simp only [decide_eq_true_eq, Option.some.injEq]
    by_cases hy : y = id
    · subst hy
      by_cases hx : (t.spindle y).state ≠ .empty ∧ (t.spindle y).roll = c.roll
      · have hcount : y = y ∧ c.roll = (t.spindle y).roll ∧ (t.spindle y).state ≠ .empty := ⟨rfl, hx.2.symm, hx.1⟩
        rw [if_pos hx, setSpindle_spindle, if_pos rfl, if_pos hcount]
      · rw [if_neg hx, if_neg fun h => hx ⟨h.2.2, h.2.1.symm⟩]
    · have hcount : ¬(y = id ∧ c.roll = (t.spindle id).roll ∧ (t.spindle id).state ≠ .empty) := fun h => hy h.1
      rw [if_neg hcount]
      split
      · rw [setSpindle_spindle, if_neg fun h => hy h.symm]
      · rfl

/-- One entry written to the panel log moves the log alone, and signals (R154). -/
theorem logPanel_fields (s : State) (e : LogEntry) :
    (s.logPanel e).stand.panel = s.stand.panel
      ∧ ((s.logPanel e).stand.overfill = s.stand.overfill ∧ (s.logPanel e).stand.transfers = s.stand.transfers)
      ∧ (∀ id, (s.logPanel e).stand.spindle id = s.stand.spindle id)
      ∧ (s.stand.log.length < 32 → (s.logPanel e).stand.log = s.stand.log ++ [e])
      ∧ (s.logPanel e).port.ip.getLsbD 1 = true := by
  have flag : ∀ t : State, (t.signal .panelLog).port.ip.getLsbD 1 = true := fun t => by simp [State.signal, Source.flag, Source.bit]
  unfold State.logPanel
  refine ⟨?_, ?_, fun id => ?_, fun h => ?_, flag _⟩
  · split <;> rfl
  · split <;> exact ⟨rfl, rfl⟩
  · split <;> cases id <;> rfl
  · rw [if_neg (Nat.not_le_of_lt h)]
    rfl

theorem judge_judged (s : State) (c : ClosedPanel) : Judged s [c] (s.judge c) := by
  obtain ⟨hpanel, hhold, hspindle, hlog, hflag⟩ :=
    logPanel_fields { s with stand := s.stand.countVerdict c (s.reasonsOf c).any } (s.entryOf c)
  obtain ⟨gpanel, ghold, gtransfers⟩ := countVerdict_rest s.stand c (s.reasonsOf c).any
  have glog := (countVerdict_lists s.stand c (s.reasonsOf c).any).2
  refine ⟨hpanel.trans gpanel, ⟨hhold.1.trans ghold, hhold.2.trans gtransfers⟩, fun hroom => ?_, fun id => ?_, fun _ => hflag⟩
  · have hlength : (s.stand.countVerdict c (s.reasonsOf c).any).log.length < 32 := by
      rw [glog]
      exact hroom
    exact (hlog hlength).trans (by rw [glog]; rfl)
  · refine (hspindle id).trans ((countVerdict_spindle s.stand c (s.reasonsOf c).any id).trans ?_)
    cases hcount : c.countedOn id (s.stand.spindle id) <;> cases hany : (s.reasonsOf c).any <;> simp [hcount, hany]

/-- A verdict given leaves what the next one is judged by. -/
theorem judge_reads (s : State) (c : ClosedPanel) :
    (s.judge c).reasonsOf = s.reasonsOf ∧ (s.judge c).entryOf = s.entryOf := by
  have hfeed := sets_of_still (judge_still s c)
  have hrange : (s.judge c).dwell = s.dwell := congrArg Calm.dwell (calm_of_kept (judge_kept s c))
  have hreasons : (s.judge c).reasonsOf = s.reasonsOf := by
    funext d
    simp only [State.reasonsOf, State.rangeOverlaps, hfeed, hrange]
  refine ⟨hreasons, ?_⟩
  funext d
  simp only [State.entryOf, hreasons]

theorem foldl_judged (cs : List ClosedPanel) : ∀ s : State, Judged s cs (cs.foldl State.judge s) := by
  induction cs with
  | nil => exact fun s => ⟨rfl, ⟨rfl, rfl⟩, fun _ => (List.append_nil _).symm, fun _ => rfl, fun h => absurd rfl h⟩
  | cons c cs ih =>
    intro s
    have first := judge_judged s c
    have rest := ih (s.judge c)
    obtain ⟨hreasons, hentry⟩ := judge_reads s c
    have hrises : Rises (s.judge c) (cs.foldl State.judge (s.judge c)) := Rises.judgeEach cs [] (s.judge c)
    rw [List.foldl_cons]
    refine ⟨rest.panel.trans first.panel, ⟨rest.hold.1.trans first.hold.1, rest.hold.2.trans first.hold.2⟩, fun hroom => ?_,
      fun id => ?_, fun _ => hrises.2.2 1 (first.flag (List.cons_ne_nil _ _))⟩
    · rw [List.length_cons] at hroom
      have hone := first.log (by rw [List.length_singleton]; omega)
      rw [rest.log (by rw [hone, List.length_append, List.length_map, List.length_singleton]; omega), hone, hentry]
      simp
    · have hheld : ∀ d : ClosedPanel, d.countedOn id ((s.judge c).stand.spindle id) = d.countedOn id (s.stand.spindle id) := fun d => by
        rw [first.spindle id]
        rfl
      rw [rest.spindle id, hreasons]
      simp only [hheld]
      rw [first.spindle id]
      cases hcount : c.countedOn id (s.stand.spindle id) <;> cases hany : (s.reasonsOf c).any <;> simp [hcount, hany] <;> omega

/-- The panels that are due get their verdicts, and the others wait on (R153, log 47). -/
theorem judgeDue_judged (s : State) : Judged s (s.stand.verdicts.filter s.verdictDue) s.judgeDue
    ∧ s.judgeDue.stand.verdicts = s.stand.verdicts.filter fun c => !s.verdictDue c := by
  obtain ⟨hpanel, hhold, hlog, hspindle, hflag⟩ := foldl_judged (s.stand.verdicts.filter s.verdictDue) s
  refine ⟨⟨hpanel, hhold, hlog, fun id => ?_, hflag⟩, rfl⟩
  rw [← hspindle id]
  cases id <;> rfl

/-! ## Arming and the rest of the settling -/

/-- A stand but for the states of its spindles and the arming timer. -/
def Stand.unarmed (t : Stand) : Stand := { t with a.state := .empty, b.state := .empty, armDue := none }

theorem unarmed_spindle {t u : Stand} (h : t.unarmed = u.unarmed) (id : SpindleId) :
    { t.spindle id with state := .empty } = { u.spindle id with state := .empty } := by
  cases id
  · exact congrArg Stand.a h
  · exact congrArg Stand.b h

theorem joinTest_stand (s : State) : s.joinTest.stand = s.stand := by
  unfold State.joinTest
  split <;> rfl

theorem zoneSettle_stand (s : State) : s.zoneSettle.limits.stand = s.stand := by
  have arbitrated : ∀ t : State, t.arbitrate.stand = t.stand := fun t => by
    unfold State.arbitrate
    split
    · rfl
    · split <;> rfl
  have entered : ∀ t : State, t.keepWarmEntry.stand = t.stand := fun t => by
    unfold State.keepWarmEntry
    split <;> rfl
  exact (entered _).trans (arbitrated _)

/-- Arming for a pending transfer moves the state of a spindle and the arming timer alone (R148). -/
theorem transferArm_unarmed (s : State) : s.transferArm.stand.unarmed = s.stand.unarmed := by
  unfold State.transferArm
  split
  · split
    · rfl
    · rename_i w _
      split
      · cases w <;> rfl
      · rfl
  · rfl

/-- Without an overfill hold nothing is cut over at rest (R150). -/
theorem cutAtRest_unheld {s : State} (h : s.stand.overfill = false) : s.cutAtRest = s := by
  have hcut : s.restCut = none := if_neg fun c => Bool.noConfusion (h.symm.trans c.2.1)
  rw [State.cutAtRest, hcut]

/-- Without an overfill hold the consequences of a step give the verdicts due, and only arm beside (R148, R153). -/
theorem consequences_unarmed {s : State} (h : s.stand.overfill = false) : s.consequences.stand.unarmed = s.judgeDue.stand.unarmed := by
  have hheld : s.judgeDue.joinTest.stand.overfill = false := by
    rw [joinTest_stand]
    exact (judgeDue_judged s).1.hold.1.trans h
  rw [State.consequences, zoneSettle_stand, cutAtRest_unheld hheld, transferArm_unarmed, joinTest_stand]

end Sys2Proof.Machine
end

section
namespace Sys2Proof.Machine

/-! # A rewind's accounting at a continuous pulse -/

/-- Giving the verdicts due a second time gives none (R153). -/
theorem judgeDue_judgeDue (s : State) : s.judgeDue.judgeDue = s.judgeDue := by
  have hverdicts := (judgeDue_judged s).2
  have hwait : s.judgeDue.verdictDue = s.verdictDue := by
    have hsets := sets_of_still (judgeDue_still s)
    have hweb : s.judgeDue.web = s.web := congrArg Calm.web (calm_of_kept (judgeDue_kept s))
    funext c
    simp only [State.verdictDue, State.verdictWait, hsets, hweb]
  generalize s.judgeDue = t at hverdicts hwait ⊢
  have hdue : t.stand.verdicts.filter t.verdictDue = [] := by simp [hverdicts, hwait]
  have hrest : (t.stand.verdicts.filter fun c => !t.verdictDue c) = t.stand.verdicts := by simp [hverdicts, hwait]
  show t.judgeEach (t.stand.verdicts.filter t.verdictDue) (t.stand.verdicts.filter fun c => !t.verdictDue c) = t
  rw [hdue, hrest]
  rfl

/-- What a settling leaves of a stand without an overfill hold where the knife has obeyed, and of the signal of the panel log (R148, R153). -/
theorem settle_unheld {s : State} (hk : s.KnifeObeys) (h : s.stand.overfill = false) :
    s.settle.web = s.web ∧ s.settle.stand.unarmed = s.judgeDue.stand.unarmed
      ∧ (s.judgeDue.port.ip.getLsbD 1 = true → s.settle.port.ip.getLsbD 1 = true) := by
  refine ⟨congrArg Calm.web (settle_calm_of_obeys hk), ?_, fun hip => ?_⟩
  · rw [settle_of_obeys hk]
    exact consequences_unarmed h
  · have htwice : s.judgeDue.consequences = s.consequences := by
      rw [State.consequences, State.consequences, judgeDue_judgeDue]
    rw [settle_of_obeys hk, ← htwice]
    exact (Rises.consequences s.judgeDue).2.2 1 hip

/-! ## The pulse before its accounting -/

/-- Winding moves the wound lengths alone (R147). -/
theorem wind_wound (s : State) (n : Nat) :
    ∃ x y, s.wind n = { s with stand := { s.stand with a := { s.stand.a with wound := x }, b := { s.stand.b with wound := y } } } := by
  unfold State.wind
  split
  · rename_i id _ _
    cases id
    · exact ⟨_, s.stand.b.wound, rfl⟩
    · exact ⟨s.stand.a.wound, _, rfl⟩
  · exact ⟨s.stand.a.wound, s.stand.b.wound, rfl⟩

theorem wind_winding {s : State} {w : SpindleId} (hkind : s.sets.line.standKind = .rewind) (hw : s.stand.inState .winding = some w) (n : Nat) :
    (s.wind n).stand.spindle w = { s.stand.spindle w with wound := satAdd32 (s.stand.spindle w).wound n } := by
  rw [State.wind, hkind, hw]
  exact (setSpindle_spindle _ _ _ _).trans (if_pos rfl)

/-- A continuous run with a pulse counted, I and O advanced and the winding roll grown, before its accounting (R21, R45, R147). -/
def State.rolled (s : State) : State := s.flowed.wind 1

theorem rolled_wound (s : State) :
    ∃ x y, s.rolled = { s.flowed with
      stand := { s.stand with a := { s.stand.a with wound := x }, b := { s.stand.b with wound := y } } } := wind_wound s.flowed 1

/-- What a continuous pulse does before it settles, at a station that is no unwind. -/
def State.pulsed (s : State) : State := s.rolled.afterAdvance fun t => (bridgeBoundary t).nipEffects

theorem flowPulse_rewind {s : State} (h : s.sets.line.standKind = .rewind) : s.continuousCounted.flowPulse bridgeBoundary = s.pulsed := by
  have consume : ∀ t : State, t.sets.line.standKind = .rewind → t.consume = t := fun t ht => by rw [State.consume, ht]
  have hnip : s.continuousCounted.nipPulse = { s.continuousCounted with
      web.i := s.web.i + 1, web.restDue := if s.ownId.val = 0 then none else some (s.continuousCounted.now + 200000) } := consume _ h
  rw [State.flowPulse, hnip]
  rfl

/-- A state but for what a pulse without exits and marks moves beside the accounting: the planner, the run, the table's cells and the free
choices. -/
def State.ledger (s : State) : State := { s with leader := {}, cad := {}, dwell.cells := [], dwell.nextStart := 0, choices := 0 }

/-- No mark and no expectation waits for a pulse's effects on the web. -/
structure State.WebQuiet (s : State) : Prop where
  bay : s.web.bay = []
  span : s.web.span = []
  expect : s.reg.expect = none

theorem State.WebQuiet.effects {s : State} (h : s.WebQuiet) : (bridgeBoundary s).nipEffects.ledger = s.ledger
    ∧ (bridgeBoundary s).nipEffects.dwell = s.dwell := by
  have quiet : ∀ t : State, t.WebQuiet → t.nipEffects = t := fun t ht => by
    rw [State.nipEffects, deadlineTest_none ht.expect, crossings_empty ht.bay, leaveSpan_empty ht.span]
  by_cases hb : s.bridgeDone = true
  · have he : bridgeBoundary s = s.enterPending := if_pos hb
    rw [he, quiet s.enterPending ⟨h.bay, h.span, h.expect⟩]
    exact ⟨rfl, rfl⟩
  · have he : bridgeBoundary s = s := if_neg hb
    rw [he, quiet s h]
    exact ⟨rfl, rfl⟩

/-- A rewind takes a continuous pulse with nothing under way at the knife line and no spindle ready to cut to. -/
structure State.RewindPulse (s : State) : Prop where
  mode : s.cad.mode = .continuous
  begun : s.cad.begun = true
  pn : s.cad.pn ≠ 0
  effective : 0 < s.rate.effective
  obeys : s.KnifeObeys
  quiet : s.WebQuiet
  kind : s.sets.line.standKind = .rewind
  unready : s.stand.inState .synced = none
  unheld : s.stand.overfill = false

theorem State.RewindPulse.completes {s : State} (h : s.RewindPulse) : exec .continuousPulse s = .next s.pulsed.settle := by
  rw [exec_continuousPulse h.mode h.begun h.pn h.effective, flowPulse_rewind h.kind]

theorem rolled_quiet {s : State} (h : s.WebQuiet) : s.rolled.WebQuiet := by
  obtain ⟨x, y, hrolled⟩ := rolled_wound s
  rw [hrolled]
  exact ⟨h.bay, h.span, h.expect⟩

/-- Without a spindle ready to cut to, the accounting is the sweep of the outlet list (R150). -/
theorem account_unready {s : State} (h : s.stand.inState .synced = none) : s.account = s.outletSweep := by
  have hcut : s.maximumCut = none := by
    unfold State.maximumCut
    split
    · rfl
    · rw [h]
      split
      · rename_i hx
        exact nomatch hx
      · rfl
  rw [State.account, hcut]

/-- An empty outlet list at a rewind leaves the length end to test (R90, R151). -/
theorem outletSweep_empty {s : State} (hkind : s.sets.line.standKind = .rewind) (ho : s.web.outlet = []) :
    s.outletSweep = s.closeIfFull s.web.o := by
  have hleave : s.leaveFrom s.web.o s.web.outlet = s := by
    rw [ho]
    show { s with web.outlet := [] } = s
    rw [← ho]
  rw [State.outletSweep, State.sweepTo, hleave, State.endPanel, if_pos hkind]

/-- The one mark of a rewind's outlet list, which O has reached, leaves (R90). -/
theorem outletSweep_single {s : State} {m : Mark} (hkind : s.sets.line.standKind = .rewind) (ho : s.web.outlet = [m]) (hm : m.pos = s.web.o) :
    s.outletSweep = ({ s.handOff m with web.outlet := [] } : State).endPanel s.web.o := by
  have hleave : s.leaveFrom s.web.o s.web.outlet = { s.handOff m with web.outlet := [] } := by
    rw [ho, State.leaveFrom, hm, if_pos (atOrBeyond_self _), State.markLeaves, if_pos hkind]
    rfl
  rw [State.outletSweep, State.sweepTo, hleave]

theorem closeIfFull_none {s : State} {limit : Pos} (h : s.fullBy limit = none) : s.closeIfFull limit = s := by
  rw [State.closeIfFull, h]

theorem fullBy_closed {s : State} (h : s.stand.panel = none) (limit : Pos) : s.fullBy limit = none := by
  rw [State.fullBy, h]

theorem fullBy_ahead {s : State} (h : ∀ p, s.stand.panel = some p → atOrBeyond s.web.o p.lengthEnd = false) (limit : Pos) :
    s.fullBy limit = none := by
  unfold State.fullBy
  split
  · rfl
  · rename_i p hp
    exact if_neg fun c => Bool.noConfusion ((h p hp).symm.trans c.2.1)

theorem endPanel_unfull {s : State} {limit : Pos} (h : s.fullBy limit = none) : s.endPanel limit = s := by
  unfold State.endPanel
  split
  · exact closeIfFull_none h
  · rfl

/-! ## A pulse without zones -/

/-- Without zones a pulse with nothing at the knife line is its accounting (R45, R90). -/
theorem State.RewindPulse.pulsed_unzoned {s : State} (h : s.RewindPulse) (hz : s.sets.box.zoneCount = 0) :
    s.pulsed.ledger = s.rolled.account.ledger := by
  have hzone : s.rolled.sets.box.zoneCount = 0 := by
    obtain ⟨x, y, hrolled⟩ := rolled_wound s
    rw [hrolled]
    exact hz
  have hstill := account_still s.rolled
  have hbay : s.rolled.account.web.bay = s.rolled.web.bay := congrArg Steady.bay (account_steady s.rolled)
  have hquiet := rolled_quiet h.quiet
  rw [State.pulsed, State.afterAdvance, if_pos hzone]
  refine (State.WebQuiet.effects ⟨hbay.trans hquiet.bay, ?_, ?_⟩).1
  · exact (congrArg Still.span hstill : _).trans hquiet.span
  · exact (congrArg (fun u => u.reg.expect) hstill : _).trans hquiet.expect

theorem account_knife (s : State) : s.account.knife = s.knife ∧ s.account.rate = s.rate := by
  have h := account_unswept s
  exact ⟨congrArg (fun x : Aside × Dwell × Knife => x.2.2) h, congrArg (fun x : Aside × Dwell × Knife => x.1.rate) h⟩

/-- Without zones such a pulse that leaves no verdict to wait for completes as its accounting left the stand. -/
theorem State.RewindPulse.completes_unzoned {s : State} (h : s.RewindPulse) (hz : s.sets.box.zoneCount = 0) {v : State}
    (hv : s.rolled.account = v) (hhold : v.stand.overfill = false) (hverdicts : v.stand.verdicts = []) :
    Completes .continuousPulse s fun t =>
      t.web.outlet = v.web.outlet ∧ t.stand.unarmed = v.stand.unarmed ∧ (v.port.ip.getLsbD 1 = true → t.port.ip.getLsbD 1 = true) := by
  refine ⟨_, h.completes, ?_⟩
  have hledger := h.pulsed_unzoned hz
  have haccount := account_knife s.rolled
  obtain ⟨x, y, hrolled⟩ := rolled_wound s
  have hknife : s.rolled.knife = s.knife := by rw [hrolled]; rfl
  have hrate : s.rolled.rate = s.rate := by rw [hrolled]; rfl
  rw [hv] at hledger haccount
  generalize s.pulsed = u at hledger ⊢
  have uknife : u.knife = v.knife := (congrArg State.knife hledger :)
  have urate : u.rate = v.rate := (congrArg State.rate hledger :)
  have uweb : u.web = v.web := (congrArg State.web hledger :)
  have ustand : u.stand = v.stand := (congrArg State.stand hledger :)
  have uport : u.port = v.port := (congrArg State.port hledger :)
  have uobeys : u.KnifeObeys := by
    unfold State.KnifeObeys
    rw [uknife, urate, haccount.1, haccount.2, hknife, hrate]
    exact h.obeys
  obtain ⟨tweb, tstand, tip⟩ := settle_unheld uobeys (by rw [ustand]; exact hhold)
  rw [judgeDue_of_none (by rw [ustand]; exact hverdicts)] at tstand tip
  rw [uport] at tip
  exact ⟨congrArg Web.outlet (tweb.trans uweb), tstand.trans (congrArg Stand.unarmed ustand), tip⟩

/-! ## The panel that closes with no cells to wait for -/

/-- From `s` to `t` the open panel has closed as `c` on a winding roll, and got its verdict at once. -/
structure ClosedAtOnce (s : State) (w : SpindleId) (c : ClosedPanel) (t : State) : Prop where
  panel : t.stand.panel = none
  verdicts : t.stand.verdicts = []
  hold : t.stand.overfill = s.stand.overfill
  spindle : t.stand.spindle w =
    { s.stand.spindle w with
      closed := (s.stand.spindle w).closed + 1
      good := if c.reasons.any then (s.stand.spindle w).good else (s.stand.spindle w).good + 1
      reject := if c.reasons.any then (s.stand.spindle w).reject + 1 else (s.stand.spindle w).reject }
  log : t.stand.log = s.stand.log ++
    [{ number := c.number, roll := c.roll, reject := c.reasons.any, reasons := c.reasons, length := (c.stop - c.start).toNat }]
  flag : t.port.ip.getLsbD 1 = true

/-- A state whose open panel has closed and is the one panel that waits for its verdict. -/
def State.closing (s : State) (w : SpindleId) (c : ClosedPanel) : State :=
  { s with stand := { s.stand.countClosed (some w) with panel := none, verdicts := [c] } }

theorem closing_spindle (s : State) (w : SpindleId) (c : ClosedPanel) :
    (s.closing w c).stand.spindle w = { s.stand.spindle w with closed := (s.stand.spindle w).closed + 1 } := by cases w <;> rfl

theorem closing_lists (s : State) (w : SpindleId) (c : ClosedPanel) :
    (s.closing w c).stand.log = s.stand.log ∧ (s.closing w c).stand.overfill = s.stand.overfill := by cases w <;> exact ⟨rfl, rfl⟩

/-- Without an open range a panel is judged by its own reasons (R153). -/
theorem reasonsOf_unranged {s : State} (h : s.dwell.range = none) (c : ClosedPanel) : s.reasonsOf c = c.reasons := by
  have hover : s.rangeOverlaps c = false := by
    unfold State.rangeOverlaps
    rw [h]
  rw [State.reasonsOf, hover]
  simp

/-- The one panel that waits, counted on the winding roll and due, gets its verdict (R153, R154). -/
theorem closing_judged {s : State} {w : SpindleId} {c : ClosedPanel} (hw : (s.stand.spindle w).state = .winding)
    (hspindle : c.spindle = some w) (hroll : c.roll = (s.stand.spindle w).roll) (hdue : s.verdictDue c = true)
    (hr : s.dwell.range = none) (hl : s.stand.log.length < 32) : ClosedAtOnce s w c (s.closing w c).judgeDue := by
  have hfilter : (s.closing w c).stand.verdicts.filter (s.closing w c).verdictDue = [c] := List.filter_cons_of_pos hdue
  have hrest : ((s.closing w c).stand.verdicts.filter fun d => !(s.closing w c).verdictDue d) = [] := by
    refine List.filter_cons_of_neg ?_
    rw [show (s.closing w c).verdictDue c = true from hdue]
    decide
  have hreasons : (s.closing w c).reasonsOf c = c.reasons := reasonsOf_unranged (s := s.closing w c) hr c
  have hcounted : c.countedOn w ((s.closing w c).stand.spindle w) = true := by
    rw [closing_spindle]
    refine decide_eq_true ⟨hspindle, hroll, ?_⟩
    show (s.stand.spindle w).state ≠ .empty
    rw [hw]
    decide
  obtain ⟨hlog, hhold⟩ := closing_lists s w c
  obtain ⟨judged, hverdicts⟩ := judgeDue_judged (s.closing w c)
  rw [hfilter] at judged
  refine ⟨judged.panel, hverdicts.trans hrest, judged.hold.1.trans hhold, ?_, ?_, judged.flag (List.cons_ne_nil _ _)⟩
  · have hmine : [c].filter (fun d => d.countedOn w ((s.closing w c).stand.spindle w)) = [c] := List.filter_cons_of_pos hcounted
    rw [judged.spindle w, hmine, closing_spindle, List.filter_singleton, List.filter_singleton, hreasons]
    cases c.reasons.any <;> rfl
  · rw [judged.log (by rw [hlog]; exact hl), hlog, List.map_singleton, State.entryOf, hreasons]

/-- The record of a panel that closes on a winding roll (R151). -/
def OpenPanel.closedOn (p : OpenPanel) (w : SpindleId) (x : Spindle) (stop : Pos) (flag : Reasons → Reasons) : ClosedPanel :=
  { number := p.number, start := p.start, stop := stop, spindle := some w, roll := x.roll, reasons := flag p.reasons }

/-- With no cells to wait for, a panel that closes is judged at once (R151, R153). -/
theorem closePanel_closing {s : State} {w : SpindleId} {p : OpenPanel} (hw : s.stand.inState .winding = some w)
    (hp : s.stand.panel = some p) (hv : s.stand.verdicts = []) (hwait : s.verdictWait = 0) (stop : Pos) (flag : Reasons → Reasons) :
    s.closePanel stop flag = (s.closing w (p.closedOn w (s.stand.spindle w) stop flag)).judgeDue := by
  have hlist : (s.stand.countClosed (some w)).verdicts = [] := (countClosed_lists _ _).1.trans hv
  have hroom : ({ s with stand := { s.stand.countClosed (some w) with panel := none } } : State).makeVerdictRoom
      = { s with stand := { s.stand.countClosed (some w) with panel := none } } := by
    rw [State.makeVerdictRoom]
    simp only [hlist]
  rw [State.closePanel, hp]
  simp only [hw, hwait, if_true, hlist]
  rfl

theorem closePanel_atOnce {s : State} {w : SpindleId} {p : OpenPanel} (hw : s.stand.inState .winding = some w)
    (hp : s.stand.panel = some p) (hv : s.stand.verdicts = []) (hwait : s.verdictWait = 0) (hr : s.dwell.range = none)
    (hl : s.stand.log.length < 32) (flag : Reasons → Reasons) :
    ClosedAtOnce s w (p.closedOn w (s.stand.spindle w) s.web.o flag) (s.closePanel s.web.o flag) := by
  rw [closePanel_closing hw hp hv hwait]
  refine closing_judged (inState_eq_some hw) rfl rfl ?_ hr hl
  rw [State.verdictDue, hwait]
  simp [OpenPanel.closedOn, atOrBeyond, toPos]

/-- Once such a pulse has settled, the panel that closed and the winding roll stand as the accounting left them. -/
theorem ClosedAtOnce.settled {u v t : State} {w : SpindleId} {c : ClosedPanel} (h : ClosedAtOnce u w c v)
    (ht : t.stand.unarmed = v.stand.unarmed) (hip : v.port.ip.getLsbD 1 = true → t.port.ip.getLsbD 1 = true) :
    t.stand.panel = none ∧ (t.stand.spindle w).closed = (u.stand.spindle w).closed + 1
      ∧ (t.stand.spindle w).wound = (u.stand.spindle w).wound ∧ t.stand.verdicts = []
      ∧ (t.stand.spindle w).good = (if c.reasons.any then (u.stand.spindle w).good else (u.stand.spindle w).good + 1)
      ∧ (t.stand.spindle w).reject = (if c.reasons.any then (u.stand.spindle w).reject + 1 else (u.stand.spindle w).reject)
      ∧ t.stand.log = u.stand.log ++
        [{ number := c.number, roll := c.roll, reject := c.reasons.any, reasons := c.reasons, length := (c.stop - c.start).toNat }]
      ∧ t.port.ip.getLsbD 1 = true := by
  have hspindle := unarmed_spindle ht w
  rw [h.spindle] at hspindle
  exact ⟨(congrArg Stand.panel ht :).trans h.panel, (congrArg Spindle.closed hspindle :), (congrArg Spindle.wound hspindle :),
    (congrArg Stand.verdicts ht :).trans h.verdicts, (congrArg Spindle.good hspindle :), (congrArg Spindle.reject hspindle :),
    (congrArg Stand.log ht :).trans h.log, hip h.flag⟩

/-! ## The panels of a pulse without zones -/

/-- A rewind with a roll winding, none ready, no panel waiting for its verdict and no cells to wait for. -/
structure State.PanelReady (s : State) (w : SpindleId) : Prop where
  kind : s.sets.line.standKind = .rewind
  unready : s.stand.inState .synced = none
  winding : s.stand.inState .winding = some w
  verdicts : s.stand.verdicts = []
  wait : s.verdictWait = 0
  room : s.stand.log.length < 32
  length : s.outletLength ≠ 0

/-- The open panel closes at its length end (R151). -/
theorem State.PanelReady.account_full {s : State} {w : SpindleId} {p : OpenPanel} (h : s.PanelReady w) (hp : s.stand.panel = some p)
    (hend : p.lengthEnd = s.web.o) (ho : s.web.outlet = []) (hr : s.dwell.range = none) :
    ClosedAtOnce s w (p.closedOn w (s.stand.spindle w) s.web.o id) s.account := by
  have hfull : s.fullBy s.web.o = some s.web.o := by
    rw [State.fullBy, hp]
    dsimp only
    rw [hend, if_pos ⟨h.length, atOrBeyond_self _, atOrBeyond_self _⟩]
  rw [account_unready h.unready, outletSweep_empty h.kind ho, State.closeIfFull, hfull]
  exact closePanel_atOnce h.winding hp h.verdicts h.wait hr h.room id

/-- An ABORT mark that leaves before the length end closes the open panel (R152). -/
theorem State.PanelReady.account_abort {s : State} {w : SpindleId} {p : OpenPanel} {m : Mark} {number : BitVec 16} (h : s.PanelReady w)
    (hp : s.stand.panel = some p) (ho : s.web.outlet = [m]) (hm : m.body = .abort number) (hpos : m.pos = s.web.o)
    (hahead : atOrBeyond s.web.o p.lengthEnd = false) (hr : s.dwell.range = none) :
    ClosedAtOnce s w (p.closedOn w (s.stand.spindle w) s.web.o fun r => { r with aborted := true }) s.account ∧ s.account.web.outlet = [] := by
  have hopen : s.fullBy m.pos = none := fullBy_ahead (fun q hq => Option.some.inj (hp.symm.trans hq) ▸ hahead) _
  have hhand : s.handOff m = s.closePanel s.web.o fun r => { r with aborted := true } := by
    rw [State.handOff, hm]
    dsimp only
    rw [State.closeBeforeAbort, hopen, if_neg (fun c => nomatch c), closeIfFull_none hopen, hpos]
  have hclosed := closePanel_atOnce h.winding hp h.verdicts h.wait hr h.room fun r => { r with aborted := true }
  rw [account_unready h.unready, outletSweep_single h.kind ho hpos, hhand]
  generalize s.closePanel s.web.o (fun r => { r with aborted := true }) = t at hclosed ⊢
  obtain ⟨hpanel, hverdicts, hhold, hspindle, hlog, hflag⟩ := hclosed
  have hend : ({ t with web.outlet := [] } : State).endPanel s.web.o = { t with web.outlet := [] } :=
    endPanel_unfull (fullBy_closed hpanel _)
  rw [hend]
  exact ⟨⟨hpanel, hverdicts, hhold, hspindle, hlog, hflag⟩, rfl⟩

/-- A PANEL mark that leaves opens its panel (R151). -/
theorem State.PanelReady.account_panel {s : State} {w : SpindleId} {m : Mark} {number : BitVec 16} (h : s.PanelReady w)
    (hp : s.stand.panel = none) (ho : s.web.outlet = [m]) (hm : m.body = .panel number) (hpos : m.pos = s.web.o)
    (hreach : s.stand.reach = none) (hsplice : s.web.o ∉ s.stand.splicesLeft) (hlength : s.outletLength < 2147483648) :
    s.account.web.outlet = [] ∧ s.account.stand =
      { s.stand with
        panel := some
          { number := number, start := s.web.o, lengthEnd := s.web.o + toPos s.outletLength, roll := (s.stand.spindle w).roll
            reasons := {} }
        splicesLeft := s.recentSplices } := by
  have hcut : s.transferCut = s := by
    unfold State.transferCut
    split
    · rfl
    · rw [h.unready]
  have hhand : s.handOff m = s.openPanelAt s.web.o number := by
    have hclose : ∀ f : Reasons → Reasons, s.closePanel s.web.o f = s := fun f => by rw [State.closePanel, hp]
    rw [State.handOff, hm]
    dsimp only
    rw [closeIfFull_none (fullBy_closed hp _), hpos, hclose, hcut]
  have hopened : s.openPanelAt s.web.o number = { s with
      stand.panel := some
        { number := number, start := s.web.o, lengthEnd := s.web.o + toPos s.outletLength, roll := (s.stand.spindle w).roll
          reasons := {} }
      stand.splicesLeft := s.recentSplices } := by
    have hcontains : s.stand.splicesLeft.contains s.web.o = false := by simpa using hsplice
    rw [State.openPanelAt, h.winding, hreach, hcontains]
  rw [account_unready h.unready, outletSweep_single h.kind ho hpos, hhand, hopened, endPanel_unfull]
  · exact ⟨rfl, rfl⟩
  · refine fullBy_ahead (fun p hq => ?_) _
    cases hq
    exact atOrBeyond_ahead _ (Nat.pos_of_ne_zero h.length) hlength

theorem State.RewindPulse.panelReady {s : State} {w : SpindleId} (h : s.RewindPulse) (hrole : s.sets.line.role = .none) (hpn : s.web.pn ≠ 0)
    (hz : s.sets.box.zoneCount = 0) (hw : s.stand.inState .winding = some w) (hv : s.stand.verdicts = [])
    (hlog : s.stand.log.length < 32) : s.rolled.PanelReady w ∧ s.rolled.outletLength = s.web.pn := by
  obtain ⟨x, y, hrolled⟩ := rolled_wound s
  have hlength : s.rolled.outletLength = s.web.pn := by
    rw [hrolled]
    show s.outletLength = s.web.pn
    rw [State.outletLength, hrole]
  have hwait : s.verdictWait = 0 := if_neg (by omega)
  refine ⟨?_, hlength⟩
  rw [← hlength] at hpn
  rw [hrolled] at hpn ⊢
  exact ⟨h.kind, h.unready, hw, hv, hwait, hlog, hpn⟩

/-- What such a pulse's accounting is formed from: the record of the winding roll with its wound length grown, and the rest of the stand. -/
theorem State.RewindPulse.rolled_stand {s : State} {w : SpindleId} (h : s.RewindPulse) (hw : s.stand.inState .winding = some w) :
    s.rolled.stand.spindle w = { s.stand.spindle w with wound := satAdd32 (s.stand.spindle w).wound 1 } ∧ s.rolled.web = s.flowed.web
      ∧ s.rolled.stand.panel = s.stand.panel ∧ s.rolled.stand.log = s.stand.log ∧ s.rolled.stand.overfill = false
      ∧ s.rolled.stand.reach = s.stand.reach ∧ s.rolled.stand.splicesLeft = s.stand.splicesLeft ∧ s.rolled.dwell = s.dwell := by
  have hspindle := wind_winding (s := s.flowed) h.kind hw 1
  obtain ⟨x, y, hrolled⟩ := rolled_wound s
  refine ⟨hspindle, ?_⟩
  rw [hrolled]
  exact ⟨rfl, rfl, rfl, h.unheld, rfl, rfl, rfl⟩

/-- From `s` to `t` a continuous pulse has closed the open panel on the winding roll, which grew, and with these reasons judged it. -/
def PanelCounted (s : State) (w : SpindleId) (p : OpenPanel) (reasons : Reasons) (t : State) : Prop :=
  (t.stand.spindle w).closed = (s.stand.spindle w).closed + 1 ∧ (t.stand.spindle w).wound = satAdd32 (s.stand.spindle w).wound 1
    ∧ t.stand.verdicts = []
    ∧ (t.stand.spindle w).good = (if reasons.any then (s.stand.spindle w).good else (s.stand.spindle w).good + 1)
    ∧ (t.stand.spindle w).reject = (if reasons.any then (s.stand.spindle w).reject + 1 else (s.stand.spindle w).reject)
    ∧ t.stand.log = s.stand.log ++
      [{ number := p.number, roll := (s.stand.spindle w).roll, reject := reasons.any, reasons := reasons
         length := (s.web.o + 1 - p.start).toNat }]
    ∧ t.port.ip.getLsbD 1 = true

/-- A pulse whose accounting closes the open panel completes with it counted and judged (R151, R153, R154). -/
theorem State.RewindPulse.completes_closed {s : State} {w : SpindleId} {p : OpenPanel} {flag : Reasons → Reasons} (h : s.RewindPulse)
    (hz : s.sets.box.zoneCount = 0) (hw : s.stand.inState .winding = some w)
    (hclosed : ClosedAtOnce s.rolled w (p.closedOn w (s.rolled.stand.spindle w) s.rolled.web.o flag) s.rolled.account) :
    Completes .continuousPulse s fun t =>
      t.web.outlet = s.rolled.account.web.outlet ∧ t.stand.panel = none ∧ PanelCounted s w p (flag p.reasons) t := by
  obtain ⟨hspindle, hweb, _, hlog, hhold, _⟩ := h.rolled_stand hw
  refine (h.completes_unzoned hz rfl (hclosed.hold.trans hhold) hclosed.verdicts).imp fun t ht => ?_
  obtain ⟨toutlet, tstand, tip⟩ := ht
  obtain ⟨tpanel, tclosed, twound, tverdicts, tgood, treject, tlog, tflag⟩ := hclosed.settled tstand tip
  rw [hspindle] at tclosed twound tgood treject tlog
  rw [hlog, hweb] at tlog
  exact ⟨toutlet, tpanel, tclosed, twound, tverdicts, tgood, treject, tlog, tflag⟩

/-! ## The panels that wait, at a pulse without exits -/

/-- The head of the Dwell Table does not reach the outlet point with O at this position (R129). -/
def State.HeadStays (s : State) (o : Pos) : Prop :=
  ∀ c, s.dwell.cells.head? = some c → atOrBeyond o (c.start + toPos (s.sets.box.cell + s.sets.feed.b)) = false

/-- Without an exit an advance of O enters cells at the table's tail and moves nothing else (R125). -/
theorem dwellAdvance_ledger {s : State} (h : s.HeadStays s.web.o) : s.dwellAdvance.ledger = s.ledger := by
  have hexit : s.exitFrom s.dwell.cells = s := by
    cases hc : s.dwell.cells with
    | nil =>
      show { s with dwell.cells := [] } = s
      rw [← hc]
    | cons c cs =>
      have hstays : atOrBeyond s.web.o (c.start + toPos (s.sets.box.cell + s.sets.feed.b)) = false := h c (by rw [hc]; rfl)
      rw [State.exitFrom, hstays]
      show { s with dwell.cells := c :: cs } = s
      rw [← hc]
  rw [State.dwellAdvance, hexit]
  rfl

/-- At a rewind with no mark to leave, no spindle ready and no length end reached the accounting of an advance of O has nothing to do. -/
structure State.Settled (s : State) : Prop where
  kind : s.sets.line.standKind = .rewind
  unready : s.stand.inState .synced = none
  outlet : s.web.outlet = []
  unfull : ∀ p, s.stand.panel = some p → atOrBeyond s.web.o p.lengthEnd = false

theorem State.Settled.account {s : State} (h : s.Settled) : s.account = s := by
  rw [account_unready h.unready, outletSweep_empty h.kind h.outlet, closeIfFull_none (fullBy_ahead h.unfull _)]

/-- What the ledger of a state says of its accounting and of its effects on the web. -/
theorem settled_congr {s t : State} (h : t.ledger = s.ledger) (hs : s.Settled) : t.Settled := by
  have hsets : t.sets = s.sets := (congrArg State.sets h :)
  have hstand : t.stand = s.stand := (congrArg State.stand h :)
  have hweb : t.web = s.web := (congrArg State.web h :)
  exact ⟨hsets ▸ hs.kind, hstand ▸ hs.unready, hweb ▸ hs.outlet, hstand ▸ hweb ▸ hs.unfull⟩

theorem quiet_congr {s t : State} (h : t.ledger = s.ledger) (hs : s.WebQuiet) : t.WebQuiet := by
  have hreg : t.reg = s.reg := (congrArg State.reg h :)
  have hweb : t.web = s.web := (congrArg State.web h :)
  exact ⟨hweb ▸ hs.bay, hweb ▸ hs.span, hreg ▸ hs.expect⟩

/-- A pulse without exits and marks moves nothing of the ledger, in whichever order the Dwell Table comes. -/
theorem afterAdvance_ledger {s : State} (hs : s.Settled) (hq : s.WebQuiet) (hd : s.HeadStays s.web.o) :
    (s.afterAdvance fun t => (bridgeBoundary t).nipEffects).ledger = s.ledger := by
  have hdwell : s.chosen.dwellAdvance.ledger = s.ledger := dwellAdvance_ledger (s := s.chosen) hd
  unfold State.afterAdvance eitherOrder
  split
  · rw [hs.account]
    exact hq.effects.1
  · split
    · dsimp only
      rw [(settled_congr hdwell hs).account]
      exact (quiet_congr hdwell hq).effects.1.trans hdwell
    · dsimp only
      have hchosen : s.chosen.WebQuiet := ⟨hq.bay, hq.span, hq.expect⟩
      obtain ⟨hledger, hcells⟩ := hchosen.effects
      have hback : (bridgeBoundary s.chosen).nipEffects.dwellAdvance.ledger = s.ledger := by
        refine (dwellAdvance_ledger ?_).trans hledger
        generalize (bridgeBoundary s.chosen).nipEffects = u at hledger hcells
        have hweb : u.web = s.web := (congrArg State.web hledger :)
        have hsets : u.sets = s.sets := (congrArg State.sets hledger :)
        unfold State.HeadStays
        rw [hcells, hweb, hsets]
        exact hd
      rw [(settled_congr hback hs).account]
      exact hback

/-- A closed panel is judged UNDERSET where the open range overlaps it, and else by its own reasons (R153). -/
theorem reasonsOf_eq (s : State) (c : ClosedPanel) :
    s.reasonsOf c =
      if s.dwell.range.any (fun r => before (r.start + toPos s.sets.feed.b) c.stop
          && beyond (r.start + toPos s.sets.feed.b + toPos r.extent) c.start) = true then
        { c.reasons with underset := true }
      else c.reasons := by
  cases hr : s.dwell.range with
  | none => exact reasonsOf_unranged hr c
  | some r =>
    have hover : s.rangeOverlaps c = overlaps (r.start + toPos s.sets.feed.b) r.extent c.start c.stop := by
      unfold State.rangeOverlaps
      rw [hr]
    have hit : ∀ b : Bool, { c.reasons with underset := c.reasons.underset || b }
        = if b = true then { c.reasons with underset := true } else c.reasons := fun b => by cases b <;> simp
    rw [State.reasonsOf, hover]
    exact hit _

/-- From `s` to `t` the panels that are due have got their verdicts, are counted and logged, and the others wait on (R153, R154). -/
def VerdictsGiven (s t : State) : Prop :=
  t.stand.panel = s.stand.panel
    ∧ t.stand.verdicts = (s.stand.verdicts.filter fun c => !s.verdictDue c)
    ∧ (s.stand.verdicts.filter s.verdictDue ≠ [] → t.port.ip.getLsbD 1 = true)
    ∧ (s.stand.log.length + (s.stand.verdicts.filter s.verdictDue).length ≤ 32 →
        t.stand.log = s.stand.log ++ (s.stand.verdicts.filter s.verdictDue).map s.entryOf)
    ∧ ∀ id : SpindleId,
        let mine := (s.stand.verdicts.filter s.verdictDue).filter fun c => c.countedOn id (s.stand.spindle id)
        (t.stand.spindle id).good = (s.stand.spindle id).good + (mine.filter fun c => !(s.reasonsOf c).any).length
          ∧ (t.stand.spindle id).reject = (s.stand.spindle id).reject + (mine.filter fun c => (s.reasonsOf c).any).length

theorem settle_verdicts {s : State} (hk : s.KnifeObeys) (h : s.stand.overfill = false) : VerdictsGiven s s.settle := by
  obtain ⟨-, tstand, tip⟩ := settle_unheld hk h
  obtain ⟨judged, hverdicts⟩ := judgeDue_judged s
  generalize s.settle = t at tstand tip ⊢
  refine ⟨(congrArg Stand.panel tstand :).trans judged.panel, (congrArg Stand.verdicts tstand :).trans hverdicts,
    fun hdue => tip (judged.flag hdue), fun hroom => (congrArg Stand.log tstand :).trans (judged.log hroom), fun id => ?_⟩
  have hspindle := unarmed_spindle tstand id
  rw [judged.spindle id] at hspindle
  exact ⟨(congrArg Spindle.good hspindle :), (congrArg Spindle.reject hspindle :)⟩

/-- A pulse without exits and marks completes with the verdicts due given by the state before its accounting (R153). -/
theorem State.RewindPulse.completes_verdicts {s : State} (h : s.RewindPulse) (ho : s.web.outlet = [])
    (hopen : ∀ p, s.stand.panel = some p → atOrBeyond (s.web.o + 1) p.lengthEnd = false) (hd : s.HeadStays (s.web.o + 1)) :
    ∃ u t : State, exec .continuousPulse s = .next t ∧ VerdictsGiven u t ∧ u.web.o = s.web.o + 1 ∧ u.sets = s.sets
      ∧ u.dwell.range = s.dwell.range
      ∧ ∃ x y, u.stand = { s.stand with a := { s.stand.a with wound := x }, b := { s.stand.b with wound := y } } := by
  obtain ⟨x, y, hrolled⟩ := rolled_wound s
  have hsettled : s.rolled.Settled := by
    rw [hrolled]
    exact ⟨h.kind, h.unready, ho, hopen⟩
  have hstays : s.rolled.HeadStays s.rolled.web.o := by
    rw [hrolled]
    exact hd
  have hledger : s.pulsed.ledger = s.rolled.ledger := afterAdvance_ledger hsettled (rolled_quiet h.quiet) hstays
  rw [hrolled] at hledger
  have hexec := h.completes
  generalize s.pulsed = u at hledger hexec
  have uknife : u.knife = s.knife := (congrArg State.knife hledger :)
  have urate : u.rate = s.rate := (congrArg State.rate hledger :)
  have ustand : u.stand = { s.stand with a := { s.stand.a with wound := x }, b := { s.stand.b with wound := y } } :=
    (congrArg State.stand hledger :)
  have uobeys : u.KnifeObeys := by
    unfold State.KnifeObeys
    rw [uknife, urate]
    exact h.obeys
  have uhold : u.stand.overfill = false := by
    rw [ustand]
    exact h.unheld
  exact ⟨u, u.settle, hexec, settle_verdicts uobeys uhold, (congrArg (fun v : State => v.web.o) hledger :),
    (congrArg State.sets hledger :), (congrArg (fun v : State => v.dwell.range) hledger :), x, y, ustand⟩

/-- Settles O37: without zones the pulse is its accounting, which closes, judges and logs the panel or opens one; without exits and marks the
pulse leaves the ledger, and its settling gives the verdicts due. -/
theorem panelsAccounted : Obligations.PanelsAccounted := by
  unfold Obligations.PanelsAccounted
  refine ⟨fun w s hmode hbegun hpn heffective _ hobeys hbay hspan hexpect hkind hrole hlength hz hw hsynced hhold hverdicts hlog => ?_,
    fun s hmode hbegun hpn heffective hobeys hbay hspan houtlet hexpect hkind hsynced hhold => ?_⟩
  · intro x o closed
    have pulse : s.RewindPulse := ⟨hmode, hbegun, hpn, heffective, hobeys, ⟨hbay, hspan, hexpect⟩, hkind, hsynced, hhold⟩
    obtain ⟨ready, rlength⟩ := pulse.panelReady hrole hlength hz hw hverdicts hlog
    obtain ⟨rspindle, rweb, rpanel, rlog, rhold, rreach, rsplices, rdwell⟩ := pulse.rolled_stand hw
    have ro : s.rolled.web.o = o := congrArg Web.o rweb
    have routlet : s.rolled.web.outlet = s.web.outlet := (congrArg Web.outlet rweb :)
    refine ⟨fun p hp hend ho hr => ?_, fun p m number hp ho hm hpos hahead hr => ?_,
      fun m number hp ho hm hpos hreach hsplice hshort => ?_⟩
    · have hclosed := ready.account_full (rpanel.trans hp) (hend.trans ro.symm) (routlet.trans ho) (by rw [rdwell]; exact hr)
      exact (pulse.completes_closed hz hw hclosed).imp fun t ht => ht.2
    · obtain ⟨hclosed, hout⟩ := ready.account_abort (rpanel.trans hp) (routlet.trans ho) hm (hpos.trans ro.symm) (by rw [ro]; exact hahead)
        (by rw [rdwell]; exact hr)
      exact (pulse.completes_closed hz hw hclosed).imp fun t ht => ⟨ht.2.1, ht.1.trans hout, ht.2.2⟩
    · obtain ⟨hout, hstand⟩ := ready.account_panel (rpanel.trans hp) (routlet.trans ho) hm (hpos.trans ro.symm) (rreach.trans hreach)
        (by rw [ro, rsplices]; exact hsplice) (by rw [rlength]; exact hshort)
      refine (pulse.completes_unzoned hz rfl (by rw [hstand]; exact rhold) (by rw [hstand]; exact ready.verdicts)).imp fun t ht => ?_
      obtain ⟨toutlet, tstand, _⟩ := ht
      rw [hstand, ro, rlength, rspindle] at tstand
      exact ⟨toutlet.trans hout, (congrArg Stand.log tstand :).trans rlog, (congrArg Stand.panel tstand :)⟩
  · intro o b h hopen hhead
    have pulse : s.RewindPulse := ⟨hmode, hbegun, hpn, heffective, hobeys, ⟨hbay, hspan, hexpect⟩, hkind, hsynced, hhold⟩
    obtain ⟨u, t, hexec, hgiven, uo, usets, urange, x, y, ustand⟩ := pulse.completes_verdicts houtlet hopen hhead
    refine ⟨t, hexec, ?_⟩
    beta_reduce
    intro due reasons
    have hreasons : u.reasonsOf = reasons := by
      funext c
      rw [reasonsOf_eq, urange, usets]
    have hdue : u.verdictDue = fun c => atOrBeyond o (c.stop + toPos h) := by
      funext c
      rw [State.verdictDue, State.verdictWait, uo, usets]
    have hentry : u.entryOf = fun c => { number := c.number, roll := c.roll, reject := (reasons c).any, reasons := reasons c
                                         length := (c.stop - c.start).toNat } := by
      funext c
      rw [State.entryOf, hreasons]
    obtain ⟨tpanel, tverdicts, tflag, tlog, tspindle⟩ := hgiven
    rw [ustand, hdue] at tverdicts tflag tlog
    rw [hentry] at tlog
    refine ⟨tpanel.trans (congrArg Stand.panel ustand :), tverdicts, tflag, tlog, fun id => ?_⟩
    have hid := tspindle id
    rw [ustand, hdue, hreasons] at hid
    cases id
    · exact hid
    · exact hid

end Sys2Proof.Machine
end

section
namespace Sys2Proof.Machine

/-! # The cut over to the other spindle -/

/-- Closing panels and giving verdicts leave the states of the spindles, the count of transfers and the open panel. -/
structure StandKept (s t : State) : Prop where
  state : ∀ id, (t.stand.spindle id).state = (s.stand.spindle id).state
  transfers : t.stand.transfers = s.stand.transfers
  panel : t.stand.panel = s.stand.panel

theorem StandKept.trans {s t u : State} (h : StandKept s t) (g : StandKept t u) : StandKept s u :=
  ⟨fun id => (g.state id).trans (h.state id), g.transfers.trans h.transfers, g.panel.trans h.panel⟩

/-- Verdicts move only the counts of the rolls, the log and the list of those that wait. -/
theorem StandKept.of_judged {s t : State} {cs : List ClosedPanel} (h : Judged s cs t) (rest : List ClosedPanel) :
    StandKept s { t with stand.verdicts := rest } := by
  refine ⟨fun id => ?_, h.hold.2, h.panel⟩
  have hspindle := h.spindle id
  cases id <;> exact (congrArg Spindle.state hspindle :)

theorem StandKept.judgeDue (s : State) : StandKept s s.judgeDue := StandKept.of_judged (judgeDue_judged s).1 s.judgeDue.stand.verdicts

theorem StandKept.makeVerdictRoom (s : State) : StandKept s s.makeVerdictRoom := by
  unfold State.makeVerdictRoom
  split
  · exact ⟨fun _ => rfl, rfl, rfl⟩
  · split
    · exact StandKept.of_judged (judge_judged s _) _
    · exact ⟨fun _ => rfl, rfl, rfl⟩

/-- A panel that closes on a roll, or on none, is open no more, and the rest is kept (R151). -/
theorem StandKept.countClosed (s : State) (id : Option SpindleId) :
    StandKept { s with stand.panel := none } { s with stand := { s.stand.countClosed id with panel := none } } := by
  cases id with
  | none => exact ⟨fun _ => rfl, rfl, rfl⟩
  | some x => cases x <;> exact ⟨fun y => by cases y <;> rfl, rfl, rfl⟩

/-- A waiting list that grows moves nothing else. -/
theorem StandKept.appended (s : State) (cs : List ClosedPanel) : StandKept s { s with stand.verdicts := cs } :=
  ⟨fun id => by cases id <;> rfl, rfl, rfl⟩

theorem StandKept.closePanel (s : State) (stop : Pos) (flag : Reasons → Reasons) :
    StandKept { s with stand.panel := none } (s.closePanel stop flag) := by
  unfold State.closePanel
  split
  · rename_i hp
    exact ⟨fun id => by cases id <;> rfl, rfl, hp⟩
  · have hroom := (StandKept.countClosed s (s.stand.inState .winding)).trans (StandKept.makeVerdictRoom _)
    dsimp only
    split
    · exact (hroom.trans (StandKept.appended _ _)).trans (StandKept.judgeDue _)
    · exact hroom.trans (StandKept.appended _ _)

/-- A cut that splits the open panel leaves none open, and the states of the spindles and the count of transfers as it finds them (R151). -/
theorem StandKept.split (s : State) (limit stop : Pos) (flag : Reasons → Reasons) :
    StandKept { s with stand.panel := none } ((s.closeIfFull limit).closePanel stop flag) := by
  have hfull : ∀ y, ((s.closeIfFull limit).stand.spindle y).state = (s.stand.spindle y).state
      ∧ (s.closeIfFull limit).stand.transfers = s.stand.transfers := fun y => by
    unfold State.closeIfFull
    split
    · exact ⟨rfl, rfl⟩
    · obtain ⟨hstate, htransfers, _⟩ := StandKept.closePanel s ‹Pos› id
      exact ⟨(hstate y).trans (by cases y <;> rfl), htransfers⟩
  generalize s.closeIfFull limit = t at hfull ⊢
  obtain ⟨hstate, htransfers, hpanel⟩ := StandKept.closePanel t stop flag
  refine ⟨fun y => ?_, htransfers.trans (hfull .a).2, hpanel⟩
  rw [hstate y]
  cases y
  · exact (hfull .a).1
  · exact (hfull .b).1

/-- From `s` to `t` a rewind has cut over from a winding spindle to the other (R148, R150, log 31). -/
structure CutOver (s : State) (w : SpindleId) (t : State) : Prop where
  full : (t.stand.spindle w).state = .full
  winding : (t.stand.spindle (otherSpindle w)).state = .winding
  wound : (t.stand.spindle (otherSpindle w)).wound = 0
  hold : t.stand.overfill = false
  panel : t.stand.panel = s.stand.panel
  transfers : t.stand.transfers = satInc s.stand.transfers
  cut : t.stand.cutDue = some (s.now + 100000)

theorem transferTo_cutOver {s : State} {w : SpindleId} (hw : (s.stand.spindle w).state = .winding) :
    CutOver s w (s.transferTo (otherSpindle w)) := by
  have hold : ∀ x : Spindle, x.state = .winding → (if x.state = .winding then { x with state := .full } else x).state = .full :=
    fun x hx => by rw [if_pos hx]
  cases w <;> exact ⟨hold _ hw, rfl, rfl, rfl, rfl, rfl, rfl⟩

/-- No spindle is armed behind a FULL one (R148). -/
theorem CutOver.transferArm {s t : State} {w : SpindleId} (h : CutOver s w t) : t.transferArm = t := by
  have hfull := h.full
  have hwinding : t.stand.inState .winding = some (otherSpindle w) := by
    have hother := h.winding
    unfold Stand.inState
    cases w
    · have ha : t.stand.a.state = .full := hfull
      exact (if_neg (by rw [ha]; decide)).trans (if_pos hother)
    · exact if_pos hother
  unfold State.transferArm
  split
  · rw [hwinding]
    dsimp only
    rw [otherSpindle_twice, Spindle.usable, hfull, if_neg (fun c => Bool.noConfusion c)]
  · rfl

/-- A rewind whose overfill hold waits for a rest that has come (R150). -/
structure State.RestCut (s : State) (w : SpindleId) : Prop where
  kind : s.sets.line.standKind = .rewind
  overfill : s.stand.overfill = true
  active : s.port.state = .active
  clear : s.rate.latch = false
  quiet : s.web.restDue = none
  still : s.rate.effective = 0
  winding : s.stand.inState .winding = some w
  ready : (s.stand.spindle (otherSpindle w)).state = .loaded ∨ (s.stand.spindle (otherSpindle w)).state = .arming
    ∨ (s.stand.spindle (otherSpindle w)).state = .synced

/-- The verdicts of a step leave the conditions of a cut at rest. -/
theorem State.RestCut.judgeDue {s : State} {w : SpindleId} (h : s.RestCut w) : s.judgeDue.RestCut w := by
  have hstill := judgeDue_still s
  have hkept := judgeDue_kept s
  have hkeeps := StandKept.judgeDue s
  have hhold := (judgeDue_judged s).1.hold.1
  generalize s.judgeDue = t at hstill hkept hkeeps hhold ⊢
  have hcalm := calm_of_kept hkept
  have hwinding : t.stand.inState .winding = s.stand.inState .winding := by
    unfold Stand.inState
    rw [show t.stand.a.state = s.stand.a.state from hkeeps.state .a, show t.stand.b.state = s.stand.b.state from hkeeps.state .b]
  refine ⟨?_, hhold.trans h.overfill, ?_, (congrArg Calm.latch hcalm :).trans h.clear,
    (congrArg (fun c : Calm => c.web.restDue) hcalm :).trans h.quiet, (congrArg Calm.effective hcalm :).trans h.still,
    hwinding.trans h.winding, ?_⟩
  · rw [sets_of_still hstill]
    exact h.kind
  · exact (congrArg (fun x : Calm × Box × StationState × RateState => x.2.2.1) hkept :).trans h.active
  · rw [hkeeps.state]
    exact h.ready

theorem State.RestCut.cut {s : State} {w : SpindleId} (h : s.RestCut w) : s.restCut = some (otherSpindle w) := by
  unfold State.restCut
  rw [if_pos ⟨h.kind, h.overfill, h.active, h.clear, by rw [State.quiet, h.quiet]; rfl, h.still⟩, h.winding]
  exact if_pos h.ready

/-- The consequences of a rest that an overfill hold waited for: the cut over, with the open panel split (R150, R151). -/
theorem State.RestCut.consequences {s : State} {w : SpindleId} (h : s.RestCut w) :
    ∃ v, CutOver v w s.consequences ∧ v.stand.panel = none ∧ v.stand.transfers = s.stand.transfers ∧ v.now = s.now := by
  have hrest := h.judgeDue
  have htransfers := (StandKept.judgeDue s).transfers
  have hnow := now_of_still (judgeDue_still s)
  unfold State.consequences
  generalize s.judgeDue = u at hrest htransfers hnow
  have hjoin : u.joinTest = u := if_neg fun c => StationState.noConfusion (c.1.symm.trans hrest.active)
  have hsplit := StandKept.split u (u.web.o - 1) u.web.o fun r => { r with split := true }
  have hstill : ((u.closeIfFull (u.web.o - 1)).closePanel u.web.o fun r => { r with split := true }).now = u.now :=
    now_of_still ((closePanel_still _ _ _).trans (closeIfFull_still _ _))
  rw [hjoin, State.cutAtRest, hrest.cut]
  dsimp only
  unfold State.splitCut
  generalize (u.closeIfFull (u.web.o - 1)).closePanel u.web.o _ = v at hsplit hstill
  have hw : (v.stand.spindle w).state = .winding := by
    rw [hsplit.state w]
    have := inState_eq_some hrest.winding
    cases w <;> exact this
  have hcut := transferTo_cutOver hw
  rw [hcut.transferArm]
  refine ⟨v, ?_, hsplit.panel, hsplit.transfers.trans htransfers, hstill.trans hnow⟩
  obtain ⟨hfull, hwinding, hwound, hhold, hpanel, hcount, hpulse⟩ := hcut
  generalize v.transferTo (otherSpindle w) = x at hfull hwinding hwound hhold hpanel hcount hpulse ⊢
  have hstand := zoneSettle_stand x
  generalize x.zoneSettle.limits = y at hstand ⊢
  rw [← hstand] at hfull hwinding hwound hhold hpanel hcount hpulse
  exact ⟨hfull, hwinding, hwound, hhold, hpanel, hcount, hpulse⟩

/-! # The rest timer -/

/-- A station as its rest timer expires, before the settling (R78). -/
def State.rested (s : State) (due : Nat) : State := { s.reachTime due with web.restDue := none }

theorem exec_restTimerExpiry_idle {s : State} (h : s.web.restDue = none) : exec .restTimerExpiry s = .next s := by
  show execRestTimerExpiry s = _
  rw [execRestTimerExpiry, h]

theorem exec_restTimerExpiry {s : State} {due : Nat} (h : s.web.restDue = some due) :
    exec .restTimerExpiry s = .next (s.rested due).settle := by
  show execRestTimerExpiry s = _
  rw [execRestTimerExpiry, h]
  rfl

/-- The expiry makes the station quiet and leaves the rest; where an overfill hold waited for it, it cuts over (R78, R150). -/
theorem restTimerExpiry_settled {s : State} (hk : s.KnifeObeys) (due : Nat) :
    let t := (s.rested due).settle
    t.now = max s.now due ∧ t.calm = { s.calm with web := { s.web with restDue := none } }
      ∧ t.still = { s.still with now := t.now, restDue := none }
      ∧ ∀ w, (s.rested due).RestCut w →
        ∃ v, CutOver v w t ∧ v.stand.panel = none ∧ v.stand.transfers = s.stand.transfers ∧ v.now = t.now := by
  have hobeys : (s.rested due).KnifeObeys := hk
  have hcalm := settle_calm_of_obeys hobeys
  have hstill := settle_still (s.rested due)
  have hcons := settle_of_obeys hobeys
  generalize (s.rested due).settle = t at hcalm hstill hcons
  have hnow : t.now = max s.now due := now_of_still hstill
  refine ⟨hnow, hcalm, ?_, fun w hw => ?_⟩
  · rw [hnow, hstill]
    rfl
  · obtain ⟨v, hcut, hpanel, htransfers, hv⟩ := hw.consequences
    rw [← hcons] at hcut
    exact ⟨v, hcut, hpanel, htransfers, hv.trans hnow.symm⟩

/-! # An ADVANCE at rest -/

/-- The last two histories of a neighbour's record after its ADVANCE (R174). -/
theorem advanced_hist (p : Peer) (now : Nat) (a : AdvancePayload) :
    ((p.heard now).advanced true a).hist0 = some { outlet := a.outlet, rate := a.rate }
      ∧ ((p.heard now).advanced true a).hist1 = if p.presence = .live then p.hist0 else none := by
  refine ⟨rfl, ?_⟩
  show (if p.presence = .live then p else { frames := p.frames }).hist0 = _
  split <;> rfl

/-- The history before an ADVANCE that leaves the station at rest: a LIVE record of a rate 0 and the same outlet count (R78). -/
def Peer.RestsAt (p : Peer) (a : AdvancePayload) : Prop :=
  a.rate = 0 ∧ p.presence = .live ∧ p.hist0 = some { outlet := a.outlet, rate := 0 }

/-- The rest test at an ADVANCE that has been entered (R78). -/
theorem atRest_iff {t : State} {id : StationId} {p : Peer} {now : Nat} {a : AdvancePayload}
    (hp : t.peer id = (p.heard now).advanced true a) :
    t.atRest id = true ↔ t.rate.effective = 0 ∧ t.web.restDue = none ∧ p.RestsAt a := by
  obtain ⟨h0, h1⟩ := advanced_hist p now a
  have hquiet : t.quiet = true ↔ t.web.restDue = none := Option.isNone_iff_eq_none
  unfold State.atRest
  rw [Bool.and_eq_true, Bool.and_eq_true, beq_iff_eq, hquiet, and_assoc, hp, h0, h1, Peer.RestsAt]
  refine and_congr_right fun _ => and_congr_right fun _ => ?_
  by_cases hl : p.presence = .live
  · rw [if_pos hl]
    cases p.hist0 with
    | none => simp
    | some y =>
      obtain ⟨outlet, rate⟩ := y
      simp only [Bool.and_eq_true, beq_iff_eq, Option.some.injEq, Heard.mk.injEq]
      constructor
      · rintro ⟨⟨ho, ha⟩, hy⟩
        exact ⟨ha, hl, ho.symm, hy⟩
      · rintro ⟨ha, -, ho, hy⟩
        exact ⟨⟨ho.symm, ha⟩, hy⟩
  · rw [if_neg hl]
    simp [hl]

/-- An upstream ADVANCE is entered and then taken by the Web Tracker (R173). -/
theorem advancedBy_upstream {s : State} {id : StationId} (h : id.val + 1 = s.ownId.val) (a : AdvancePayload) :
    ∃ t : State, s.advancedBy id a = t.upstreamAdvance id a ∧ t.peer id = ((s.peer id).heard s.now).advanced true a ∧ t.web = s.web
      ∧ t.sets = s.sets ∧ t.rate = s.rate ∧ t.cad = s.cad := by
  have hneighbour : s.isNeighbour id = true := by
    rw [State.isNeighbour, (upstream_iff s id).mpr h]
    simp
  obtain ⟨_, eweb, _, esets⟩ := enterPeer_rest s id fun r => r.advanced (s.isNeighbour id) a
  have epeer := enterPeer_peer s id id fun r => r.advanced (s.isNeighbour id) a
  have erate : ∀ f : Peer → Peer, (s.enterPeer id f).rate = s.rate ∧ (s.enterPeer id f).cad = s.cad := fun f => by
    unfold State.enterPeer
    dsimp only
    split <;> exact ⟨rfl, rfl⟩
  rw [if_pos rfl, hneighbour] at epeer
  rw [hneighbour] at eweb esets
  refine ⟨s.enterPeer id fun r => r.advanced true a, ?_, epeer, eweb, esets, (erate _).1, (erate _).2⟩
  unfold State.advancedBy
  rw [hneighbour]
  refine if_pos ?_
  rw [upstream_iff, State.ownId, esets, ← State.ownId]
  exact h

/-- The panel lengths of an ADVANCE leave the upstream view. -/
theorem advanceLengths_view (s : State) (id : StationId) (a : AdvancePayload) : (s.advanceLengths id a).upstreamView = s.upstreamView := by
  have raised : ∀ f : StationFault, (s.raiseFault f).upstreamView = s.upstreamView := fun f => upstreamView_of_still (raiseFault_still s f)
  have none : (s.noneLengths id a).upstreamView = s.upstreamView := by
    unfold State.noneLengths
    split
    · rfl
    · split
      · exact raised _
      · rfl
  have matched : (s.followerMatch id a).upstreamView = s.upstreamView := by
    unfold State.followerMatch
    split
    · rfl
    · split
      · rfl
      · exact raised _
  unfold State.advanceLengths
  split
  · split
    · exact none
    · rfl
  · rfl
  · split
    · exact matched
    · rfl

/-- The count's check leaves what the rest test reads, but for a rate that a fault sets to 0 (R93, log 35). -/
theorem checkCount_rest (s : State) (expected count : Byte) (id : StationId) :
    (s.checkCount expected count id).peer = s.peer ∧ (s.checkCount expected count id).sets = s.sets
      ∧ (s.checkCount expected count id).cad = s.cad ∧ (s.rate.effective = 0 → (s.checkCount expected count id).rate.effective = 0) := by
  have hstill := raiseFault_still s (.markGap expected count id)
  have hrises := Rises.raiseFault s (.markGap expected count id)
  unfold State.checkCount
  dsimp only
  split
  · have hpeers : (s.raiseFault (.markGap expected count id)).peers = s.peers := congrArg Still.peers hstill
    refine ⟨?_, congrArg Still.sets hstill, congrArg Still.cad hstill, hrises.2.1⟩
    funext y
    show (s.raiseFault (.markGap expected count id)).peers[y] = s.peers[y]
    rw [hpeers]
  · exact ⟨rfl, rfl, rfl, fun h => h⟩

/-- At rest the upstream ADVANCE latches K, and otherwise it leaves K (R78, R79). -/
theorem upstreamAdvance_view {s : State} {id : StationId} {p : Peer} {now : Nat} {a : AdvancePayload}
    (hp : s.peer id = (p.heard now).advanced true a) :
    (s.rate.effective = 0 → s.web.restDue = none → p.RestsAt a →
        (s.upstreamAdvance id a).upstreamView = (a.outlet - s.web.i - toPos s.spanLength, true, satInc s.web.latches, a.sent, true))
      ∧ ((s.web.restDue ≠ none ∨ ¬p.RestsAt a ∨ 0 < s.rate.effective ∧ (s.web.baseline = false ∨ a.sent = s.web.received)) →
        (s.upstreamAdvance id a).upstreamView = (s.web.k, s.web.latched, s.web.latches, a.sent, true)) := by
  have hweb := checkCount_web s s.web.received a.sent id
  obtain ⟨hpeer, hsets, hcad, heffective⟩ := checkCount_rest s s.web.received a.sent id
  have hrate : s.web.baseline = false ∨ a.sent = s.web.received → (s.checkCount s.web.received a.sent id).rate = s.rate := fun h => by
    rw [checkCount_expected h id]
  unfold State.upstreamAdvance
  generalize s.checkCount s.web.received a.sent id = t at hweb hpeer hsets hcad heffective hrate
  have hrest : t.atRest id = true ↔ t.rate.effective = 0 ∧ s.web.restDue = none ∧ p.RestsAt a := by
    rw [atRest_iff (by rw [hpeer]; exact hp), hweb]
  dsimp only
  refine ⟨fun h0 hdue hrests => ?_, fun h => ?_⟩
  · have hspan : t.spanLength = s.spanLength := by
      simp only [State.spanLength, State.level, hsets, hcad]
    rw [if_pos (hrest.mpr ⟨heffective h0, hdue, hrests⟩), State.latchK, (MarksPass.leaveSpan _).1, hspan, hweb]
    rfl
  · have hno : ¬t.atRest id = true := fun c => by
      obtain ⟨h0, hdue, hrests⟩ := hrest.mp c
      obtain h | h | ⟨hpos, hcount⟩ := h
      · exact h hdue
      · exact h hrests
      · rw [hrate hcount] at h0
        omega
    rw [if_neg hno, State.upstreamView, hweb]

/-- The latch of K once an upstream ADVANCE has settled. -/
theorem exec_advanceFrame_view {s : State} {id : StationId} (hm : s.link.mode = .on) (hn : id.val < s.sets.line.n)
    (h : id.val + 1 = s.ownId.val) (a : AdvancePayload) :
    Completes (.advanceFrame id a) s fun t => t.upstreamView = (s.advancedBy id a).upstreamView := by
  have ho : id ≠ s.ownId := fun c => by
    rw [← c] at h
    omega
  refine ⟨_, exec_advanceFrame hm hn ho, ?_⟩
  have hlengths := advanceLengths_view (s.advancedBy id a) id a
  generalize (s.advancedBy id a).advanceLengths id a = u at hlengths
  have hwarm := upstreamView_of_still (keepWarmPeers_keeps u).1
  have hsettle := upstreamView_of_still (settle_still u.keepWarmPeers)
  generalize u.keepWarmPeers.settle = t at hsettle
  exact hsettle.trans (hwarm.trans hlengths)

/-- Settles O55: the expiry settles to the cut over by the conditions of a cut at rest; the record an upstream ADVANCE leaves decides the rest
test, and K is latched exactly where it holds. -/
theorem restLatchesK : Obligations.RestLatchesK := by
  unfold Obligations.RestLatchesK
  refine ⟨fun s => ⟨exec_restTimerExpiry_idle, fun due hdue hk => ⟨_, exec_restTimerExpiry hdue, ?_⟩⟩, fun id a s hm hid hn => ?_⟩
  · have hsettled := restTimerExpiry_settled hk due
    generalize (s.rested due).settle = t at hsettled ⊢
    obtain ⟨hnow, hcalm, hstill, hcut⟩ := hsettled
    refine ⟨hnow, hcalm, hstill, fun hkind hover hactive hclear heffective w hw hready => ?_⟩
    obtain ⟨v, ⟨hfull, hwinding, hwound, hhold, hpanel, hcount, hpulse⟩, vpanel, vtransfers, vnow⟩ :=
      hcut w ⟨hkind, hover, hactive, hclear, rfl, heffective, hw, hready⟩
    rw [vpanel] at hpanel
    rw [vtransfers] at hcount
    rw [vnow] at hpulse
    exact ⟨hfull, hwinding, hwound, hhold, hpanel, hcount, hpulse⟩
  · obtain ⟨u, hadvanced, upeer, uweb, usets, urate, ucad⟩ := advancedBy_upstream hid a
    obtain ⟨hlatches, hkeeps⟩ := upstreamAdvance_view upeer
    refine (exec_advanceFrame_view hm hn hid a).imp fun t ht => ?_
    rw [hadvanced] at ht
    rw [urate, uweb] at hlatches hkeeps
    refine ⟨fun h => ?_, fun h => ?_⟩
    · obtain ⟨h0, hdue, ha, hlive, hhist⟩ := h
      have hview := ht.trans (hlatches h0 hdue ⟨ha, hlive, hhist⟩)
      have hspan : u.spanLength = s.spanLength := by
        simp only [State.spanLength, State.level, usets, ucad]
      rw [hspan] at hview
      exact ⟨congrArg (fun x => x.2.1) hview, congrArg (fun x => x.2.2.1) hview, congrArg Prod.fst hview⟩
    · have hview := ht.trans (hkeeps ?_)
      · exact ⟨congrArg Prod.fst hview, congrArg (fun x => x.2.1) hview, congrArg (fun x => x.2.2.1) hview⟩
      · obtain h | h | h | h | h | h := h
        · exact .inl h
        · exact .inr (.inl fun c => h c.1)
        · exact .inr (.inl fun c => h c.2.1)
        · exact .inr (.inl fun c => Option.some_ne_none _ (c.2.2.symm.trans h))
        · refine .inr (.inl fun c => ?_)
          rw [c.2.2] at h
          simp at h
        · exact .inr (.inr h)

end Sys2Proof.Machine
end

section
namespace Sys2Proof.Machine

/-! # What a settling makes of the zones -/

/-! ## The valves (R104) -/

/-- A READY zone with debt below 3 opens while the rate is above 0 (R104). -/
theorem valveRule_opens {r : Zone} {rate : Nat} (h : r.state = .ready) (hd : r.debt < 3) (hr : 0 < rate) :
    r.valveRule rate = { r with state := .open } := if_pos ⟨h, hd, hr⟩

/-- A READY zone stays shut at rate 0, or with a debt of 3 (R104). -/
theorem valveRule_shut {r : Zone} {rate : Nat} (h : r.state = .ready) (hr : rate = 0 ∨ 3 ≤ r.debt) : r.valveRule rate = r := by
  unfold Zone.valveRule
  rw [if_neg (by omega), if_neg (by rw [h]; exact fun c => ZoneState.noConfusion c.1)]

/-- An OPEN zone stays open while the rate is above 0 (R104). -/
theorem valveRule_stays {r : Zone} {rate : Nat} (h : r.state = .open) (hr : 0 < rate) : r.valveRule rate = r := by
  unfold Zone.valveRule
  rw [if_neg (by rw [h]; exact fun c => ZoneState.noConfusion c.1), if_neg (by omega)]

/-- The valves touch a zone's state alone, and that only between READY and OPEN. -/
theorem valveRule_cases (r : Zone) (rate : Nat) :
    r.valveRule rate = r
      ∨ (r.state = .ready ∨ r.state = .open) ∧ ∃ st, (st = .ready ∨ st = .open) ∧ r.valveRule rate = { r with state := st } := by
  unfold Zone.valveRule
  split
  · exact .inr ⟨.inl (by tauto), _, .inr rfl, rfl⟩
  · split
    · exact .inr ⟨.inr (by tauto), _, .inl rfl, rfl⟩
    · exact .inl rfl

/-- The zones that ask for the drain once the valves have moved (R104, R110). -/
theorem requestsDrain_valveRule (r : Zone) (rate : Nat) : requestsDrain (r.valveRule rate) = true ↔
    1 ≤ r.debt ∧ (r.state = .ready ∧ (rate = 0 ∨ 3 ≤ r.debt) ∨ r.state = .open ∧ rate = 0) := by
  unfold requestsDrain
  rw [valveRule_debt, Bool.and_eq_true, beq_iff_eq, decide_eq_true_eq, and_comm]
  refine and_congr_right fun _ => ?_
  unfold Zone.valveRule
  split
  · rename_i h; simp [h.1]; omega
  · rename_i hn
    split
    · rename_i h; simp [h.1, h.2]
    · rename_i hc
      refine ⟨fun h => .inl ⟨h, by by_contra c; exact hn ⟨h, by omega, by omega⟩⟩, ?_⟩
      rintro (h | h)
      · exact h.1
      · exact absurd h hc

/-! ## The Drain Arbiter's choice (R111) -/

/-- Zone `z` goes before zone `x` at the Drain Arbiter, or is `x`: the higher debt, the lower number at equal debts (R111). -/
def DrainFirst (zones : Vector Zone 4) (z x : Fin 4) : Prop := zones[x].debt < zones[z].debt ∨ zones[x].debt = zones[z].debt ∧ z ≤ x

theorem DrainFirst.refl (zones : Vector Zone 4) (z : Fin 4) : DrainFirst zones z z := .inr ⟨rfl, le_refl z⟩

theorem DrainFirst.trans {zones : Vector Zone 4} {x y z : Fin 4} (h : DrainFirst zones z y) (g : DrainFirst zones y x) :
    DrainFirst zones z x := by
  unfold DrainFirst at *
  omega

/-- The best of the zones seen so far: none where none of them asks for the drain, else the one that goes first of those that ask. -/
def DrainBest (zones : Vector Zone 4) (seen : List (Fin 4)) : Option (Fin 4) → Prop
  | none => ∀ x ∈ seen, requestsDrain zones[x] = false
  | some z => z ∈ seen ∧ requestsDrain zones[z] = true ∧ ∀ x ∈ seen, requestsDrain zones[x] = true → DrainFirst zones z x

/-- One more zone weighed, of a higher number than all before it. -/
theorem DrainBest.weigh {zones : Vector Zone 4} {seen : List (Fin 4)} {best : Option (Fin 4)} (h : DrainBest zones seen best) {x : Fin 4}
    (hx : ∀ y ∈ seen, y < x) : DrainBest zones (seen ++ [x]) (betterForDrain zones best x) := by
  have among {z : Fin 4} (hseen : ∀ y ∈ seen, requestsDrain zones[y] = true → DrainFirst zones z y)
      (hlast : requestsDrain zones[x] = true → DrainFirst zones z x) :
      ∀ y ∈ seen ++ [x], requestsDrain zones[y] = true → DrainFirst zones z y := fun y hy =>
    (List.mem_append.mp hy).elim (hseen y) fun c => by rw [List.mem_singleton.mp c]; exact hlast
  unfold betterForDrain
  split
  · rename_i hr
    cases best with
    | none => exact ⟨by simp, hr, among (fun y hy c => by rw [h y hy] at c; cases c) fun _ => .refl zones x⟩
    | some z =>
      obtain ⟨hz, hzr, hfirst⟩ := h
      simp only
      split
      · rename_i hd
        exact ⟨by simp, hr, among (fun y hy c => DrainFirst.trans (.inl hd) (hfirst y hy c)) fun _ => .refl zones x⟩
      · rename_i hd
        have hlt := hx z hz
        exact ⟨by simp [hz], hzr, among hfirst fun _ => by unfold DrainFirst; omega⟩
  · rename_i hr
    cases best with
    | none =>
      intro y hy
      obtain hy | hy := List.mem_append.mp hy
      · exact h y hy
      · rw [List.mem_singleton.mp hy]
        exact Bool.eq_false_of_not_eq_true hr
    | some z =>
      obtain ⟨hz, hzr, hfirst⟩ := h
      exact ⟨by simp [hz], hzr, among hfirst fun c => absurd c hr⟩

/-- The Drain Arbiter's choice is the best of all four zones (R111). -/
theorem drainChoice_best (zones : Vector Zone 4) : DrainBest zones (List.finRange 4) (drainChoice zones) := by
  have fold : ∀ l : List (Fin 4), l.Pairwise (· < ·) → DrainBest zones l (l.foldl (betterForDrain zones) none) := by
    intro l
    induction l using List.reverseRecOn with
    | nil => intro _ x hx; cases hx
    | append_singleton l x ih =>
      intro hl
      obtain ⟨hl, _, hx⟩ := List.pairwise_append.mp hl
      rw [List.foldl_append]
      exact (ih hl).weigh fun y hy => hx y hy x (List.mem_singleton.mpr rfl)
  exact fold _ (List.pairwise_lt_finRange 4)

theorem drainChoice_eq_none {zones : Vector Zone 4} : drainChoice zones = none ↔ ∀ z : Fin 4, requestsDrain zones[z] = false := by
  have hbest := drainChoice_best zones
  refine ⟨fun h => ?_, fun h => ?_⟩
  · rw [h] at hbest
    exact fun z => hbest z (List.mem_finRange z)
  · cases hc : drainChoice zones with
    | none => rfl
    | some z =>
      rw [hc] at hbest
      obtain ⟨_, hr, _⟩ := hbest
      exact Bool.noConfusion ((h z).symm.trans hr)

theorem drainChoice_eq_some {zones : Vector Zone 4} {z : Fin 4} : drainChoice zones = some z ↔
    requestsDrain zones[z] = true ∧ ∀ x : Fin 4, requestsDrain zones[x] = true → DrainFirst zones z x := by
  have hbest := drainChoice_best zones
  refine ⟨fun h => ?_, fun ⟨hr, hfirst⟩ => ?_⟩
  · rw [h] at hbest
    obtain ⟨_, hr, hfirst⟩ := hbest
    exact ⟨hr, fun x => hfirst x (List.mem_finRange x)⟩
  · cases hc : drainChoice zones with
    | none => exact Bool.noConfusion ((drainChoice_eq_none.mp hc z).symm.trans hr)
    | some y =>
      rw [hc] at hbest
      obtain ⟨_, hyr, hyfirst⟩ := hbest
      have hzy := hfirst y hyr
      have hyz := hyfirst z (List.mem_finRange z) hr
      unfold DrainFirst at hzy hyz
      exact congrArg some (by omega)

/-! ## The drain and the entry to keep-warm (R111, R115) -/

/-- The Drain Arbiter leaves the box as it is, or grants the free drain to its choice (R111). -/
theorem arbitrate_cases (s : State) :
    s.arbitrate = s ∧ (s.box.owner ≠ none ∨ drainChoice s.box.zones = none)
      ∨ ∃ z, s.box.owner = none ∧ drainChoice s.box.zones = some z ∧ s.arbitrate = s.grantDrain z := by
  unfold State.arbitrate
  cases ho : s.box.owner with
  | some y => exact .inl ⟨rfl, .inl (Option.some_ne_none y)⟩
  | none =>
    cases hc : drainChoice s.box.zones with
    | none => exact .inl ⟨rfl, .inr rfl⟩
    | some z => exact .inr ⟨z, rfl, rfl, rfl⟩

/-- What the entry to keep-warm leaves of the drain, the idle timer and the forced purges. -/
theorem keepWarmEntry_keeps (s : State) : s.keepWarmEntry.box.owner = s.box.owner ∧ s.keepWarmEntry.box.purgeDue = s.box.purgeDue
    ∧ s.keepWarmEntry.box.idle = s.box.idle ∧ s.keepWarmEntry.box.forced = s.box.forced := by
  unfold State.keepWarmEntry
  split <;> exact ⟨rfl, rfl, rfl, rfl⟩

/-- Keep-warm is not entered where one of its conditions fails (R115). -/
theorem keepWarmEntry_skips {s : State} (h : ¬(s.box.idle = .expired ∧ s.box.inForce = false ∧ 0 < s.sets.box.zoneCount
    ∧ s.running = true ∧ s.boxAtRest = true)) : s.keepWarmEntry = s := if_neg h

theorem boxAtRest_iff (s : State) : s.boxAtRest = true ↔
    ∀ z, s.isZone z = true → (s.zone z).state ≠ .open ∧ (s.zone z).state ≠ .purge ∧ (s.zone z).state ≠ .warming := by
  unfold State.boxAtRest
  rw [List.all_eq_true]
  refine ⟨fun h z hz => ?_, fun h z _ => ?_⟩
  · simpa [hz, and_assoc] using h z (List.mem_finRange z)
  · cases hz : s.isZone z with
    | false => rfl
    | true => simpa [and_assoc] using h z hz

/-- What the arbitration moves of a zone: nothing, or a READY zone with a debt that takes the free drain goes to PURGE (R110, R111). -/
theorem arbitrate_zone_cases (s : State) (z : Fin 4) : s.arbitrate.zone z = s.zone z
    ∨ (s.zone z).state = .ready ∧ 1 ≤ (s.zone z).debt ∧ s.arbitrate.zone z = { s.zone z with state := .purge } := by
  obtain ⟨e, _⟩ | ⟨y, _, hc, e⟩ := arbitrate_cases s
  · rw [e]; exact .inl rfl
  · rw [e, grantDrain_zone]
    split
    · rename_i hy
      subst hy
      have hr := (drainChoice_eq_some.mp hc).1
      simp only [requestsDrain, Bool.and_eq_true, beq_iff_eq, decide_eq_true_eq] at hr
      exact .inr ⟨hr.1, hr.2, rfl⟩
    · exact .inl rfl

/-- What the settling makes of a zone: what the valves make of it, and a zone then READY may go to PURGE, with a debt, or once the idle
timer has expired to KEEPWARM or OFF (R104, R111, R115). -/
theorem zoneSettle_zone_cases (s : State) (z : Fin 4) :
    let r := (s.zone z).valveRule s.rate.effective
    s.zoneSettle.zone z = r
      ∨ r.state = .ready ∧ 1 ≤ r.debt ∧ s.zoneSettle.zone z = { r with state := .purge }
      ∨ r.state = .ready ∧ s.box.idle = .expired ∧ s.zoneSettle.zone z = r.toKeepWarm (s.sets.box.mask.getLsbD z.val) := by
  intro r
  have hr : s.moveValves.zone z = r := moveValves_zone s z
  have hidle : s.moveValves.arbitrate.box.idle = s.box.idle := (arbitrate_keeps _).2.2
  have hsets : s.moveValves.arbitrate.sets = s.sets :=
    congrArg Still.sets (show s.moveValves.arbitrate.still = s.still by simp)
  have harb := arbitrate_zone_cases s.moveValves z
  rw [hr] at harb
  show s.moveValves.arbitrate.keepWarmEntry.zone z = r ∨ _ ∧ _ ∧ s.moveValves.arbitrate.keepWarmEntry.zone z = _
    ∨ _ ∧ _ ∧ s.moveValves.arbitrate.keepWarmEntry.zone z = _
  by_cases he : s.box.idle = .expired
  · obtain e | ⟨hready, e⟩ := keepWarmEntry_zone s.moveValves.arbitrate z
    · rw [e]
      exact harb.imp_right .inl
    · obtain ha | ⟨_, _, ha⟩ := harb
      · rw [ha] at hready
        exact .inr (.inr ⟨hready, he, by rw [e, ha, hsets]⟩)
      · rw [ha] at hready
        cases hready
  · rw [keepWarmEntry_skips (by rw [hidle]; exact fun c => he c.1)]
    exact harb.imp_right .inl

/-- The settling leaves a zone that is neither READY nor OPEN. -/
theorem zoneSettle_zone_still {s : State} {z : Fin 4} (hr : (s.zone z).state ≠ .ready) (ho : (s.zone z).state ≠ .open) :
    s.zoneSettle.zone z = s.zone z := by
  have h := zoneSettle_zone_cases s z
  rw [valveRule_still ⟨hr, ho⟩] at h
  exact h.resolve_right fun c => c.elim (fun c => hr c.1) fun c => hr c.1

/-- A zone that the valves leave OPEN is OPEN once the zones have settled. -/
theorem zoneSettle_zone_open {s : State} {z : Fin 4} (h : ((s.zone z).valveRule s.rate.effective).state = .open) :
    s.zoneSettle.zone z = (s.zone z).valveRule s.rate.effective := by
  refine (zoneSettle_zone_cases s z).resolve_right fun c => ?_
  rw [h] at c
  exact c.elim (fun c => ZoneState.noConfusion c.1) fun c => ZoneState.noConfusion c.1

/-- A zone without a debt that the valves leave READY is READY once the zones have settled, while the idle timer has not expired. -/
theorem zoneSettle_zone_ready {s : State} {z : Fin 4} (hd : (s.zone z).debt = 0) (hi : s.box.idle ≠ .expired) :
    s.zoneSettle.zone z = (s.zone z).valveRule s.rate.effective := by
  refine (zoneSettle_zone_cases s z).resolve_right fun c => ?_
  rw [valveRule_debt, hd] at c
  exact c.elim (fun c => absurd c.2.1 (by decide)) fun c => hi c.2.1

/-- What the settling never touches of a zone. -/
theorem zoneSettle_zone_keeps (s : State) (z : Fin 4) :
    (s.zoneSettle.zone z).raw = (s.zone z).raw ∧ (s.zoneSettle.zone z).temp = (s.zone z).temp
      ∧ (s.zoneSettle.zone z).sensorFault = (s.zone z).sensorFault ∧ (s.zoneSettle.zone z).counter = (s.zone z).counter
      ∧ (s.zoneSettle.zone z).debt = (s.zone z).debt ∧ (s.zoneSettle.zone z).change = (s.zone z).change
      ∧ (s.box.idle ≠ .expired → (s.zoneSettle.zone z).heater = (s.zone z).heater) := by
  have hv : ∃ st, (s.zone z).valveRule s.rate.effective = { s.zone z with state := st } :=
    (valveRule_cases (s.zone z) s.rate.effective).elim (fun e => ⟨_, e⟩) fun ⟨_, st, _, e⟩ => ⟨st, e⟩
  obtain ⟨st, hv⟩ := hv
  have h := zoneSettle_zone_cases s z
  rw [hv] at h
  obtain h | ⟨_, _, h⟩ | ⟨_, he, h⟩ := h
  · rw [h]; exact ⟨rfl, rfl, rfl, rfl, rfl, rfl, fun _ => rfl⟩
  · rw [h]; exact ⟨rfl, rfl, rfl, rfl, rfl, rfl, fun _ => rfl⟩
  · rw [h]
    unfold Zone.toKeepWarm
    split <;> exact ⟨rfl, rfl, rfl, rfl, rfl, rfl, fun c => absurd he c⟩

/-- The zone states that a READY or OPEN zone can settle to. -/
theorem zoneSettle_zone_states {s : State} {z : Fin 4} (h : (s.zone z).state = .ready ∨ (s.zone z).state = .open) :
    (s.zoneSettle.zone z).state ≠ .warming ∧ (s.zoneSettle.zone z).state ≠ .fault := by
  have hv : ((s.zone z).valveRule s.rate.effective).state = .ready ∨ ((s.zone z).valveRule s.rate.effective).state = .open := by
    obtain e | ⟨_, st, hst, e⟩ := valveRule_cases (s.zone z) s.rate.effective
    · rw [e]; exact h
    · rw [e]; exact hst
  obtain e | ⟨_, _, e⟩ | ⟨_, _, e⟩ := zoneSettle_zone_cases s z
  · rw [e]
    obtain c | c := hv <;> rw [c] <;> decide
  · rw [e]; exact ⟨fun c => ZoneState.noConfusion c, fun c => ZoneState.noConfusion c⟩
  · rw [e]
    unfold Zone.toKeepWarm
    split <;> exact ⟨fun c => ZoneState.noConfusion c, fun c => ZoneState.noConfusion c⟩

/-- What the settling leaves of the idle timer and the count of forced purges. -/
theorem zoneSettle_counts (s : State) : s.zoneSettle.box.idle = s.box.idle ∧ s.zoneSettle.box.forced = s.box.forced := by
  obtain ⟨_, _, hidle, hforced⟩ := keepWarmEntry_keeps s.moveValves.arbitrate
  refine ⟨hidle.trans (arbitrate_keeps _).2.2, hforced.trans ?_⟩
  obtain ⟨e, _⟩ | ⟨_, _, _, e⟩ := arbitrate_cases s.moveValves <;> (rw [e]; rfl)

/-- Where no zone asks for the drain, and where it has an owner, the settling leaves it (R111). -/
theorem zoneSettle_owner_kept {s : State} (h : s.box.owner ≠ none ∨ drainChoice s.moveValves.box.zones = none) :
    s.zoneSettle.box.owner = s.box.owner := by
  refine (keepWarmEntry_keeps s.moveValves.arbitrate).1.trans ?_
  obtain ⟨e, _⟩ | ⟨z, ho, hc, _⟩ := arbitrate_cases s.moveValves
  · rw [e]; rfl
  · exact h.elim (fun c => absurd ho c) fun c => absurd (hc.symm.trans c) (Option.some_ne_none z)

/-- The free drain goes to the Drain Arbiter's choice once the valves have moved (R104, R111): that zone is in PURGE and the purge timer
starts. -/
theorem zoneSettle_granted {s : State} {z : Fin 4} (ho : s.box.owner = none) (hc : drainChoice s.moveValves.box.zones = some z) :
    s.zoneSettle.box.owner = some z ∧ s.zoneSettle.box.purgeDue = s.now + 1000000 * s.sets.box.purgeTime
      ∧ s.zoneSettle.zone z = { (s.zone z).valveRule s.rate.effective with state := .purge } := by
  obtain ⟨_, hno⟩ | ⟨y, _, hy, e⟩ := arbitrate_cases s.moveValves
  · exact hno.elim (fun c => absurd ho c) fun c => absurd (hc.symm.trans c) (Option.some_ne_none z)
  · cases hy.symm.trans hc
    have hz : s.moveValves.arbitrate.zone z = { (s.zone z).valveRule s.rate.effective with state := .purge } := by
      rw [e, grantDrain_zone, if_pos rfl, moveValves_zone]
    obtain ⟨howner, hdue, _⟩ := keepWarmEntry_keeps s.moveValves.arbitrate
    refine ⟨howner.trans (by rw [e]; rfl), hdue.trans (by rw [e]; rfl), ?_⟩
    obtain h | ⟨hr, _⟩ := keepWarmEntry_zone s.moveValves.arbitrate z
    · exact h.trans hz
    · rw [hz] at hr
      cases hr

/-- The drain's owner after the zones have settled, where it was free before (R111). -/
theorem zoneSettle_owner_free {s : State} (ho : s.box.owner = none) :
    s.zoneSettle.box.owner = drainChoice s.moveValves.box.zones := by
  cases hc : drainChoice s.moveValves.box.zones with
  | none => exact (zoneSettle_owner_kept (.inr hc)).trans ho
  | some z => exact (zoneSettle_granted ho hc).1

/-- A zone asks for the drain once the valves have moved (R104, R110). -/
def State.Asks (s : State) (z : Fin 4) : Prop :=
  1 ≤ (s.zone z).debt ∧ ((s.zone z).state = .ready ∧ (s.rate.effective = 0 ∨ 3 ≤ (s.zone z).debt)
    ∨ (s.zone z).state = .open ∧ s.rate.effective = 0)

theorem asks_iff (s : State) (z : Fin 4) : requestsDrain s.moveValves.box.zones[z] = true ↔ s.Asks z := by
  have h := moveValves_zone s z
  unfold State.zone at h
  rw [h]
  exact requestsDrain_valveRule (s.zone z) s.rate.effective

/-- The Drain Arbiter's order reads the debts alone, which the valves leave. -/
theorem drainFirst_moveValves (s : State) (z x : Fin 4) : DrainFirst s.moveValves.box.zones z x ↔
    (s.zone x).debt < (s.zone z).debt ∨ (s.zone x).debt = (s.zone z).debt ∧ z ≤ x := by
  have hdebt : ∀ y : Fin 4, s.moveValves.box.zones[y].debt = (s.zone y).debt := fun y =>
    (congrArg Zone.debt (moveValves_zone s y)).trans (valveRule_debt _ _)
  unfold DrainFirst
  rw [hdebt, hdebt]

/-- The free drain stays free exactly where no zone asks for it (R111). -/
theorem drainChoice_moveValves_none (s : State) : drainChoice s.moveValves.box.zones = none ↔ ∀ z, ¬s.Asks z := by
  rw [drainChoice_eq_none]
  exact forall_congr' fun z => by rw [← asks_iff, Bool.not_eq_true]

/-- The free drain goes to the asking zone of the highest debt, the lowest number among equals (R111). -/
theorem drainChoice_moveValves_some (s : State) (z : Fin 4) : drainChoice s.moveValves.box.zones = some z ↔
    s.Asks z ∧ ∀ x, s.Asks x → (s.zone x).debt < (s.zone z).debt ∨ (s.zone x).debt = (s.zone z).debt ∧ z ≤ x := by
  rw [drainChoice_eq_some, asks_iff]
  exact and_congr_right fun _ => forall_congr' fun x => by rw [asks_iff, drainFirst_moveValves]

/-! ## A whole settling -/

/-- Where the knife has obeyed the latch, a settling makes of the box what the zones' share of it makes. -/
theorem settle_box_of_obeys {s : State} (h : s.KnifeObeys) : s.settle.box = s.zoneSettle.box := by
  rw [settle_of_obeys h, consequences_box]

theorem settle_zone_of_obeys {s : State} (h : s.KnifeObeys) (z : Fin 4) : s.settle.zone z = s.zoneSettle.zone z :=
  congrArg (fun b : Box => b.zones[z]) (settle_box_of_obeys h)

/-- A cause of the zones sets their pending bit (R121, R194). -/
theorem signal_zone_flag (s : State) : (s.signal .zone).port.ip.getLsbD 3 = true := by
  simp [State.signal, Source.flag, Source.bit]

/-- A pending bit that is set stays set (R194). -/
theorem Rises.pending {s t : State} (h : Rises s t) {k : Nat} (hs : s.port.ip.getLsbD k = true) : t.port.ip.getLsbD k = true := by
  obtain ⟨_, _, hbits⟩ := h
  exact hbits k hs

/-- The zones after a zone's event (R121). -/
theorem zoneEvent_zone (s : State) (z y : Fin 4) (r : Zone) (e : ZoneEvent) :
    (s.zoneEvent z r e).zone y = if y = z then { r with change := some (e, r.state) } else s.zone y := setZone_zone _ _ _ _

end Sys2Proof.Machine
end

section
namespace Sys2Proof.Machine

/-! # CLEAR ZONE (R107) -/

theorem exec_clearZone (b : Byte) (s : State) : exec (.clearZone [b]) s =
    .next (s.takeCommand [b] (s.clearZoneRefusal [b]) [] fun t => t.clearZone ((s.zoneArg [b]).getD 0)) := rfl

theorem exec_clearZone_refused {b : Byte} {s : State} {code : Byte} (hb : s.pat.status ≠ .checking)
    (h : s.clearZoneRefusal [b] = some code) : exec (.clearZone [b]) s = .next (s.answered [b] [code]) := by
  rw [exec_clearZone, h, takeCommand_refused hb]

/-- No zone of the station has this number. -/
theorem zoneArg_none {b : Byte} {s : State} (h : 4 ≤ b.toNat ∨ s.sets.box.zoneCount ≤ b.toNat) : s.zoneArg [b] = none := by
  show (zoneOf b).filter (fun z => s.isZone z) = none
  unfold zoneOf
  split
  · rw [Option.filter_some, if_neg]
    simp only [State.isZone, decide_eq_true_eq]
    omega
  · rfl

theorem zoneArg_some {b : Byte} {s : State} {z : Fin 4} (hz : z.val = b.toNat) (hn : z.val < s.sets.box.zoneCount) :
    s.zoneArg [b] = some z := by
  show (zoneOf b).filter (fun z => s.isZone z) = some z
  have hb : zoneOf b = some z := by
    unfold zoneOf
    rw [dif_pos (hz ▸ z.isLt)]
    exact congrArg some (Fin.ext hz.symm)
  rw [hb, Option.filter_some, if_pos (show s.isZone z = true from decide_eq_true hn)]

/-- In CONFIG every CLEAR ZONE is refused (R107). -/
theorem clearZoneRefusal_config {b : Byte} {s : State} (h : s.port.state = .config) : s.clearZoneRefusal [b] = some refusedState := by
  simp [State.clearZoneRefusal, State.running, h]

/-- A number that is no zone of the station is refused (R107). -/
theorem clearZoneRefusal_number {b : Byte} {s : State} (h : s.port.state ≠ .config) (hn : s.zoneArg [b] = none) :
    s.clearZoneRefusal [b] = some refusedValue := by
  simp [State.clearZoneRefusal, State.running, h, hn]

/-- The two refusals that the zone itself gives, in their order (R107). -/
theorem clearZoneRefusal_zone {b : Byte} {s : State} {z : Fin 4} (h : s.port.state ≠ .config) (hz : s.zoneArg [b] = some z) :
    s.clearZoneRefusal [b] =
      if (s.zone z).state ≠ .fault then some refusedState else if s.zoneUnfit z = true then some refusedValue else none := by
  simp [State.clearZoneRefusal, State.running, h, hz]

/-- A zone is fit to be cleared with a sound sample below its set point (R107). -/
theorem zoneUnfit_iff (s : State) (z : Fin 4) :
    s.zoneUnfit z = true ↔ (s.zone z).sensorFault = true ∨ s.sets.box.zones[z].setpoint ≤ (s.zone z).temp := by
  simp [State.zoneUnfit]

/-- The record of a cleared zone: WARMING, or KEEPWARM or OFF by the mask while keep-warm is in force (R107). -/
def State.clearedZone (s : State) (z : Fin 4) : Zone :=
  if s.box.inForce then { s.zone z with cause := none }.toKeepWarm (s.sets.box.mask.getLsbD z.val)
  else { s.zone z with cause := none }.toWarming

theorem clearedZone_state (s : State) (z : Fin 4) : (s.clearedZone z).state ≠ .ready ∧ (s.clearedZone z).state ≠ .open := by
  unfold State.clearedZone Zone.toKeepWarm
  split
  · split <;> exact ⟨fun c => ZoneState.noConfusion c, fun c => ZoneState.noConfusion c⟩
  · exact ⟨fun c => ZoneState.noConfusion c, fun c => ZoneState.noConfusion c⟩

/-- An accepted CLEAR ZONE puts the cleared record in place, and the settling leaves it (R107). -/
theorem clearZone_accepted {b : Byte} {s : State} {z : Fin 4} (hb : s.pat.status ≠ .checking) (hz : s.zoneArg [b] = some z)
    (h : s.clearZoneRefusal [b] = none) (hk : s.KnifeObeys) :
    Completes (.clearZone [b]) s fun t =>
      t.zone z = s.clearedZone z ∧ t.calm = s.calm ∧ t.still = s.stillAnswered [b] [0x01] ∧ t.port.response = [0x01] := by
  have hexec : exec (.clearZone [b]) s = .next ((((s.shiftOut 16).setZone z (s.clearedZone z)).settle).respond [accepted]) := by
    rw [exec_clearZone, h, takeCommand_accepted hb, hz]
    rfl
  have hobeys : ((s.shiftOut 16).setZone z (s.clearedZone z)).KnifeObeys := hk
  have hput : ((s.shiftOut 16).setZone z (s.clearedZone z)).zone z = s.clearedZone z := by rw [setZone_zone, if_pos rfl]
  have hstill := settle_still ((s.shiftOut 16).setZone z (s.clearedZone z))
  have hcalm := settle_calm_of_obeys hobeys
  have hzone := settle_zone_of_obeys hobeys z
  obtain ⟨hready, hopen⟩ := clearedZone_state s z
  rw [zoneSettle_zone_still (by rw [hput]; exact hready) (by rw [hput]; exact hopen), hput] at hzone
  refine ⟨_, hexec, ?_⟩
  generalize State.settle _ = t at hstill hcalm hzone ⊢
  exact ⟨hzone, hcalm, congrArg (fun x : Still => { x with response := [accepted] }) hstill, rfl⟩

/-- Settles O21: each refusal is the first that applies, and an accepted request leaves the cleared record. -/
theorem clearZoneJudged : Obligations.ClearZoneJudged := by
  intro b s hb
  refine ⟨fun hc => exec_clearZone_refused hb (clearZoneRefusal_config hc), fun hc => ⟨fun hn => ?_, fun z hz hn => ?_⟩⟩
  · exact exec_clearZone_refused hb (clearZoneRefusal_number hc (zoneArg_none hn))
  · have harg := zoneArg_some hz hn
    have href := clearZoneRefusal_zone hc harg
    have hclear (hf : (s.zone z).state = .fault) (hs : (s.zone z).sensorFault = false)
        (ht : (s.zone z).temp < s.sets.box.zones[z].setpoint) : s.clearZoneRefusal [b] = none := by
      rw [href, if_neg (not_not_intro hf), if_neg]
      rw [zoneUnfit_iff, hs]
      exact fun c => c.elim (fun c => Bool.noConfusion c) fun c => absurd ht (Nat.not_lt.mpr c)
    refine ⟨fun hf => ?_, fun hf hu => ?_, fun hf hs ht hk hforce => ?_, fun hf hs ht hk hforce => ?_⟩
    · exact exec_clearZone_refused hb (href.trans (if_pos hf))
    · exact exec_clearZone_refused (code := refusedValue) hb (by rw [href, if_neg (not_not_intro hf), if_pos ((zoneUnfit_iff s z).mpr hu)])
    · have hcleared : s.clearedZone z = { s.zone z with state := .warming, settle := none, cause := none } := by
        simp only [State.clearedZone, hforce]
        rfl
      exact hcleared ▸ clearZone_accepted hb harg (hclear hf hs ht) hk
    · have hcleared : s.clearedZone z = { s.zone z with
          state := if s.sets.box.mask.getLsbD z.val then .keepwarm else .off
          heater := s.sets.box.mask.getLsbD z.val && (s.zone z).heater, settle := none, cause := none } := by
        simp only [State.clearedZone, hforce, Zone.toKeepWarm]
        cases s.sets.box.mask.getLsbD z.val <;> rfl
      exact hcleared ▸ clearZone_accepted hb harg (hclear hf hs ht) hk

end Sys2Proof.Machine
end

section
namespace Sys2Proof.Machine

/-! # A settle timer expiry (R103) -/

theorem exec_settleTimerExpiry_still {z : Fin 4} {s : State} (h : (s.zone z).settle = none ∨ (s.zone z).state ≠ .warming) :
    exec (.settleTimerExpiry z) s = .next s := by
  show execSettleTimerExpiry z s = _
  unfold execSettleTimerExpiry
  split
  · rfl
  · rename_i due hd
    exact if_neg (h.resolve_left fun c => by cases c.symm.trans hd)

/-- The station at a settle timer expiry in WARMING, before it settles (R103, R121). -/
def State.zoneSettled (s : State) (z : Fin 4) (due : Nat) : State :=
  (s.reachTime due).zoneEvent z { s.zone z with state := .ready, settle := none } .settled

/-- The record of a zone that enters READY at its settle timer's expiry (R103, R121). -/
def Zone.settledReady (r : Zone) : Zone := { r with state := .ready, settle := none, change := some (.settled, .ready) }

theorem exec_settleTimerExpiry {z : Fin 4} {s : State} {due : Nat} (hd : (s.zone z).settle = some due) (hw : (s.zone z).state = .warming) :
    exec (.settleTimerExpiry z) s = .next (s.zoneSettled z due).settle := by
  show execSettleTimerExpiry z s = _
  unfold execSettleTimerExpiry
  rw [hd]
  exact if_pos hw

section
variable (s : State) (z : Fin 4) (due : Nat)

theorem zoneSettled_zone (y : Fin 4) :
    (s.zoneSettled z due).zone y = if y = z then (s.zone z).settledReady else s.zone y := zoneEvent_zone _ z y _ _

theorem zoneSettled_zone_same : (s.zoneSettled z due).zone z = (s.zone z).settledReady := by rw [zoneSettled_zone, if_pos rfl]

theorem zoneSettled_still : (s.zoneSettled z due).still = { s.still with now := max s.now due } := rfl

theorem zoneSettled_flag : (s.zoneSettled z due).port.ip.getLsbD 3 = true := signal_zone_flag _

theorem zoneSettled_effective : (s.zoneSettled z due).rate.effective = s.rate.effective := rfl

/-- At a rate above 0 a settled zone with a debt below 3 is OPEN, before the Drain Arbiter chooses (R104, R110). -/
theorem zoneSettled_opens (hr : 0 < s.rate.effective) (hdebt : (s.zone z).debt < 3) :
    (s.zoneSettled z due).zoneSettle.zone z = { (s.zone z).settledReady with state := .open } := by
  have hvalve : ((s.zoneSettled z due).zone z).valveRule (s.zoneSettled z due).rate.effective =
      { (s.zone z).settledReady with state := .open } := by
    rw [zoneSettled_zone_same]
    exact valveRule_opens rfl hdebt hr
  exact (zoneSettle_zone_open (congrArg Zone.state hvalve)).trans hvalve

/-- At rate 0, or with a debt of 3, the valves leave a settled zone READY (R104). -/
theorem zoneSettled_shut (h : s.rate.effective = 0 ∨ 3 ≤ (s.zone z).debt) :
    ((s.zoneSettled z due).zone z).valveRule (s.zoneSettled z due).rate.effective = (s.zone z).settledReady := by
  rw [zoneSettled_zone_same]
  exact valveRule_shut rfl h

theorem zoneSettled_ready (hr : s.rate.effective = 0) (hdebt : (s.zone z).debt = 0) (hidle : s.box.idle ≠ .expired) :
    (s.zoneSettled z due).zoneSettle.zone z = (s.zone z).settledReady := by
  have hnone : ((s.zoneSettled z due).zone z).debt = 0 := by rw [zoneSettled_zone_same]; exact hdebt
  exact (zoneSettle_zone_ready hnone hidle).trans (zoneSettled_shut s z due (.inl hr))

/-- A settled zone with a debt that it may not open with is granted the free drain that no other zone can ask for (R110, R111). -/
theorem zoneSettled_purges (hdebt : s.rate.effective = 0 ∧ 1 ≤ (s.zone z).debt ∨ 3 ≤ (s.zone z).debt) (ho : s.box.owner = none)
    (halone : ∀ y : Fin 4, y ≠ z → (s.zone y).state ≠ .ready ∧ (s.zone y).state ≠ .open) :
    (s.zoneSettled z due).zoneSettle.zone z = { (s.zone z).settledReady with state := .purge }
      ∧ (s.zoneSettled z due).zoneSettle.box.owner = some z
      ∧ (s.zoneSettled z due).zoneSettle.box.purgeDue = max s.now due + 1000000 * s.sets.box.purgeTime := by
  have hasks : (s.zoneSettled z due).Asks z := by
    unfold State.Asks
    rw [zoneSettled_zone_same, zoneSettled_effective]
    exact ⟨show 1 ≤ (s.zone z).debt by omega, .inl ⟨rfl, show s.rate.effective = 0 ∨ 3 ≤ (s.zone z).debt by omega⟩⟩
  have honly (x : Fin 4) (hx : (s.zoneSettled z due).Asks x) : x = z := by
    by_contra hne
    unfold State.Asks at hx
    rw [zoneSettled_zone, if_neg hne] at hx
    obtain ⟨_, c | c⟩ := hx
    · exact (halone x hne).1 c.1
    · exact (halone x hne).2 c.1
  have hchoice : drainChoice (s.zoneSettled z due).moveValves.box.zones = some z :=
    (drainChoice_moveValves_some _ z).mpr ⟨hasks, fun x hx => .inr (by rw [honly x hx]; exact ⟨rfl, le_refl z⟩)⟩
  obtain ⟨howner, hdue, hzone⟩ := zoneSettle_granted (s := s.zoneSettled z due) ho hchoice
  rw [zoneSettled_shut s z due (by omega)] at hzone
  exact ⟨hzone, howner, hdue⟩

end

/-- Settles O43: the zone enters READY, and the valves and the Drain Arbiter take it on from there. -/
theorem zoneSettles : Obligations.ZoneSettles := by
  refine fun z s => ⟨exec_settleTimerExpiry_still, fun due hd hw hk => ⟨_, exec_settleTimerExpiry hd hw, ?_⟩⟩
  have hobeys : (s.zoneSettled z due).KnifeObeys := hk
  have hstill := (settle_still _).trans (zoneSettled_still s z due)
  have hcalm : (s.zoneSettled z due).settle.calm = s.calm := settle_calm_of_obeys hobeys
  have hflag := (Rises.settle _).pending (zoneSettled_flag s z due)
  have hbox := settle_box_of_obeys hobeys
  have hzone := settle_zone_of_obeys hobeys z
  generalize (s.zoneSettled z due).settle = t at hstill hcalm hflag hbox hzone ⊢
  have hnow : t.now = max s.now due := congrArg Still.now hstill
  refine ⟨hnow, hcalm, ?_, hflag, ?_, ?_, ?_⟩
  · rw [hnow]; exact hstill
  · rw [hzone]; exact zoneSettled_opens s z due
  · rw [hzone]; exact zoneSettled_ready s z due
  · rw [hzone, hbox, hnow]; exact zoneSettled_purges s z due

end Sys2Proof.Machine
end

section
namespace Sys2Proof.Machine

/-! # A purge's end (R112) -/

theorem inBand_iff (b : BoxSet) (z : Fin 4) (r : Zone) : inBand b z r = true ↔
    b.zones[z].setpoint ≤ r.temp + b.band ∧ r.temp ≤ b.zones[z].setpoint + b.band ∧ r.sensorFault = false := by
  simp [inBand, and_assoc]

/-- A zone in band at its latest sample is READY after its purge (R112). -/
theorem purged_ready {r : Zone} {b : BoxSet} {z : Fin 4} (h : inBand b z r = true) :
    r.purged b z = { r with debt := 0, counter := b.purgeInterval, state := .ready } := if_pos h

/-- A zone out of band at its latest sample is WARMING after its purge (R112). -/
theorem purged_warming {r : Zone} {b : BoxSet} {z : Fin 4} (h : ¬inBand b z r = true) :
    r.purged b z = { r with debt := 0, counter := b.purgeInterval, state := .warming, settle := none } := if_neg h

/-- A zone that is READY with a debt once the zones have settled asked for the drain (R110). -/
theorem asks_of_ready {s : State} {z : Fin 4} (hr : (s.zoneSettle.zone z).state = .ready) (hd : 1 ≤ (s.zone z).debt) : s.Asks z := by
  obtain e | ⟨_, _, e⟩ | ⟨_, _, e⟩ := zoneSettle_zone_cases s z
  · refine (requestsDrain_valveRule (s.zone z) s.rate.effective).mp ?_
    rw [e] at hr
    simp [requestsDrain, hr, hd]
  · rw [e] at hr
    cases hr
  · rw [e] at hr
    unfold Zone.toKeepWarm at hr
    split at hr <;> cases hr

/-- The station at the end of zone `z`'s purge, before it settles (R112). -/
def State.purgeEnded (s : State) (z : Fin 4) : State :=
  ((s.reachTime s.box.purgeDue).releaseDrain).setZone z ((s.zone z).purged s.sets.box z)

theorem exec_purgeTimerExpiry_still {s : State} (h : s.box.owner = none) : exec .purgeTimerExpiry s = .next s := by
  show execPurgeTimerExpiry s = _
  unfold execPurgeTimerExpiry
  rw [h]

theorem exec_purgeTimerExpiry {s : State} {z : Fin 4} (h : s.box.owner = some z) :
    exec .purgeTimerExpiry s = .next (s.purgeEnded z).settle := by
  show execPurgeTimerExpiry s = _
  unfold execPurgeTimerExpiry
  rw [h]
  rfl

section
variable (s : State) (z : Fin 4)

theorem purgeEnded_zone (y : Fin 4) :
    (s.purgeEnded z).zone y = if y = z then (s.zone z).purged s.sets.box z else s.zone y := setZone_zone _ z y _

theorem purgeEnded_zone_same : (s.purgeEnded z).zone z = (s.zone z).purged s.sets.box z := by rw [purgeEnded_zone, if_pos rfl]

theorem purgeEnded_zone_other {y : Fin 4} (h : y ≠ z) : (s.purgeEnded z).zone y = s.zone y := by rw [purgeEnded_zone, if_neg h]

theorem purgeEnded_still : (s.purgeEnded z).still = { s.still with now := max s.now s.box.purgeDue } := rfl

theorem purgeEnded_effective : (s.purgeEnded z).rate.effective = s.rate.effective := rfl

/-- The zones that ask for the drain at the end of zone `z`'s purge: of the others alone, as they stood (R110, R112). -/
theorem purgeEnded_asks (y : Fin 4) : (s.purgeEnded z).Asks y ↔ y ≠ z ∧ s.Asks y := by
  unfold State.Asks
  rw [purgeEnded_effective]
  by_cases h : y = z
  · subst h
    rw [purgeEnded_zone_same, (purged_state _ _ _).2]
    simp
  · rw [purgeEnded_zone_other s z h]
    simp [h]

/-- Out of band the zone is WARMING, and stays so as the zones settle (R112). -/
theorem purgeEnded_warming (h : ¬inBand s.sets.box z (s.zone z) = true) : (s.purgeEnded z).zoneSettle.zone z =
    { s.zone z with debt := 0, counter := s.sets.box.purgeInterval, state := .warming, settle := none } := by
  have hput := (purgeEnded_zone_same s z).trans (purged_warming h)
  refine (zoneSettle_zone_still ?_ ?_).trans hput <;> rw [hput] <;> exact fun c => ZoneState.noConfusion c

/-- In band the zone opens again while the rate is above 0 (R104, R112). -/
theorem purgeEnded_opens (h : inBand s.sets.box z (s.zone z) = true) (hr : 0 < s.rate.effective) :
    (s.purgeEnded z).zoneSettle.zone z = { s.zone z with debt := 0, counter := s.sets.box.purgeInterval, state := .open } := by
  have hvalve : ((s.purgeEnded z).zone z).valveRule (s.purgeEnded z).rate.effective =
      { s.zone z with debt := 0, counter := s.sets.box.purgeInterval, state := .open } := by
    rw [purgeEnded_zone_same, purged_ready h]
    exact valveRule_opens rfl (show 0 < 3 by decide) hr
  exact (zoneSettle_zone_open (congrArg Zone.state hvalve)).trans hvalve

/-- In band the zone is READY at rate 0 (R112). -/
theorem purgeEnded_ready (h : inBand s.sets.box z (s.zone z) = true) (hr : s.rate.effective = 0) (hidle : s.box.idle ≠ .expired) :
    (s.purgeEnded z).zoneSettle.zone z = { s.zone z with debt := 0, counter := s.sets.box.purgeInterval, state := .ready } := by
  have hvalve : ((s.purgeEnded z).zone z).valveRule (s.purgeEnded z).rate.effective =
      { s.zone z with debt := 0, counter := s.sets.box.purgeInterval, state := .ready } := by
    rw [purgeEnded_zone_same, purged_ready h]
    exact valveRule_shut rfl (.inl hr)
  have hnone : ((s.purgeEnded z).zone z).debt = 0 := by rw [purgeEnded_zone_same, (purged_state _ _ _).2]
  exact (zoneSettle_zone_ready hnone hidle).trans hvalve

/-- The drain's owner after the purge has ended and the zones have settled (R111, R112). -/
theorem purgeEnded_owner : (s.purgeEnded z).zoneSettle.box.owner = drainChoice (s.purgeEnded z).moveValves.box.zones :=
  zoneSettle_owner_free rfl

theorem purgeEnded_owner_ne : (s.purgeEnded z).zoneSettle.box.owner ≠ some z := by
  rw [purgeEnded_owner]
  intro h
  exact ((purgeEnded_asks s z z).mp ((drainChoice_moveValves_some _ z).mp h).1).1 rfl

/-- The next owner is in PURGE with its debt, the purge timer runs for it, and every zone left READY with a debt comes after it (R111). -/
theorem purgeEnded_granted {y : Fin 4} (h : (s.purgeEnded z).zoneSettle.box.owner = some y) :
    ((s.purgeEnded z).zoneSettle.zone y).state = .purge ∧ 1 ≤ ((s.purgeEnded z).zoneSettle.zone y).debt
      ∧ (s.purgeEnded z).zoneSettle.box.purgeDue = max s.now s.box.purgeDue + 1000000 * s.sets.box.purgeTime
      ∧ ∀ x : Fin 4, ((s.purgeEnded z).zoneSettle.zone x).state = .ready → 1 ≤ ((s.purgeEnded z).zoneSettle.zone x).debt →
          ((s.purgeEnded z).zoneSettle.zone x).debt < ((s.purgeEnded z).zoneSettle.zone y).debt
            ∨ ((s.purgeEnded z).zoneSettle.zone x).debt = ((s.purgeEnded z).zoneSettle.zone y).debt ∧ y < x := by
  rw [purgeEnded_owner] at h
  obtain ⟨_, hdue, hzone⟩ := zoneSettle_granted (s := s.purgeEnded z) rfl h
  obtain ⟨hasks, hfirst⟩ := (drainChoice_moveValves_some _ y).mp h
  have hdebt (x : Fin 4) : ((s.purgeEnded z).zoneSettle.zone x).debt = ((s.purgeEnded z).zone x).debt := by
    obtain ⟨_, _, _, _, hd, _⟩ := zoneSettle_zone_keeps (s.purgeEnded z) x
    exact hd
  have hpurge : ((s.purgeEnded z).zoneSettle.zone y).state = .purge := by rw [hzone]
  refine ⟨hpurge, by rw [hdebt]; exact hasks.1, hdue, fun x hx hd => ?_⟩
  rw [hdebt] at hd
  rw [hdebt, hdebt]
  refine (hfirst x (asks_of_ready hx hd)).imp_right fun c => ⟨c.1, lt_of_le_of_ne c.2 ?_⟩
  rintro rfl
  exact ZoneState.noConfusion (hpurge.symm.trans hx)

end

/-- Settles O45: the owner's record by the band, and the next grant by the Drain Arbiter's choice. -/
theorem purgeEnds : Obligations.PurgeEnds := by
  refine fun s => ⟨exec_purgeTimerExpiry_still, fun z ho hk => ⟨_, exec_purgeTimerExpiry ho, ?_⟩⟩
  have hobeys : (s.purgeEnded z).KnifeObeys := hk
  have hstill := (settle_still _).trans (purgeEnded_still s z)
  have hcalm : (s.purgeEnded z).settle.calm = s.calm := settle_calm_of_obeys hobeys
  have hbox := settle_box_of_obeys hobeys
  have hzone := settle_zone_of_obeys hobeys
  generalize (s.purgeEnded z).settle = t at hstill hcalm hbox hzone ⊢
  have hnow : t.now = max s.now s.box.purgeDue := congrArg Still.now hstill
  have hasks (y : Fin 4) := (purgeEnded_asks s z y).symm
  refine ⟨hnow, hcalm, ?_, ?_, ?_, ?_, ?_, ⟨?_, ?_⟩, ?_⟩
  · rw [hnow]; exact hstill
  · rw [hzone, ← inBand_iff]; exact purgeEnded_warming s z
  · rw [hzone, ← inBand_iff]; exact purgeEnded_opens s z
  · rw [hzone, ← inBand_iff]; exact purgeEnded_ready s z
  · rw [hbox]; exact purgeEnded_owner_ne s z
  · intro hnone
    rw [hbox, purgeEnded_owner, drainChoice_moveValves_none]
    exact fun y hy => hnone y ((hasks y).mpr hy)
  · intro y hy hfirst
    have hdebt (x : Fin 4) (hx : x ≠ z) := congrArg Zone.debt (purgeEnded_zone_other s z hx)
    rw [hbox, purgeEnded_owner, drainChoice_moveValves_some]
    refine ⟨(hasks y).mp hy, fun x hx => ?_⟩
    have hx := (hasks x).mpr hx
    rw [hdebt x hx.1, hdebt y hy.1]
    exact hfirst x hx
  · simp only [hbox, hzone, hnow]
    exact fun y => purgeEnded_granted s z

end Sys2Proof.Machine
end

section
namespace Sys2Proof.Machine

/-! # The idle timer's expiry and the entry to keep-warm (R114, R115) -/

/-- What the entry to keep-warm does, once its conditions hold (R115). -/
theorem keepWarmEntry_enters {s : State} (hi : s.box.idle = .expired) (hf : s.box.inForce = false) (hc : 0 < s.sets.box.zoneCount)
    (hr : s.running = true) (ha : s.boxAtRest = true) :
    s.keepWarmEntry.box.inForce = true ∧ s.keepWarmEntry.box.keepwarms = satInc s.box.keepwarms
      ∧ s.keepWarmEntry.box.change = some .keepWarmEntered
      ∧ ∀ z, s.keepWarmEntry.zone z =
          if (s.zone z).state = .ready then (s.zone z).toKeepWarm (s.sets.box.mask.getLsbD z.val) else s.zone z := by
  unfold State.keepWarmEntry
  rw [if_pos ⟨hi, hf, hc, hr, ha⟩]
  exact ⟨rfl, rfl, rfl, fun z => tabulate_get _ z⟩

/-- Keep-warm that the zones' settling finds not in force and leaves in force has set the ZONE pending bit (R115, R121). -/
theorem zoneSettle_entered_flag {s : State} (hf : s.box.inForce = false) (he : s.zoneSettle.box.inForce = true) :
    s.zoneSettle.port.ip.getLsbD 3 = true := by
  have hforce : s.moveValves.arbitrate.box.inForce = false := (arbitrate_keeps _).1.trans hf
  unfold State.zoneSettle at he ⊢
  generalize s.moveValves.arbitrate = u at hforce he ⊢
  unfold State.keepWarmEntry at he ⊢
  split
  · exact signal_zone_flag _
  · rename_i hn
    rw [if_neg hn, hforce] at he
    cases he

theorem consequences_entered_flag {s : State} (hf : s.box.inForce = false) (he : s.consequences.box.inForce = true) :
    s.consequences.port.ip.getLsbD 3 = true := by
  have hbox : s.judgeDue.joinTest.cutAtRest.transferArm.box = s.box := by
    rw [box_of_kept (transferArm_kept _), box_of_kept (cutAtRest_kept _), joinTest_box, box_of_kept (judgeDue_kept _)]
  unfold State.consequences at he ⊢
  generalize s.judgeDue.joinTest.cutAtRest.transferArm = u at hbox he ⊢
  exact zoneSettle_entered_flag (by rw [hbox]; exact hf) he

theorem arbitrate_keepwarms (s : State) : s.arbitrate.box.keepwarms = s.box.keepwarms := by
  obtain ⟨e, _⟩ | ⟨_, _, _, e⟩ := arbitrate_cases s
  · rw [e]
  · rw [e]; rfl

/-- The sets and the station state as the entry to keep-warm reads them. -/
theorem drained_reads (s : State) : s.moveValves.arbitrate.sets = s.sets ∧ s.moveValves.arbitrate.running = s.running := by
  refine ⟨congrArg Still.sets (show s.moveValves.arbitrate.still = s.still by simp), ?_⟩
  unfold State.running
  rw [arbitrate_state]
  rfl

/-- While a zone of the station is WARMING or in PURGE, keep-warm is not entered (R115). -/
theorem zoneSettle_notEntered {s : State} {z : Fin 4} (hz : s.isZone z = true)
    (h : (s.zone z).state = .warming ∨ (s.zone z).state = .purge) :
    s.zoneSettle.box.inForce = s.box.inForce ∧ s.zoneSettle.box.keepwarms = s.box.keepwarms := by
  have hvalve : s.moveValves.zone z = s.zone z := by
    rw [moveValves_zone, valveRule_still]
    obtain h | h := h <;> rw [h] <;> decide
  have hzone : s.moveValves.arbitrate.zone z = s.zone z := by
    rw [arbitrate_zone, hvalve]
    rw [hvalve]
    obtain h | h := h <;> rw [h] <;> decide
  have hskip : s.zoneSettle = s.moveValves.arbitrate := by
    refine keepWarmEntry_skips fun ⟨_, _, _, _, hrest⟩ => ?_
    obtain ⟨_, hpurge, hwarming⟩ := (boxAtRest_iff _).mp hrest z
      (by unfold State.isZone; rw [(drained_reads s).1]; exact hz)
    rw [hzone] at hpurge hwarming
    exact h.elim hwarming hpurge
  rw [hskip]
  exact ⟨(arbitrate_keeps _).1, arbitrate_keepwarms _⟩

/-- With every zone of the station off the steam and settled, an expired idle timer enters keep-warm (R115). -/
theorem zoneSettle_entered {s : State} (hi : s.box.idle = .expired) (hrun : s.running = true) (hf : s.box.inForce = false)
    (hc : 0 < s.sets.box.zoneCount) (hr : s.rate.effective = 0)
    (hz : ∀ z, s.isZone z = true → (s.zone z).state ≠ .open ∧ (s.zone z).state ≠ .purge ∧ (s.zone z).state ≠ .warming
      ∧ ((s.zone z).state = .ready → (s.zone z).debt = 0)) :
    s.zoneSettle.box.inForce = true ∧ s.zoneSettle.box.keepwarms = satInc s.box.keepwarms
      ∧ s.zoneSettle.box.change = some .keepWarmEntered
      ∧ ∀ z, s.isZone z = true → s.zoneSettle.zone z =
          if (s.zone z).state = .ready then (s.zone z).toKeepWarm (s.sets.box.mask.getLsbD z.val) else s.zone z := by
  obtain ⟨hforce, _, hidle⟩ := arbitrate_keeps s.moveValves
  obtain ⟨hsets, hrunning⟩ := drained_reads s
  have hisZone (z : Fin 4) : s.moveValves.arbitrate.isZone z = s.isZone z := by unfold State.isZone; rw [hsets]
  have hvalve (z : Fin 4) (h : s.isZone z = true) : s.moveValves.zone z = s.zone z := by
    rw [moveValves_zone, hr]
    by_cases hready : (s.zone z).state = .ready
    · exact valveRule_shut hready (.inl rfl)
    · exact valveRule_still ⟨hready, (hz z h).1⟩ 0
  have hzone (z : Fin 4) (h : s.isZone z = true) : s.moveValves.arbitrate.zone z = s.zone z := by
    obtain e | ⟨hready, hdebt, _⟩ := arbitrate_zone_cases s.moveValves z
    · exact e.trans (hvalve z h)
    · rw [hvalve z h] at hready hdebt
      obtain ⟨_, _, _, hnone⟩ := hz z h
      exact absurd (hnone hready) (by omega)
  have hrest : s.moveValves.arbitrate.boxAtRest = true := (boxAtRest_iff _).mpr fun z h => by
    rw [hisZone] at h
    rw [hzone z h]
    obtain ⟨hopen, hpurge, hwarming, _⟩ := hz z h
    exact ⟨hopen, hpurge, hwarming⟩
  obtain ⟨gforce, gcount, gchange, gzone⟩ := keepWarmEntry_enters (s := s.moveValves.arbitrate) (hidle.trans hi) (hforce.trans hf)
    (by rw [hsets]; exact hc) (hrunning.trans hrun) hrest
  refine ⟨gforce, gcount.trans (by rw [arbitrate_keepwarms]; rfl), gchange, fun z h => ?_⟩
  refine (gzone z).trans ?_
  rw [hzone z h, hsets]

theorem exec_idleTimerExpiry_still {s : State} (h : s.box.idle = .stopped ∨ s.box.idle = .expired) :
    exec .idleTimerExpiry s = .next s := by
  show execIdleTimerExpiry s = _
  unfold execIdleTimerExpiry
  obtain h | h := h <;> rw [h]

/-- The station at the idle timer's expiry, before it settles (R114). -/
def State.idled (s : State) (due : Nat) : State := { s.reachTime due with box.idle := .expired }

theorem exec_idleTimerExpiry {s : State} {due : Nat} (h : s.box.idle = .running due) :
    exec .idleTimerExpiry s = .next (s.idled due).settle := by
  show execIdleTimerExpiry s = _
  unfold execIdleTimerExpiry
  rw [h]
  rfl

theorem idled_still (s : State) (due : Nat) : (s.idled due).still = { s.still with now := max s.now due } := rfl

/-- Settles O46: the settling after the expiry enters keep-warm exactly where the station's zones are at rest. -/
theorem keepWarmEntered : Obligations.KeepWarmEntered := by
  refine fun s => ⟨exec_idleTimerExpiry_still, fun due hi hk => ⟨_, exec_idleTimerExpiry hi, ?_⟩⟩
  have hobeys : (s.idled due).KnifeObeys := hk
  have hstill := (settle_still _).trans (idled_still s due)
  have hcalm : (s.idled due).settle.calm = s.calm := settle_calm_of_obeys hobeys
  have hbox := settle_box_of_obeys hobeys
  have hzone := settle_zone_of_obeys hobeys
  have hflag (hf : s.box.inForce = false) (he : (s.idled due).settle.box.inForce = true) :
      (s.idled due).settle.port.ip.getLsbD 3 = true := by
    rw [settle_of_obeys hobeys] at he ⊢
    exact consequences_entered_flag hf he
  generalize (s.idled due).settle = t at hstill hcalm hbox hzone hflag ⊢
  have hnow : t.now = max s.now due := congrArg Still.now hstill
  refine ⟨hnow, ?_, hcalm, ?_, ?_, ?_⟩
  · rw [hbox]; exact (zoneSettle_counts _).1
  · rw [hnow]; exact hstill
  · rintro ⟨z, hz, hstate⟩
    rw [hbox]
    exact zoneSettle_notEntered (s := s.idled due) hz hstate
  · intro hconfig hf hc hr hz
    obtain ⟨hforce, hcount, hchange, hzones⟩ := zoneSettle_entered (s := s.idled due) rfl (bne_iff_ne.mpr hconfig) hf hc hr hz
    rw [← hbox] at hforce hcount hchange
    refine ⟨hforce, hcount, hchange, hflag hf hforce, fun z h => ?_⟩
    rw [hzone, hzones z h]
    by_cases hready : (s.zone z).state = .ready
    · rw [if_neg (not_not_intro hready)]
      exact if_pos hready
    · rw [if_pos hready]
      exact if_neg hready

end Sys2Proof.Machine
end

section
namespace Sys2Proof.Machine

/-! # A pass over the zones -/

/-- What an action on the zones, one after another, leaves of the station: all but the box's records, the free choices and the pending
bits; the drain may be given up, and no forced purge is forgotten. -/
structure ZonePass (s t : State) : Prop where
  still : t.still = s.still
  calm : t.calm = { s.calm with choices := t.choices }
  idle : t.box.idle = s.box.idle
  owner : t.box.owner = s.box.owner ∨ t.box.owner = none
  forced : s.box.forced ≤ 65535 → s.box.forced ≤ t.box.forced ∧ t.box.forced ≤ 65535
  rises : Rises s t

namespace ZonePass

theorem refl (s : State) : ZonePass s s := ⟨rfl, rfl, rfl, .inl rfl, fun h => ⟨le_rfl, h⟩, .refl s⟩

theorem trans {s t u : State} (h : ZonePass s t) (g : ZonePass t u) : ZonePass s u where
  still := g.still.trans h.still
  calm := by rw [g.calm, h.calm]
  idle := g.idle.trans h.idle
  owner := by
    obtain e | e := g.owner
    · rw [e]; exact h.owner
    · exact .inr e
  forced hs := by
    obtain ⟨hle, ht⟩ := h.forced hs
    obtain ⟨gle, hu⟩ := g.forced ht
    exact ⟨hle.trans gle, hu⟩
  rises := h.rises.trans g.rises

theorem setZone (s : State) (z : Fin 4) (r : Zone) : ZonePass s (s.setZone z r) :=
  ⟨rfl, rfl, rfl, .inl rfl, fun h => ⟨le_rfl, h⟩, .of_eq rfl rfl rfl⟩

theorem zoneEvent (s : State) (z : Fin 4) (r : Zone) (e : ZoneEvent) : ZonePass s (s.zoneEvent z r e) :=
  ⟨rfl, rfl, rfl, .inl rfl, fun h => ⟨le_rfl, h⟩, .start (.signal _ _) rfl rfl rfl⟩

theorem releaseDrain (s : State) : ZonePass s s.releaseDrain :=
  ⟨rfl, rfl, rfl, .inr rfl, fun h => ⟨le_rfl, h⟩, .of_eq rfl rfl rfl⟩

theorem chosen (s : State) : ZonePass s s.chosen :=
  ⟨rfl, rfl, rfl, .inl rfl, fun h => ⟨le_rfl, h⟩, .of_eq rfl rfl rfl⟩

/-- One more forced purge counted (R109). -/
theorem forcedOnce (s : State) : ZonePass s { s with box.forced := satInc s.box.forced } where
  still := rfl
  calm := rfl
  idle := rfl
  owner := .inl rfl
  forced h := ⟨le_min (Nat.le_succ _) h, min_le_right _ _⟩
  rises := .of_eq rfl rfl rfl

theorem foldl {act : State → Fin 4 → State} (h : ∀ s z, ZonePass s (act s z)) (l : List (Fin 4)) :
    ∀ s : State, ZonePass s (l.foldl act s) := by
  induction l with
  | nil => exact refl
  | cons z l ih => exact fun s => (h s z).trans (ih (act s z))

theorem now {s t : State} (h : ZonePass s t) : t.now = s.now := now_of_still h.still

theorem sets {s t : State} (h : ZonePass s t) : t.sets = s.sets := sets_of_still h.still

theorem effective {s t : State} (h : ZonePass s t) : t.rate.effective = s.rate.effective := congrArg Calm.effective h.calm

theorem knifeObeys {s t : State} (h : ZonePass s t) (hk : s.KnifeObeys) : t.KnifeObeys := by
  have hknife : t.knife = s.knife := congrArg Calm.knife h.calm
  have hlatch : t.rate.latch = s.rate.latch := congrArg Calm.latch h.calm
  unfold State.KnifeObeys
  rw [hknife, hlatch]
  exact hk

end ZonePass

/-- An action that touches its own zone's record alone leaves the zones it does not come to. -/
theorem foldl_zone_skipped {act : State → Fin 4 → State} (h : ∀ s z y, y ≠ z → (act s z).zone y = s.zone y) {z : Fin 4}
    (l : List (Fin 4)) : ∀ s : State, z ∉ l → (l.foldl act s).zone z = s.zone z := by
  induction l with
  | nil => exact fun s _ => rfl
  | cons x l ih =>
    intro s hz
    rw [List.mem_cons, not_or] at hz
    obtain ⟨hx, hl⟩ := hz
    exact (ih (act s x) hl).trans (h s x z hx)

/-- A pass over the zones comes to each zone once: it finds its record as it was before the pass, and what it makes of it stays. -/
theorem foldl_zone {act : State → Fin 4 → State} (h : ∀ s z y, y ≠ z → (act s z).zone y = s.zone y) (s : State) (z : Fin 4) :
    ∃ before after : List (Fin 4), (List.finRange 4).foldl act s = after.foldl act (act (before.foldl act s) z)
      ∧ (before.foldl act s).zone z = s.zone z
      ∧ ((List.finRange 4).foldl act s).zone z = (act (before.foldl act s) z).zone z := by
  obtain ⟨before, after, e⟩ := List.append_of_mem (List.mem_finRange z)
  have hnodup := e ▸ List.nodup_finRange 4
  obtain ⟨hbefore, hafter⟩ : z ∉ before ∧ z ∉ after := by
    rw [List.nodup_middle, List.nodup_cons, List.mem_append, not_or] at hnodup
    exact hnodup.1
  refine ⟨before, after, ?_, foldl_zone_skipped h before s hbefore, ?_⟩
  all_goals rw [e, List.foldl_append, List.foldl_cons]
  exact foldl_zone_skipped h after _ hafter

/-! # A seconds timer expiry (R108, R109) -/

section
variable {s : State} {z : Fin 4}

/-- A zone that is not OPEN counts no second (R108). -/
theorem zoneSecond_shut (h : (s.zone z).state ≠ .open) : s.zoneSecond z = s := if_neg h

/-- A second that does not force an OPEN zone to close (R108). -/
theorem zoneSecond_counted (h : (s.zone z).state = .open)
    (hd : ¬(((s.zone z).countSecond s.sets.box.purgeInterval).debt = 3 ∧ (s.zone z).debt < 3)) :
    s.zoneSecond z = s.setZone z ((s.zone z).countSecond s.sets.box.purgeInterval) := by
  unfold State.zoneSecond
  rw [if_pos h]
  exact if_neg hd

/-- An OPEN zone's counter above 1 falls by one (R108). -/
theorem zoneSecond_falls (h : (s.zone z).state = .open) (hc : 1 < (s.zone z).counter) :
    s.zoneSecond z = s.setZone z { s.zone z with counter := (s.zone z).counter - 1 } := by
  have hr : (s.zone z).countSecond s.sets.box.purgeInterval = { s.zone z with counter := (s.zone z).counter - 1 } :=
    if_neg (Nat.not_le.mpr hc)
  rw [zoneSecond_counted h, hr]
  rw [hr]
  exact fun c => absurd c.2 (Nat.not_lt.mpr c.1.ge)

/-- The counter reaches 0 and the zone may stay OPEN: the counter is loaded and the debt rises (R108). -/
theorem zoneSecond_reloads (h : (s.zone z).state = .open) (hc : (s.zone z).counter ≤ 1) (hd : (s.zone z).debt ≠ 2) :
    s.zoneSecond z = s.setZone z { s.zone z with counter := s.sets.box.purgeInterval, debt := min ((s.zone z).debt + 1) 3 } := by
  have hr : (s.zone z).countSecond s.sets.box.purgeInterval =
      { s.zone z with counter := s.sets.box.purgeInterval, debt := min ((s.zone z).debt + 1) 3 } := if_pos hc
  rw [zoneSecond_counted h, hr]
  rw [hr]
  exact fun ⟨hthree, hbelow⟩ => by
    have hthree : min ((s.zone z).debt + 1) 3 = 3 := hthree
    omega

/-- A debt that rises to 3 forces the zone to close (R109). -/
theorem zoneSecond_forces (h : (s.zone z).state = .open) (hc : (s.zone z).counter ≤ 1) (hd : (s.zone z).debt = 2) :
    s.zoneSecond z =
      { s.zoneEvent z { s.zone z with counter := s.sets.box.purgeInterval, debt := 3, state := .ready } .forcedClose with
        box.forced := satInc s.box.forced } := by
  have hr : (s.zone z).countSecond s.sets.box.purgeInterval =
      { s.zone z with counter := s.sets.box.purgeInterval, debt := min ((s.zone z).debt + 1) 3 } := if_pos hc
  unfold State.zoneSecond
  rw [if_pos h]
  simp only [hr, hd]
  rfl

end

/-- What a second does to a zone: nothing, a new record, or a forced close (R108, R109). -/
theorem zoneSecond_cases (s : State) (z : Fin 4) : s.zoneSecond z = s ∨ (∃ r, s.zoneSecond z = s.setZone z r)
    ∨ ∃ r, s.zoneSecond z = { s.zoneEvent z r .forcedClose with box.forced := satInc s.box.forced } := by
  by_cases h : (s.zone z).state = .open
  · by_cases hc : 1 < (s.zone z).counter
    · exact .inr (.inl ⟨_, zoneSecond_falls h hc⟩)
    · by_cases hd : (s.zone z).debt = 2
      · exact .inr (.inr ⟨_, zoneSecond_forces h (Nat.not_lt.mp hc) hd⟩)
      · exact .inr (.inl ⟨_, zoneSecond_reloads h (Nat.not_lt.mp hc) hd⟩)
  · exact .inl (zoneSecond_shut h)

theorem zoneSecond_pass (s : State) (z : Fin 4) : ZonePass s (s.zoneSecond z) ∧ (s.zoneSecond z).choices = s.choices := by
  obtain e | ⟨r, e⟩ | ⟨r, e⟩ := zoneSecond_cases s z <;> rw [e]
  · exact ⟨.refl s, rfl⟩
  · exact ⟨.setZone s z r, rfl⟩
  · exact ⟨(ZonePass.zoneEvent s z r .forcedClose).trans (.forcedOnce _), rfl⟩

theorem zoneSecond_zone_other (s : State) (z y : Fin 4) (h : y ≠ z) : (s.zoneSecond z).zone y = s.zone y := by
  obtain e | ⟨r, e⟩ | ⟨r, e⟩ := zoneSecond_cases s z <;> rw [e]
  · rw [setZone_zone, if_neg h]
  · exact (zoneEvent_zone s z y r .forcedClose).trans (if_neg h)

theorem zoneSeconds_choices (l : List (Fin 4)) : ∀ s : State, (l.foldl State.zoneSecond s).choices = s.choices := by
  induction l with
  | nil => exact fun _ => rfl
  | cons z l ih => exact fun s => (ih _).trans (zoneSecond_pass s z).2

/-- Where no OPEN zone's counter reaches 0, no purge is forced (R109). -/
theorem zoneSeconds_forced (l : List (Fin 4)) (hl : l.Nodup) : ∀ s : State,
    (∀ z ∈ l, (s.zone z).state = .open → 1 < (s.zone z).counter) → (l.foldl State.zoneSecond s).box.forced = s.box.forced := by
  induction l with
  | nil => exact fun _ _ => rfl
  | cons z l ih =>
    intro s h
    obtain ⟨hz, hl⟩ := List.nodup_cons.mp hl
    have hforced : (s.zoneSecond z).box.forced = s.box.forced := by
      by_cases ho : (s.zone z).state = .open
      · rw [zoneSecond_falls ho (h z List.mem_cons_self ho)]; rfl
      · rw [zoneSecond_shut ho]
    refine (ih hl (s.zoneSecond z) fun y hy => ?_).trans hforced
    rw [zoneSecond_zone_other s z y fun c => hz (c ▸ hy)]
    exact h y (List.mem_cons_of_mem z hy)

/-- The station at a seconds timer expiry, before the zones count it (R108). -/
def State.secondReached (s : State) : State :=
  { s.reachTime s.box.secondsDue with box.secondsDue := s.box.secondsDue + 1000000 }

/-- The station once its zones have counted a second, before it settles (R108). -/
def State.secondCounted (s : State) : State := (List.finRange 4).foldl State.zoneSecond s.secondReached

theorem exec_secondsTimerExpiry (s : State) : exec .secondsTimerExpiry s = .next s.secondCounted.settle := rfl

theorem secondCounted_pass (s : State) : ZonePass s.secondReached s.secondCounted :=
  .foldl (fun s z => (zoneSecond_pass s z).1) _ _

theorem secondCounted_choices (s : State) : s.secondCounted.choices = s.choices := zoneSeconds_choices _ _

theorem secondReached_still (s : State) : s.secondReached.still =
    { s.still with now := max s.now s.box.secondsDue, secondsDue := s.box.secondsDue + 1000000 } := rfl

theorem secondCounted_unforced {s : State} (h : ∀ z, (s.zone z).state = .open → 1 < (s.zone z).counter) :
    s.secondCounted.box.forced = s.box.forced := by
  have hforced := zoneSeconds_forced (List.finRange 4) (List.nodup_finRange 4) s.secondReached fun z _ => h z
  unfold State.secondCounted
  exact hforced

/-- The second as it comes to zone `z`: the zones before it have counted it, `z` has its record of before. -/
theorem secondCounted_zone (s : State) (z : Fin 4) : ∃ u : State, ZonePass s.secondReached u ∧ u.zone z = s.zone z
    ∧ ZonePass (u.zoneSecond z) s.secondCounted ∧ s.secondCounted.zone z = (u.zoneSecond z).zone z := by
  obtain ⟨before, after, e, hbefore, hzone⟩ := foldl_zone zoneSecond_zone_other s.secondReached z
  refine ⟨before.foldl State.zoneSecond s.secondReached, .foldl (fun s z => (zoneSecond_pass s z).1) _ _, hbefore, ?_, hzone⟩
  rw [State.secondCounted, e]
  exact .foldl (fun s z => (zoneSecond_pass s z).1) _ _

section
variable {s : State} {z : Fin 4}

/-- A zone that is not OPEN keeps its counter and its debt (R108). -/
theorem secondCounted_shut (h : (s.zone z).state ≠ .open) : s.secondCounted.zone z = s.zone z := by
  obtain ⟨u, _, hu, _, hzone⟩ := secondCounted_zone s z
  rw [hzone, zoneSecond_shut (by rw [hu]; exact h), hu]

theorem secondCounted_falls (h : (s.zone z).state = .open) (hc : 1 < (s.zone z).counter) :
    s.secondCounted.zone z = { s.zone z with counter := (s.zone z).counter - 1 } := by
  obtain ⟨u, _, hu, _, hzone⟩ := secondCounted_zone s z
  rw [hzone, zoneSecond_falls (by rw [hu]; exact h) (by rw [hu]; exact hc), setZone_zone, if_pos rfl, hu]

theorem secondCounted_reloads (h : (s.zone z).state = .open) (hc : (s.zone z).counter ≤ 1) (hd : (s.zone z).debt ≠ 2) :
    s.secondCounted.zone z = { s.zone z with counter := s.sets.box.purgeInterval, debt := min ((s.zone z).debt + 1) 3 } := by
  obtain ⟨u, hpass, hu, _, hzone⟩ := secondCounted_zone s z
  have hsets : u.sets = s.sets := hpass.sets
  rw [hzone, zoneSecond_reloads (by rw [hu]; exact h) (by rw [hu]; exact hc) (by rw [hu]; exact hd), setZone_zone, if_pos rfl, hu, hsets]

/-- A forced close: the record, the ZONE source and the count (R109). -/
theorem secondCounted_forces (h : (s.zone z).state = .open) (hc : (s.zone z).counter ≤ 1) (hd : (s.zone z).debt = 2) :
    s.secondCounted.zone z =
        { s.zone z with counter := s.sets.box.purgeInterval, debt := 3, state := .ready, change := some (.forcedClose, .ready) }
      ∧ s.secondCounted.port.ip.getLsbD 3 = true ∧ (s.box.forced < 65535 → s.box.forced < s.secondCounted.box.forced) := by
  obtain ⟨u, hpass, hu, hrest, hzone⟩ := secondCounted_zone s z
  have hsets : u.sets = s.sets := hpass.sets
  have hforces := zoneSecond_forces (s := u) (z := z) (by rw [hu]; exact h) (by rw [hu]; exact hc) (by rw [hu]; exact hd)
  rw [hforces] at hzone hrest
  refine ⟨?_, hrest.rises.pending (signal_zone_flag _), fun hbelow => ?_⟩
  · refine hzone.trans ((zoneEvent_zone u z z _ .forcedClose).trans ?_)
    rw [if_pos rfl, hu, hsets]
  · obtain ⟨hle, _⟩ := hpass.forced (Nat.le_of_lt hbelow)
    have hle : s.box.forced ≤ u.box.forced := hle
    have hcounted : satInc u.box.forced ≤ s.secondCounted.box.forced := (hrest.forced (min_le_right _ _)).1
    unfold satInc at hcounted
    omega

end

/-- A READY zone with a debt of 3 does not open as the zones settle, and while the idle timer has not expired it purges or waits for the
drain (R104, R110). -/
theorem zoneSettle_zone_debtor {s : State} {z : Fin 4} (h : (s.zone z).state = .ready) (hd : 3 ≤ (s.zone z).debt) :
    (s.zoneSettle.zone z).state ≠ .open
      ∧ (s.box.idle ≠ .expired → (s.zoneSettle.zone z).state = .ready ∨ (s.zoneSettle.zone z).state = .purge) := by
  have hcases := zoneSettle_zone_cases s z
  rw [valveRule_shut h (.inr hd)] at hcases
  obtain e | ⟨_, _, e⟩ | ⟨_, he, e⟩ := hcases
  · rw [e, h]
    exact ⟨by decide, fun _ => .inl rfl⟩
  · rw [e]
    exact ⟨fun c => ZoneState.noConfusion c, fun _ => .inr rfl⟩
  · rw [e]
    exact ⟨(toKeepWarm_state _ _).2, fun c => absurd he c⟩

/-- Settles O44: each zone counts its second by its own record, and the settling keeps what it counted. -/
theorem secondsPass : Obligations.SecondsPass := by
  refine fun s hk hvalves _ => ⟨_, exec_secondsTimerExpiry s, ?_⟩
  have hpass := secondCounted_pass s
  have hobeys : s.secondCounted.KnifeObeys := hpass.knifeObeys hk
  have hstill := ((settle_still _).trans hpass.still).trans (secondReached_still s)
  have hcalm : s.secondCounted.settle.calm = s.calm := by
    rw [settle_calm_of_obeys hobeys, hpass.calm, secondCounted_choices]
    rfl
  have hbox := settle_box_of_obeys hobeys
  have hzone := settle_zone_of_obeys hobeys
  have hflag := (Rises.settle s.secondCounted).pending (k := 3)
  have heffective : s.secondCounted.rate.effective = s.rate.effective := hpass.effective
  have hidle : s.secondCounted.box.idle = s.box.idle := hpass.idle
  generalize s.secondCounted.settle = t at hstill hcalm hbox hzone hflag ⊢
  have hnow : t.now = max s.now s.box.secondsDue := congrArg Still.now hstill
  have hdue : t.box.secondsDue = s.box.secondsDue + 1000000 := congrArg Still.secondsDue hstill
  have hforced : t.box.forced = s.secondCounted.box.forced := by rw [hbox]; exact (zoneSettle_counts _).2
  have hstays (z : Fin 4) (hopen : (s.zone z).state = .open) {r : Zone} (hr : s.secondCounted.zone z = r) (ho : r.state = .open) :
      t.zone z = r := by
    have hvalve : (s.secondCounted.zone z).valveRule s.secondCounted.rate.effective = r := by
      rw [hr, heffective]
      exact valveRule_stays ho (hvalves z hopen)
    rw [hzone, zoneSettle_zone_open (by rw [hvalve]; exact ho), hvalve]
  refine ⟨hnow, hdue, hcalm, by rw [hnow, hdue]; exact hstill, fun h => ?_,
    fun z => ⟨fun hshut => ?_, fun hopen => ⟨fun hc => ?_, fun hc => ?_⟩⟩⟩
  · exact hforced.trans (secondCounted_unforced h)
  · obtain ⟨_, _, _, hcounter, hdebt, _⟩ := zoneSettle_zone_keeps s.secondCounted z
    rw [hzone, hcounter, hdebt, secondCounted_shut hshut]
    exact ⟨rfl, rfl⟩
  · exact hstays z hopen (secondCounted_falls hopen hc) hopen
  · obtain ⟨_, _, _, hcounter, hdebt, hchange, _⟩ := zoneSettle_zone_keeps s.secondCounted z
    rw [← hzone] at hcounter hdebt hchange
    by_cases hd : (s.zone z).debt = 2
    · obtain ⟨hrecord, hpending, hcount⟩ := secondCounted_forces hopen hc hd
      obtain ⟨hclosed, hstate⟩ := zoneSettle_zone_debtor (s := s.secondCounted) (z := z) (by rw [hrecord]) (by rw [hrecord])
      rw [← hzone] at hclosed hstate
      rw [hidle] at hstate
      rw [hrecord] at hcounter hdebt hchange
      refine ⟨hcounter, by rw [hdebt, hd]; rfl, fun c => absurd hd (by omega),
        fun _ => ⟨hclosed, hchange, hflag hpending, ?_, hstate⟩⟩
      rw [hforced]
      exact hcount
    · have hrecord := secondCounted_reloads hopen hc hd
      rw [hrecord] at hcounter hdebt
      refine ⟨hcounter, hdebt, fun _ => ?_, fun c => absurd c hd⟩
      rw [hstays z hopen hrecord hopen]
      exact ⟨hopen, rfl⟩

end Sys2Proof.Machine
end

section
namespace Sys2Proof.Machine

/-! # A converter expiry (R99 to R106) -/

/-! ## One zone's record -/

theorem sampled_eq (r : Zone) (b : BoxSet) (raw : BitVec 12) : r.sampled b raw =
    { r with raw := raw, temp := b.base + raw.toNat * b.span / 4096, sensorFault := decide (raw = 0 ∨ raw = 4095) } := by
  simp [Zone.sampled, Bool.decide_or, beq_eq_decide]

theorem overTemperature_iff (b : BoxSet) (z : Fin 4) (r : Zone) :
    overTemperature b z r = true ↔ b.zones[z].setpoint + b.margin < r.temp := decide_eq_true_iff

/-- The heater follows its target (R100). -/
theorem heated_eq (r : Zone) (b : BoxSet) (z : Fin 4) : r.heated b z =
    { r with heater := if r.temp + b.hyst < heatingTarget b z r.state then true
        else if heatingTarget b z r.state ≤ r.temp then false else r.heater } := by
  unfold Zone.heated
  simp only
  split
  · rfl
  · split <;> rfl

/-- Outside KEEPWARM the target is the set point (R100). -/
theorem heated_setpoint {r : Zone} (b : BoxSet) (z : Fin 4) (h : r.state ≠ .keepwarm) : r.heated b z =
    { r with heater := if r.temp + b.hyst < b.zones[z].setpoint then true
        else if b.zones[z].setpoint ≤ r.temp then false else r.heater } := by
  have htarget : heatingTarget b z r.state = b.zones[z].setpoint := by
    unfold heatingTarget
    split
    · exact absurd ‹_› h
    all_goals rfl
  rw [heated_eq, htarget]

/-- In KEEPWARM the target is the set point less the drop (R100). -/
theorem heated_keepwarm {r : Zone} (b : BoxSet) (z : Fin 4) (h : r.state = .keepwarm) : r.heated b z =
    { r with heater := if r.temp + b.hyst < b.zones[z].setpoint - b.drop then true
        else if b.zones[z].setpoint - b.drop ≤ r.temp then false else r.heater } := by
  have htarget : heatingTarget b z r.state = b.zones[z].setpoint - b.drop := by rw [h]; rfl
  rw [heated_eq, htarget]

/-- A WARMING zone's settle timer runs while the zone is in band (R103). -/
theorem banded_warming {r : Zone} (b : BoxSet) (z : Fin 4) (hw : r.state = .warming) (now : Nat) : r.banded b z now =
    if inBand b z r then { r with settle := some (r.settle.getD (now + 1000000 * b.settle)) } else { r with settle := none } := by
  obtain ⟨state, _, _, _, _, settle, _, _, _, _, _⟩ := r
  cases hw
  cases settle <;> rfl

/-- A READY or OPEN zone goes to WARMING exactly where it is out of band (R105). -/
theorem banded_settled {r : Zone} (b : BoxSet) (z : Fin 4) (h : r.state = .ready ∨ r.state = .open) (now : Nat) :
    r.banded b z now = if inBand b z r then r else r.toWarming := by
  unfold Zone.banded
  obtain h | h := h <;> rw [h]

/-- The band rules leave a KEEPWARM zone and one in PURGE (R103, R105). -/
theorem banded_other {r : Zone} (b : BoxSet) (z : Fin 4) (h : r.state = .keepwarm ∨ r.state = .purge) (now : Nat) :
    r.banded b z now = r := by
  unfold Zone.banded
  obtain h | h := h <;> rw [h]

/-- A sample gives no cause for a fault exactly where it is sound and not over temperature (R106). -/
theorem zoneCauseOf_none {b : BoxSet} {z : Fin 4} {r : Zone} {choice : Bool} (ho : ¬overTemperature b z r = true)
    (hf : r.sensorFault = false) : zoneCauseOf b z r choice = none := by
  simp [zoneCauseOf, ho, hf]

/-- The cause of a sample that faults its zone, free only where both hold (R106). -/
theorem zoneCauseOf_some {b : BoxSet} {z : Fin 4} {r : Zone} (choice : Bool) (h : overTemperature b z r = true ∨ r.sensorFault = true) :
    ∃ cause, zoneCauseOf b z r choice = some cause ∧ (r.sensorFault = false → cause = .overtemperature)
      ∧ (¬overTemperature b z r = true → cause = .sensor) := by
  unfold zoneCauseOf
  split
  · rename_i ho
    split
    · rename_i hc
      refine ⟨_, rfl, fun c => ?_, fun c => absurd ho c⟩
      rw [c] at hc
      cases hc
    · exact ⟨_, rfl, fun _ => rfl, fun c => absurd ho c⟩
  · rename_i ho
    have hf := h.resolve_left ho
    rw [if_pos hf]
    exact ⟨_, rfl, fun c => (Bool.noConfusion (hf.symm.trans c)), fun _ => rfl⟩

/-! ## One zone's sample -/

theorem zoneFault_zone (s : State) (z y : Fin 4) (r : Zone) (cause : ZoneCause) : (s.zoneFault z r cause).zone y =
    if y = z then { r.faulted cause with change := some (.faulted, .fault) } else s.zone y := by
  unfold State.zoneFault
  split <;> exact zoneEvent_zone _ z y _ .faulted

/-- A zone that faults gives up the drain (R113). -/
theorem zoneFault_owner (s : State) (z : Fin 4) (r : Zone) (cause : ZoneCause) : (s.zoneFault z r cause).box.owner ≠ some z := by
  unfold State.zoneFault
  split
  · exact fun c => absurd c (Option.some_ne_none z).symm
  · assumption

theorem zoneFault_pass (s : State) (z : Fin 4) (r : Zone) (cause : ZoneCause) : ZonePass s (s.zoneFault z r cause) := by
  unfold State.zoneFault
  split
  · exact (ZonePass.releaseDrain s).trans (.zoneEvent _ z _ .faulted)
  · exact .zoneEvent s z _ .faulted

section
variable {s : State} {z : Fin 4} {raw : BitVec 12}

/-- An OFF or FAULT zone only shows its sample (R99). -/
theorem sampleZone_shown (hz : s.isZone z = true) (h : (s.zone z).state = .off ∨ (s.zone z).state = .fault) :
    s.sampleZone z raw = s.setZone z ((s.zone z).sampled s.sets.box raw) := by
  have hstate : ((s.zone z).sampled s.sets.box raw).state = (s.zone z).state := rfl
  unfold State.sampleZone State.sampleActs
  rw [if_pos hz, hstate]
  obtain h | h := h <;> rw [h]

/-- A heated zone's sound sample acts on the heater and by the band (R100, R103, R105). -/
theorem sampleZone_sound (hz : s.isZone z = true) (hoff : (s.zone z).state ≠ .off) (hfault : (s.zone z).state ≠ .fault)
    (ho : ¬overTemperature s.sets.box z ((s.zone z).sampled s.sets.box raw) = true)
    (hf : ((s.zone z).sampled s.sets.box raw).sensorFault = false) :
    s.sampleZone z raw = s.setZone z ((((s.zone z).sampled s.sets.box raw).heated s.sets.box z).banded s.sets.box z s.now) := by
  unfold State.sampleZone State.sampleActs
  rw [if_pos hz, zoneCauseOf_none ho hf]
  split
  · exact absurd ‹_› hoff
  · exact absurd ‹_› hfault
  all_goals rfl

/-- A heated zone over temperature or with a sensor fault goes to FAULT (R106). -/
theorem sampleZone_faulted (hz : s.isZone z = true) (hoff : (s.zone z).state ≠ .off) (hfault : (s.zone z).state ≠ .fault)
    (h : overTemperature s.sets.box z ((s.zone z).sampled s.sets.box raw) = true
      ∨ ((s.zone z).sampled s.sets.box raw).sensorFault = true) :
    ∃ u cause, (u = s ∨ u = s.chosen) ∧ s.sampleZone z raw = u.zoneFault z ((s.zone z).sampled s.sets.box raw) cause
      ∧ (((s.zone z).sampled s.sets.box raw).sensorFault = false → cause = .overtemperature)
      ∧ (¬overTemperature s.sets.box z ((s.zone z).sampled s.sets.box raw) = true → cause = .sensor) := by
  obtain ⟨cause, hc, hwarm, hsensor⟩ := zoneCauseOf_some s.choice h
  refine ⟨_, cause, (ite_eq_or_eq (overTemperature s.sets.box z ((s.zone z).sampled s.sets.box raw) = true
    ∧ ((s.zone z).sampled s.sets.box raw).sensorFault = true) s.chosen s).symm, ?_, hwarm, hsensor⟩
  unfold State.sampleZone State.sampleActs
  rw [if_pos hz, hc]
  split
  · exact absurd ‹_› hoff
  · exact absurd ‹_› hfault
  all_goals rfl

end

/-- What a sample does: nothing to a zone that is none of the station's, else it puts a record in place or faults the zone. -/
theorem sampleZone_cases (s : State) (z : Fin 4) (raw : BitVec 12) : s.sampleZone z raw = s ∨ (∃ r, s.sampleZone z raw = s.setZone z r)
    ∨ ∃ u r cause, (u = s ∨ u = s.chosen) ∧ s.sampleZone z raw = u.zoneFault z r cause := by
  by_cases hz : s.isZone z = true
  · by_cases hoff : (s.zone z).state = .off
    · exact .inr (.inl ⟨_, sampleZone_shown hz (.inl hoff)⟩)
    · by_cases hfault : (s.zone z).state = .fault
      · exact .inr (.inl ⟨_, sampleZone_shown hz (.inr hfault)⟩)
      · by_cases h : overTemperature s.sets.box z ((s.zone z).sampled s.sets.box raw) = true
          ∨ ((s.zone z).sampled s.sets.box raw).sensorFault = true
        · obtain ⟨u, cause, hu, e, _⟩ := sampleZone_faulted hz hoff hfault h
          exact .inr (.inr ⟨u, _, cause, hu, e⟩)
        · rw [not_or, Bool.not_eq_true _] at h
          exact .inr (.inl ⟨_, sampleZone_sound hz hoff hfault (by simpa using h.1) (by simpa using h.2)⟩)
  · exact .inl (if_neg hz)

theorem sampleZone_pass (s : State) (z : Fin 4) (raw : BitVec 12) : ZonePass s (s.sampleZone z raw) := by
  obtain e | ⟨r, e⟩ | ⟨u, r, cause, hu, e⟩ := sampleZone_cases s z raw <;> rw [e]
  · exact .refl s
  · exact .setZone s z r
  · obtain rfl | rfl := hu
    · exact zoneFault_pass _ z r cause
    · exact (ZonePass.chosen s).trans (zoneFault_pass _ z r cause)

theorem sampleZone_zone_other (s : State) (z y : Fin 4) (raw : BitVec 12) (h : y ≠ z) : (s.sampleZone z raw).zone y = s.zone y := by
  obtain e | ⟨r, e⟩ | ⟨u, r, cause, hu, e⟩ := sampleZone_cases s z raw <;> rw [e]
  · rw [setZone_zone, if_neg h]
  · rw [zoneFault_zone, if_neg h]
    obtain rfl | rfl := hu <;> rfl

/-! ## The four samples -/

/-- The station at a converter expiry, before the samples are taken (R99). -/
def State.converterReached (s : State) : State :=
  { s.reachTime s.box.converterDue with box.converterDue := s.box.converterDue + 100000 }

/-- The station once the four samples are taken, before it settles (R99). -/
def State.samplesTaken (s : State) (raws : Vector (BitVec 12) 4) : State :=
  (List.finRange 4).foldl (fun u z => u.sampleZone z raws[z]) s.converterReached

theorem exec_converterTimerExpiry (r0 r1 r2 r3 : BitVec 12) (s : State) :
    exec (.converterTimerExpiry r0 r1 r2 r3) s = .next (s.samplesTaken #v[r0, r1, r2, r3]).settle := by
  have hzones : List.finRange 4 = [0, 1, 2, 3] := rfl
  unfold State.samplesTaken
  rw [hzones]
  rfl

theorem converterReached_still (s : State) : s.converterReached.still =
    { s.still with now := max s.now s.box.converterDue, converterDue := s.box.converterDue + 100000 } := rfl

section
variable (s : State) (raws : Vector (BitVec 12) 4) (z : Fin 4)

theorem samplesTaken_pass : ZonePass s.converterReached (s.samplesTaken raws) := .foldl (fun u z => sampleZone_pass u z raws[z]) _ _

/-- The sample as it comes to zone `z`: the zones before it are sampled, `z` has its record of before. -/
theorem samplesTaken_zone : ∃ u : State, ZonePass s.converterReached u ∧ u.zone z = s.zone z
    ∧ ZonePass (u.sampleZone z raws[z]) (s.samplesTaken raws) ∧ (s.samplesTaken raws).zone z = (u.sampleZone z raws[z]).zone z := by
  obtain ⟨before, after, e, hbefore, hzone⟩ :=
    foldl_zone (act := fun u z => u.sampleZone z raws[z]) (fun u z y => sampleZone_zone_other u z y raws[z]) s.converterReached z
  have hpass (l : List (Fin 4)) (u : State) : ZonePass u (l.foldl (fun u z => u.sampleZone z raws[z]) u) :=
    .foldl (fun u z => sampleZone_pass u z raws[z]) l u
  refine ⟨before.foldl (fun u z => u.sampleZone z raws[z]) s.converterReached, hpass _ _, hbefore, ?_, hzone⟩
  rw [State.samplesTaken, e]
  exact hpass _ _

end

section
variable {s : State} {raws : Vector (BitVec 12) 4} {z : Fin 4}

theorem samplesTaken_shown (hz : s.isZone z = true) (h : (s.zone z).state = .off ∨ (s.zone z).state = .fault) :
    (s.samplesTaken raws).zone z = (s.zone z).sampled s.sets.box raws[z] := by
  obtain ⟨u, hpass, hu, _, hzone⟩ := samplesTaken_zone s raws z
  have hsets : u.sets = s.sets := hpass.sets
  have huz : u.isZone z = true := by unfold State.isZone; rw [hsets]; exact hz
  rw [hzone, sampleZone_shown huz (by rw [hu]; exact h), setZone_zone, if_pos rfl, hu, hsets]

theorem samplesTaken_sound (hz : s.isZone z = true) (hoff : (s.zone z).state ≠ .off) (hfault : (s.zone z).state ≠ .fault)
    (ho : ¬overTemperature s.sets.box z ((s.zone z).sampled s.sets.box raws[z]) = true)
    (hf : ((s.zone z).sampled s.sets.box raws[z]).sensorFault = false) :
    (s.samplesTaken raws).zone z =
      (((s.zone z).sampled s.sets.box raws[z]).heated s.sets.box z).banded s.sets.box z (max s.now s.box.converterDue) := by
  obtain ⟨u, hpass, hu, _, hzone⟩ := samplesTaken_zone s raws z
  have hsets : u.sets = s.sets := hpass.sets
  have hnow : u.now = max s.now s.box.converterDue := hpass.now
  have huz : u.isZone z = true := by unfold State.isZone; rw [hsets]; exact hz
  rw [hzone, sampleZone_sound huz (by rw [hu]; exact hoff) (by rw [hu]; exact hfault) (by rw [hu, hsets]; exact ho)
    (by rw [hu, hsets]; exact hf), setZone_zone, if_pos rfl, hu, hsets, hnow]

/-- A zone that its sample faults: the record, the ZONE source, and the drain given up (R106, R113, R121). -/
theorem samplesTaken_faulted (hz : s.isZone z = true) (hoff : (s.zone z).state ≠ .off) (hfault : (s.zone z).state ≠ .fault)
    (h : overTemperature s.sets.box z ((s.zone z).sampled s.sets.box raws[z]) = true
      ∨ ((s.zone z).sampled s.sets.box raws[z]).sensorFault = true) :
    (∃ cause, (s.samplesTaken raws).zone z =
          { ((s.zone z).sampled s.sets.box raws[z]).faulted cause with change := some (.faulted, .fault) }
        ∧ (((s.zone z).sampled s.sets.box raws[z]).sensorFault = false → cause = .overtemperature)
        ∧ (¬overTemperature s.sets.box z ((s.zone z).sampled s.sets.box raws[z]) = true → cause = .sensor))
      ∧ (s.samplesTaken raws).port.ip.getLsbD 3 = true ∧ (s.samplesTaken raws).box.owner ≠ some z := by
  obtain ⟨u, hpass, hu, hrest, hzone⟩ := samplesTaken_zone s raws z
  have hsets : u.sets = s.sets := hpass.sets
  have huz : u.isZone z = true := by unfold State.isZone; rw [hsets]; exact hz
  rw [← hu, ← hsets] at h ⊢
  obtain ⟨v, cause, _, e, hwarm, hsensor⟩ := sampleZone_faulted huz (by rw [hu]; exact hoff) (by rw [hu]; exact hfault) h
  rw [e] at hzone hrest
  rw [zoneFault_zone, if_pos rfl] at hzone
  refine ⟨⟨cause, hzone, hwarm, hsensor⟩, hrest.rises.pending (signal_zone_flag _), ?_⟩
  obtain ho | ho := hrest.owner <;> rw [ho]
  · exact zoneFault_owner v z _ cause
  · exact (Option.some_ne_none z).symm

end

/-! ## The samples settled -/

/-- The band rules leave the reading (R99). -/
theorem banded_reading (r : Zone) (b : BoxSet) (z : Fin 4) (now : Nat) :
    (r.banded b z now).raw = r.raw ∧ (r.banded b z now).temp = r.temp ∧ (r.banded b z now).sensorFault = r.sensorFault := by
  unfold Zone.banded
  split
  · split
    · split <;> exact ⟨rfl, rfl, rfl⟩
    · exact ⟨rfl, rfl, rfl⟩
  · split <;> exact ⟨rfl, rfl, rfl⟩
  · split <;> exact ⟨rfl, rfl, rfl⟩
  all_goals exact ⟨rfl, rfl, rfl⟩

theorem heated_reading (r : Zone) (b : BoxSet) (z : Fin 4) :
    (r.heated b z).raw = r.raw ∧ (r.heated b z).temp = r.temp ∧ (r.heated b z).sensorFault = r.sensorFault := by
  rw [heated_eq]
  exact ⟨rfl, rfl, rfl⟩

/-- A zone that is neither READY nor OPEN, nor the drain's owner, does not become its owner as the zones settle (R110). -/
theorem zoneSettle_owner_ne {s : State} {z : Fin 4} (ho : s.box.owner ≠ some z) (hready : (s.zone z).state ≠ .ready)
    (hopen : (s.zone z).state ≠ .open) : s.zoneSettle.box.owner ≠ some z := by
  cases hs : s.box.owner with
  | some y =>
    rw [zoneSettle_owner_kept (.inl (by rw [hs]; exact Option.some_ne_none y))]
    exact ho
  | none =>
    rw [zoneSettle_owner_free hs]
    intro h
    obtain ⟨⟨_, c⟩, _⟩ := (drainChoice_moveValves_some s z).mp h
    exact c.elim (fun c => hready c.1) fun c => hopen c.1

section
variable {s : State} {raws : Vector (BitVec 12) 4} {z : Fin 4}

/-- Every zone of the station shows its reading (R99). -/
theorem samplesSettled_reading (hz : s.isZone z = true) :
    ((s.samplesTaken raws).zoneSettle.zone z).raw = ((s.zone z).sampled s.sets.box raws[z]).raw
      ∧ ((s.samplesTaken raws).zoneSettle.zone z).temp = ((s.zone z).sampled s.sets.box raws[z]).temp
      ∧ ((s.samplesTaken raws).zoneSettle.zone z).sensorFault = ((s.zone z).sampled s.sets.box raws[z]).sensorFault := by
  obtain ⟨hraw, htemp, hsensor, _⟩ := zoneSettle_zone_keeps (s.samplesTaken raws) z
  rw [hraw, htemp, hsensor]
  by_cases hshown : (s.zone z).state = .off ∨ (s.zone z).state = .fault
  · rw [samplesTaken_shown hz hshown]
    exact ⟨rfl, rfl, rfl⟩
  · obtain ⟨hoff, hfault⟩ := not_or.mp hshown
    by_cases h : overTemperature s.sets.box z ((s.zone z).sampled s.sets.box raws[z]) = true
        ∨ ((s.zone z).sampled s.sets.box raws[z]).sensorFault = true
    · obtain ⟨⟨cause, e, _⟩, _⟩ := samplesTaken_faulted hz hoff hfault h
      rw [e]
      exact ⟨rfl, rfl, rfl⟩
    · obtain ⟨ho, hf⟩ := not_or.mp h
      obtain ⟨hraw, htemp, hsensor⟩ := banded_reading (((s.zone z).sampled s.sets.box raws[z]).heated s.sets.box z) s.sets.box z
        (max s.now s.box.converterDue)
      rw [samplesTaken_sound hz hoff hfault ho (Bool.eq_false_of_not_eq_true hf), hraw, htemp, hsensor]
      exact heated_reading _ _ _

theorem samplesSettled_shown (hz : s.isZone z = true) (h : (s.zone z).state = .off ∨ (s.zone z).state = .fault) :
    (s.samplesTaken raws).zoneSettle.zone z = (s.zone z).sampled s.sets.box raws[z] := by
  have e := samplesTaken_shown (raws := raws) hz h
  have hstate : ((s.samplesTaken raws).zone z).state = (s.zone z).state := by rw [e]; rfl
  refine (zoneSettle_zone_still ?_ ?_).trans e
  all_goals rw [hstate]; obtain h | h := h <;> rw [h] <;> decide

theorem samplesSettled_faulted (hz : s.isZone z = true) (hoff : (s.zone z).state ≠ .off) (hfault : (s.zone z).state ≠ .fault)
    (h : overTemperature s.sets.box z ((s.zone z).sampled s.sets.box raws[z]) = true
      ∨ ((s.zone z).sampled s.sets.box raws[z]).sensorFault = true) :
    (∃ cause, (s.samplesTaken raws).zoneSettle.zone z =
          { ((s.zone z).sampled s.sets.box raws[z]).faulted cause with change := some (.faulted, .fault) }
        ∧ (((s.zone z).sampled s.sets.box raws[z]).sensorFault = false → cause = .overtemperature)
        ∧ (¬overTemperature s.sets.box z ((s.zone z).sampled s.sets.box raws[z]) = true → cause = .sensor))
      ∧ (s.samplesTaken raws).port.ip.getLsbD 3 = true ∧ (s.samplesTaken raws).zoneSettle.box.owner ≠ some z := by
  obtain ⟨⟨cause, e, hcause⟩, hflag, howner⟩ := samplesTaken_faulted hz hoff hfault h
  have hstate : ((s.samplesTaken raws).zone z).state = .fault := congrArg Zone.state e
  have hready : ((s.samplesTaken raws).zone z).state ≠ .ready := by rw [hstate]; decide
  have hopen : ((s.samplesTaken raws).zone z).state ≠ .open := by rw [hstate]; decide
  exact ⟨⟨cause, (zoneSettle_zone_still hready hopen).trans e, hcause⟩, hflag, zoneSettle_owner_ne howner hready hopen⟩

/-- The heated zone's sound sample in WARMING (R100, R103). -/
theorem samplesSettled_warming (hz : s.isZone z = true) (hw : (s.zone z).state = .warming)
    (ho : ¬overTemperature s.sets.box z ((s.zone z).sampled s.sets.box raws[z]) = true)
    (hf : ((s.zone z).sampled s.sets.box raws[z]).sensorFault = false) :
    (s.samplesTaken raws).zoneSettle.zone z =
      (((s.zone z).sampled s.sets.box raws[z]).heated s.sets.box z).banded s.sets.box z (max s.now s.box.converterDue) := by
  have e := samplesTaken_sound hz (by rw [hw]; decide) (by rw [hw]; decide) ho hf
  have hheated : (((s.zone z).sampled s.sets.box raws[z]).heated s.sets.box z).state = .warming := (heated_state _ _ _).trans hw
  have hstate : ((s.samplesTaken raws).zone z).state = .warming := by
    rw [e, banded_warming _ _ hheated]
    split <;> exact hheated
  exact (zoneSettle_zone_still (by rw [hstate]; decide) (by rw [hstate]; decide)).trans e

/-- The heated zone's sound sample in KEEPWARM and in PURGE acts on the heater alone (R100). -/
theorem samplesSettled_heated (hz : s.isZone z = true) (h : (s.zone z).state = .keepwarm ∨ (s.zone z).state = .purge)
    (ho : ¬overTemperature s.sets.box z ((s.zone z).sampled s.sets.box raws[z]) = true)
    (hf : ((s.zone z).sampled s.sets.box raws[z]).sensorFault = false) :
    (s.samplesTaken raws).zoneSettle.zone z = ((s.zone z).sampled s.sets.box raws[z]).heated s.sets.box z := by
  have away (st : ZoneState) (hk : st ≠ .keepwarm) (hp : st ≠ .purge) : (s.zone z).state ≠ st := fun c =>
    h.elim (fun e => hk (c.symm.trans e)) fun e => hp (c.symm.trans e)
  have e := samplesTaken_sound hz (away .off (by decide) (by decide)) (away .fault (by decide) (by decide)) ho hf
  have hheated := heated_state ((s.zone z).sampled s.sets.box raws[z]) s.sets.box z
  rw [banded_other _ _ (by rw [hheated]; exact h)] at e
  refine (zoneSettle_zone_still ?_ ?_).trans e <;> rw [e, hheated]
  · exact away .ready (by decide) (by decide)
  · exact away .open (by decide) (by decide)

/-- The heated zone's sound sample in READY and OPEN (R100, R105). -/
theorem samplesSettled_steaming (hz : s.isZone z = true) (h : (s.zone z).state = .ready ∨ (s.zone z).state = .open)
    (ho : ¬overTemperature s.sets.box z ((s.zone z).sampled s.sets.box raws[z]) = true)
    (hf : ((s.zone z).sampled s.sets.box raws[z]).sensorFault = false) :
    (¬inBand s.sets.box z ((s.zone z).sampled s.sets.box raws[z]) = true →
        ((s.samplesTaken raws).zoneSettle.zone z).state = .warming ∧ ((s.samplesTaken raws).zoneSettle.zone z).settle = none)
      ∧ (inBand s.sets.box z ((s.zone z).sampled s.sets.box raws[z]) = true →
        ((s.samplesTaken raws).zoneSettle.zone z).state ≠ .warming ∧ ((s.samplesTaken raws).zoneSettle.zone z).state ≠ .fault)
      ∧ (s.box.idle ≠ .expired → ((s.samplesTaken raws).zoneSettle.zone z).heater =
          (((s.zone z).sampled s.sets.box raws[z]).heated s.sets.box z).heater) := by
  have away (st : ZoneState) (hr : st ≠ .ready) (ho : st ≠ .open) : (s.zone z).state ≠ st := fun c =>
    h.elim (fun e => hr (c.symm.trans e)) fun e => ho (c.symm.trans e)
  have e := samplesTaken_sound hz (away .off (by decide) (by decide)) (away .fault (by decide) (by decide)) ho hf
  have hheated := heated_state ((s.zone z).sampled s.sets.box raws[z]) s.sets.box z
  have hband : inBand s.sets.box z (((s.zone z).sampled s.sets.box raws[z]).heated s.sets.box z) =
      inBand s.sets.box z ((s.zone z).sampled s.sets.box raws[z]) := by rw [heated_eq]; rfl
  rw [banded_settled _ _ (by rw [hheated]; exact h), hband] at e
  refine ⟨fun hout => ?_, fun hin => ?_, fun hidle => ?_⟩
  · rw [if_neg hout] at e
    rw [zoneSettle_zone_still] <;> rw [e]
    · exact ⟨rfl, rfl⟩
    all_goals exact fun c => ZoneState.noConfusion c
  · rw [if_pos hin] at e
    refine zoneSettle_zone_states ?_
    rw [e, hheated]
    exact h
  · obtain ⟨_, _, _, _, _, _, hkeeps⟩ := zoneSettle_zone_keeps (s.samplesTaken raws) z
    have hidles : (s.samplesTaken raws).box.idle = s.box.idle := (samplesTaken_pass s raws).idle
    rw [hkeeps (by rw [hidles]; exact hidle), e]
    split <;> rfl

end

/-- Settles O42: each zone's sample acts by its own state, and the settling moves it on only from READY and OPEN. -/
theorem zonesSampled : Obligations.ZonesSampled := by
  refine fun r0 r1 r2 r3 s hk => ⟨_, exec_converterTimerExpiry r0 r1 r2 r3 s, ?_⟩
  generalize #v[r0, r1, r2, r3] = raws
  have hpass := samplesTaken_pass s raws
  have hobeys : (s.samplesTaken raws).KnifeObeys := hpass.knifeObeys hk
  have hstill := ((settle_still _).trans hpass.still).trans (converterReached_still s)
  have hcalm := (settle_calm_of_obeys hobeys).trans hpass.calm
  have hbox := settle_box_of_obeys hobeys
  have hzone := settle_zone_of_obeys hobeys
  have hflag := (Rises.settle (s.samplesTaken raws)).pending (k := 3)
  generalize (s.samplesTaken raws).settle = t at hstill hcalm hbox hzone hflag ⊢
  have hnow : t.now = max s.now s.box.converterDue := congrArg Still.now hstill
  have hdue : t.box.converterDue = s.box.converterDue + 100000 := congrArg Still.converterDue hstill
  have hchoices : t.choices = (s.samplesTaken raws).choices := congrArg Calm.choices hcalm
  refine ⟨hnow, hdue, ?_, ?_, fun z hz => ?_⟩
  · rw [hchoices]; exact hcalm
  · rw [hnow, hdue]; exact hstill
  · intro raw b temp bad shown hot inside
    have hshown : (s.zone z).sampled s.sets.box raws[z] = shown := sampled_eq _ _ _
    have hover : overTemperature s.sets.box z shown = true ↔ hot := overTemperature_iff _ z shown
    have hbad : shown.sensorFault = true ↔ bad := decide_eq_true_iff
    have hsound : ¬bad → shown.sensorFault = false := fun h => decide_eq_false h
    have hband : ¬bad → (inBand b z shown = true ↔ inside) := fun h => by
      rw [inBand_iff, hsound h]
      exact ⟨fun c => ⟨c.1, c.2.1⟩, fun c => ⟨c.1, c.2, rfl⟩⟩
    have hreading := samplesSettled_reading (raws := raws) hz
    rw [hshown, ← hzone] at hreading
    obtain ⟨hraw, htemp, hsensor⟩ := hreading
    refine ⟨hraw, htemp, hsensor, fun h => ?_, fun hoff hfault h => ?_, fun hcool hgood => ?_⟩
    · rw [hzone, samplesSettled_shown hz h, hshown]
    · have hfaulted := samplesSettled_faulted (raws := raws) hz hoff hfault
      rw [hshown, ← hzone, ← hbox] at hfaulted
      obtain ⟨⟨cause, e, hwarm, hsensor⟩, hpending, howner⟩ := hfaulted (h.imp hover.mpr hbad.mpr)
      rw [e]
      exact ⟨rfl, rfl, rfl, rfl, fun c => congrArg some (hwarm (hsound c)), fun c => congrArg some (hsensor (mt hover.mp c)), rfl, rfl,
        rfl, hflag hpending, howner⟩
    · have hnot : ¬overTemperature s.sets.box z ((s.zone z).sampled s.sets.box raws[z]) = true := by rw [hshown]; exact mt hover.mp hcool
      have hclear : ((s.zone z).sampled s.sets.box raws[z]).sensorFault = false := by rw [hshown]; exact hsound hgood
      have hsetpoint (h : (s.zone z).state ≠ .keepwarm) := heated_setpoint (r := shown) b z h
      refine ⟨fun h => ?_, fun h => ?_, fun h => ?_, fun h => ?_⟩
      · have e := samplesSettled_warming hz h hnot hclear
        have hheated : (shown.heated b z).state = .warming := (heated_state shown b z).trans h
        rw [hshown, banded_warming _ z hheated, hsetpoint (by rw [h]; decide)] at e
        rw [hzone, e, hnow]
        by_cases hin : inside
        · rw [if_pos hin]
          exact if_pos ((hband hgood).mpr hin)
        · rw [if_neg hin]
          exact if_neg (mt (hband hgood).mp hin)
      · have e := samplesSettled_heated hz (.inl h) hnot hclear
        rw [hshown, heated_keepwarm (r := shown) b z h] at e
        rw [hzone, e]
      · have e := samplesSettled_heated hz (.inr h) hnot hclear
        rw [hshown, hsetpoint (by rw [h]; decide)] at e
        rw [hzone, e]
      · have e := samplesSettled_steaming hz h hnot hclear
        rw [hshown, hsetpoint (by obtain h | h := h <;> rw [h] <;> decide), hband hgood, ← hzone] at e
        exact e

end Sys2Proof.Machine
end

section
namespace Sys2Proof.Machine

/-! # A dwell timer expiry (R127, R128) -/

/-- The length below a zone as a sum over the zones (R98, R127). -/
theorem lengthBelow_eq (b : BoxSet) (count : Nat) :
    b.lengthBelow count = ((List.finRange 4).map fun z => if z.val < count then b.zones[z].length else 0).sum := by
  have h := foldl_add_if (fun z => b.zones[z].length) (fun z => z.val < count) (List.finRange 4) 0
  simpa [BoxSet.lengthBelow] using h

/-- A zone ends where the next one begins, or before a later one (R127). -/
theorem lengthBelow_end_le (b : BoxSet) {y z : Fin 4} (h : y < z) : b.lengthBelow y.val + b.zones[y].length ≤ b.lengthBelow z.val := by
  rw [lengthBelow_eq, lengthBelow_eq]
  fin_cases y <;> fin_cases z <;> simp [List.finRange_succ] at h ⊢
  omega

/-- A depth behind the knife line lies in a zone (R127). -/
def BoxSet.InZone (b : BoxSet) (depth : Nat) (z : Fin 4) : Prop :=
  b.lengthBelow z.val ≤ depth ∧ depth < b.lengthBelow z.val + b.zones[z].length

theorem inZone_unique {b : BoxSet} {depth : Nat} {y z : Fin 4} (hy : b.InZone depth y) (hz : b.InZone depth z) : y = z := by
  obtain ⟨hy1, hy2⟩ := hy
  obtain ⟨hz1, hz2⟩ := hz
  rcases lt_trichotomy y z with h | h | h
  · have := lengthBelow_end_le b h
    omega
  · exact h
  · have := lengthBelow_end_le b h
    omega

/-- The depth of a cell's midpoint behind the knife line (R127). -/
def State.depth (s : State) (c : DwellCell) : Pos := s.web.o - c.midpoint s.sets.box.cell

/-- The test of a zone in the search for the one a cell stands in (R127). -/
def State.standsIn (s : State) (c : DwellCell) (z : Fin 4) : Bool :=
  s.isZone z && decide (s.sets.box.lengthBelow z.val ≤ (s.depth c).toNat)
    && decide ((s.depth c).toNat < s.sets.box.lengthBelow z.val + s.sets.box.zones[z].length)

theorem standsIn_iff (s : State) (c : DwellCell) (z : Fin 4) :
    s.standsIn c z = true ↔ s.isZone z = true ∧ s.sets.box.InZone (s.depth c).toNat z := by
  simp [State.standsIn, BoxSet.InZone, and_assoc]

/-- The search finds the zone that the test names, as no other passes it. -/
theorem find_standsIn_eq_some {s : State} {c : DwellCell} {z : Fin 4} :
    (List.finRange 4).find? (s.standsIn c) = some z ↔ s.standsIn c z = true := by
  refine ⟨List.find?_some, fun hz => ?_⟩
  cases hy : (List.finRange 4).find? (s.standsIn c) with
  | none => exact absurd hz (List.find?_eq_none.mp hy z (List.mem_finRange z))
  | some y => exact congrArg some (inZone_unique ((standsIn_iff s c y).mp (List.find?_some hy)).2 ((standsIn_iff s c z).mp hz).2)

/-- The zone a cell stands in is the one zone of the station that its depth lies in (R127). -/
theorem cellZone_eq_some {s : State} {c : DwellCell} {z : Fin 4} : s.cellZone c = some z ↔
    (s.depth c).toNat < 2147483648 ∧ s.isZone z = true ∧ s.sets.box.InZone (s.depth c).toNat z := by
  have hreach : atOrBeyond s.web.o (c.midpoint s.sets.box.cell) = true ↔ (s.depth c).toNat < 2147483648 := decide_eq_true_iff
  have hcell : s.cellZone c =
      if atOrBeyond s.web.o (c.midpoint s.sets.box.cell) = true then (List.finRange 4).find? (s.standsIn c) else none := rfl
  rw [hcell, ← standsIn_iff, ← hreach]
  split
  · rename_i ho
    rw [find_standsIn_eq_some, and_iff_right ho]
  · rename_i ho
    exact ⟨nofun, fun h => absurd h.1 ho⟩

theorem steamed_iff (s : State) (c : DwellCell) : s.steamed c = true ↔
    ∃ z : Fin 4, s.isZone z = true ∧ (s.zone z).state = .open ∧ (s.depth c).toNat < 2147483648
      ∧ s.sets.box.InZone (s.depth c).toNat z := by
  have hzone : s.steamed c = true ↔ ∃ z, s.cellZone c = some z ∧ (s.zone z).state = .open := by
    unfold State.steamed
    cases s.cellZone c with
    | none => simp
    | some z => simp
  rw [hzone]
  refine exists_congr fun z => ?_
  rw [cellZone_eq_some]
  exact ⟨fun ⟨⟨hd, hs, hin⟩, ho⟩ => ⟨hs, ho, hd, hin⟩, fun ⟨hs, ho, hd, hin⟩ => ⟨⟨hd, hs, hin⟩, ho⟩⟩

/-- The state at a dwell timer expiry, before anything accrues (R128). -/
def State.dwellReached (s : State) : State :=
  { s with now := max s.now s.dwell.dwellDue, dwell.dwellDue := s.dwell.dwellDue + 100000 }

theorem exec_dwellTimerExpiry_config {s : State} (h : s.port.state = .config) : exec .dwellTimerExpiry s = .next s.dwellReached := by
  refine if_neg ?_
  simp [State.running, h]

theorem exec_dwellTimerExpiry_running {s : State} (h : s.port.state ≠ .config) : exec .dwellTimerExpiry s =
    .next { s.dwellReached with dwell.cells := s.dwell.cells.map s.dwellReached.accrue } := by
  refine if_pos ?_
  simp [State.running, h]

/-- Settles O47: a cell accrues where the one zone that its depth lies in is OPEN. -/
theorem dwellAccrues : Obligations.DwellAccrues := by
  unfold Obligations.DwellAccrues
  intro s t
  refine ⟨exec_dwellTimerExpiry_config, fun h => (exec_dwellTimerExpiry_running h).trans ?_⟩
  refine congrArg (fun cells => Host.Outcome.next { s.dwellReached with dwell.cells := cells }) (List.map_congr_left fun c _ => ?_)
  refine if_congr ?_ rfl rfl
  exact steamed_iff s.dwellReached c

end Sys2Proof.Machine
end

section
namespace Sys2Proof.Machine

/-! # The cells that exit (R129 to R131) -/

theorem repeat_add {α : Type} (f : α → α) (m n : Nat) (x : α) : Nat.repeat f (m + n) x = Nat.repeat f n (Nat.repeat f m x) := by
  induction n with
  | zero => rfl
  | succ n ih => exact congrArg f ih

/-- A dwell below this is underset (R129). -/
def State.threshold (s : State) : Nat := 100 * s.sets.box.dwell

/-- The MARK frame that the closing of an underset range hands (R88, R131). -/
def State.undersetFrame (s : State) (start : Pos) (extent : Nat) : MarkPayload :=
  { count := s.web.sent + 1, kind := 4, spare := false, origin := BitVec.ofNat 4 s.ownId.val
    position := start + toPos s.sets.feed.b, value := BitVec.ofNat 16 extent, roll := 0 }

/-- The UNDERSET mark of an underset range closed (R131). -/
def State.rangeMark (s : State) (r : UndersetRange) : Mark :=
  { body := .underset (BitVec.ofNat 16 r.extent), origin := s.ownId, pos := r.start + toPos s.sets.feed.b }

/-- The open range closes with its UNDERSET mark (R131). -/
theorem closeRange_some {s : State} {r : UndersetRange} (h : s.dwell.range = some r) :
    s.closeRange.dwell = { s.dwell with range := none, announced := satInc s.dwell.announced }
      ∧ s.closeRange.web.sent = s.web.sent + 1
      ∧ (s.link.marks.length < 6 → s.ownId.val + 1 ≠ s.sets.line.n → s.port.state ≠ .silent →
          s.closeRange.link.marks = s.link.marks ++ [s.undersetFrame r.start r.extent]) := by
  have hclose : s.closeRange = { s.announce (s.rangeMark r) with
      dwell.range := none, dwell.announced := satInc (s.announce (s.rangeMark r)).dwell.announced } := by
    rw [State.closeRange, h]
    rfl
  obtain ⟨hweb, hdwell⟩ := announce_counts s (s.rangeMark r)
  have hmarks := fun hl hn hs => announce_marks (s := s) hl hn hs (s.rangeMark r)
  rw [hclose]
  generalize s.announce (s.rangeMark r) = t at hweb hdwell hmarks ⊢
  have hsame : t.dwell = s.dwell := hdwell
  refine ⟨?_, (congrArg Web.sent hweb :), hmarks⟩
  show { t.dwell with range := none, announced := satInc t.dwell.announced } = _
  rw [hsame]

theorem closeRange_none {s : State} (h : s.dwell.range = none) : s.closeRange = s := by rw [State.closeRange, h]

/-! ## One cell -/

/-- A cell that met its dwell closes the range (R129, R131). -/
theorem exitCell_met {s : State} {c : DwellCell} (h : s.threshold ≤ c.dwell) :
    s.exitCell c = State.closeRange { s with dwell.exited := satInc s.dwell.exited } := if_pos h

theorem exitCell_under {s : State} {c : DwellCell} (h : c.dwell < s.threshold) :
    s.exitCell c = State.undersetCell
      { s with dwell.exited := satInc s.dwell.exited, dwell.underset := satInc s.dwell.underset } c.start := if_neg (Nat.not_le_of_lt h)

/-- An underset cell opens a range where none is open (R130). -/
theorem undersetCell_opens {s : State} (hr : s.dwell.range = none) (p : Pos) :
    s.undersetCell p = { s with dwell.range := some { start := p, extent := s.sets.box.cell } } := by
  rw [State.undersetCell, hr]
  rfl

/-- An underset cell that follows on the open range extends it (R130). -/
theorem undersetCell_extends {s : State} {r : UndersetRange} {p : Pos} (hr : s.dwell.range = some r)
    (hstart : p = r.start + toPos r.extent) (hfits : r.extent + s.sets.box.cell ≤ 65535) :
    s.undersetCell p = { s with dwell.range := some { r with extent := r.extent + s.sets.box.cell } } := by
  rw [State.undersetCell, hr]
  exact if_pos ⟨hstart, hfits⟩

/-- An underset cell apart from the open range, or too far for it, closes it and opens a range of its own (R130). -/
theorem undersetCell_apart {s : State} {r : UndersetRange} {p : Pos} (hr : s.dwell.range = some r)
    (hapart : p ≠ r.start + toPos r.extent ∨ 65535 < r.extent + s.sets.box.cell) :
    (s.undersetCell p).dwell.range = some { start := p, extent := s.sets.box.cell }
      ∧ (s.undersetCell p).web.sent = s.web.sent + 1 ∧ (s.undersetCell p).dwell.announced = satInc s.dwell.announced := by
  obtain ⟨hdwell, hsent, -⟩ := closeRange_some hr
  have hsets : s.closeRange.sets = s.sets := congrArg Still.sets (closeRange_still s)
  have hclose : s.undersetCell p = s.closeRange.openRange p := by
    rw [State.undersetCell, hr]
    exact if_neg fun hboth => hapart.elim (fun h => h hboth.1) (Nat.not_lt_of_le hboth.2)
  rw [hclose]
  refine ⟨?_, hsent, (congrArg Dwell.announced hdwell :)⟩
  show some { start := p, extent := s.closeRange.sets.box.cell : UndersetRange } = _
  rw [hsets]

/-! ## The counts of the cells that exit -/

/-- From `s` to `t` these cells have exited: they are counted, and what later cells enter by stays. -/
structure Exited (s : State) (gone : List DwellCell) (t : State) : Prop where
  nextStart : t.dwell.nextStart = s.dwell.nextStart
  tag : t.dwell.tag = s.dwell.tag
  exited : t.dwell.exited = Nat.repeat satInc gone.length s.dwell.exited
  underset : t.dwell.underset = Nat.repeat satInc (gone.countP fun c => decide (c.dwell < s.threshold)) s.dwell.underset

namespace Exited

theorem trans {s t u : State} {xs ys : List DwellCell} (h : Exited s xs t) (g : Exited t ys u) (hs : t.threshold = s.threshold) :
    Exited s (xs ++ ys) u where
  nextStart := g.nextStart.trans h.nextStart
  tag := g.tag.trans h.tag
  exited := by rw [g.exited, h.exited, List.length_append, repeat_add]
  underset := by rw [g.underset, h.underset, hs, List.countP_append, repeat_add]

theorem closeRange (s : State) : Exited s [] s.closeRange := by
  cases hr : s.dwell.range with
  | none =>
    rw [closeRange_none hr]
    exact ⟨rfl, rfl, rfl, rfl⟩
  | some r =>
    obtain ⟨hdwell, -⟩ := closeRange_some hr
    exact ⟨(congrArg Dwell.nextStart hdwell :), (congrArg Dwell.tag hdwell :), (congrArg Dwell.exited hdwell :),
      (congrArg Dwell.underset hdwell :)⟩

theorem undersetCell (s : State) (p : Pos) : Exited s [] (s.undersetCell p) := by
  have hclose := closeRange s
  unfold State.undersetCell
  split
  · exact ⟨rfl, rfl, rfl, rfl⟩
  · split
    · exact ⟨rfl, rfl, rfl, rfl⟩
    · exact ⟨hclose.nextStart, hclose.tag, hclose.exited, hclose.underset⟩

theorem exitCell (s : State) (c : DwellCell) : Exited s [c] (s.exitCell c) := by
  by_cases h : c.dwell < s.threshold
  · have hunder := undersetCell { s with dwell.exited := satInc s.dwell.exited, dwell.underset := satInc s.dwell.underset } c.start
    rw [exitCell_under h]
    refine ⟨hunder.nextStart, hunder.tag, hunder.exited, ?_⟩
    rw [List.countP_singleton, if_pos (decide_eq_true h)]
    exact hunder.underset
  · have hmet := closeRange { s with dwell.exited := satInc s.dwell.exited }
    rw [exitCell_met (Nat.le_of_not_lt h)]
    refine ⟨hmet.nextStart, hmet.tag, hmet.exited, ?_⟩
    rw [List.countP_singleton, if_neg (by simpa using h)]
    exact hmet.underset

end Exited

/-! ## A run of cells -/

/-- These cells exit in order, but still stand in the table. -/
def State.exits (s : State) (gone : List DwellCell) : State := gone.foldl State.exitCell s

theorem exits_append (s : State) (xs ys : List DwellCell) : s.exits (xs ++ ys) = (s.exits xs).exits ys := List.foldl_append

/-- What the test of the next cell reads stays as a cell exits (R129). -/
theorem exitCell_reads (s : State) (c : DwellCell) : (s.exitCell c).sets = s.sets ∧ (s.exitCell c).web.o = s.web.o :=
  ⟨congrArg Still.sets (exitCell_still s c), congrArg Steady.o (exitCell_steady s c)⟩

theorem exits_reads (gone : List DwellCell) : ∀ s : State, (s.exits gone).sets = s.sets ∧ (s.exits gone).web.o = s.web.o := by
  induction gone with
  | nil => exact fun s => ⟨rfl, rfl⟩
  | cons c cs ih =>
    intro s
    obtain ⟨hsets, ho⟩ := exitCell_reads s c
    exact ⟨(ih (s.exitCell c)).1.trans hsets, (ih (s.exitCell c)).2.trans ho⟩

theorem exitCell_threshold (s : State) (c : DwellCell) : (s.exitCell c).threshold = s.threshold := by
  rw [State.threshold, (exitCell_reads s c).1]
  rfl

theorem exits_exited (gone : List DwellCell) : ∀ s : State, Exited s gone (s.exits gone) := by
  induction gone with
  | nil => exact fun s => ⟨rfl, rfl, rfl, rfl⟩
  | cons c cs ih =>
    intro s
    exact (Exited.exitCell s c).trans (ih (s.exitCell c)) (exitCell_threshold s c)

/-- The head of the table has reached the outlet point (R129). -/
def State.cellDue (s : State) (c : DwellCell) : Bool := atOrBeyond s.web.o (c.start + toPos (s.sets.box.cell + s.sets.feed.b))

/-- The cells at the head that are due exit, up to the first that is not (R129). -/
theorem exitFrom_append (gone : List DwellCell) {stay : List DwellCell} : ∀ {s : State}, (∀ c ∈ gone, s.cellDue c = true) →
    (∀ c, stay.head? = some c → s.cellDue c = false) → s.exitFrom (gone ++ stay) = { s.exits gone with dwell.cells := stay } := by
  induction gone with
  | nil =>
    intro s _ hstay
    cases stay with
    | nil => rfl
    | cons c cs => exact if_neg (Bool.eq_false_iff.mp (hstay c rfl))
  | cons c cs ih =>
    intro s hgone hstay
    have hdue : (s.exitCell c).cellDue = s.cellDue := by
      funext d
      simp only [State.cellDue, exitCell_reads]
    have hhead : s.exitFrom (c :: cs ++ stay) = (s.exitCell c).exitFrom (cs ++ stay) := if_pos (hgone c List.mem_cons_self)
    rw [hhead]
    exact ih (by rw [hdue]; exact fun d hd => hgone d (List.mem_cons_of_mem c hd)) (by rw [hdue]; exact hstay)

/-- With no range open, cells that met their dwell are counted and nothing else (R129). -/
theorem exits_met_none {met : List DwellCell} : ∀ {s : State}, s.dwell.range = none → (∀ c ∈ met, s.threshold ≤ c.dwell) →
    ∃ x, s.exits met = { s with dwell.exited := x } := by
  induction met with
  | nil => exact fun _ _ => ⟨_, rfl⟩
  | cons c cs ih =>
    intro s hr hmet
    have hexit : s.exitCell c = { s with dwell.exited := satInc s.dwell.exited } := by
      rw [exitCell_met (hmet c List.mem_cons_self)]
      exact closeRange_none hr
    obtain ⟨x, hx⟩ := ih (s := { s with dwell.exited := satInc s.dwell.exited }) hr fun d hd => hmet d (List.mem_cons_of_mem c hd)
    exact ⟨x, (congrArg (fun u => State.exits u cs) hexit).trans hx⟩

/-- From `s` to `t` the open range, of this extent, has closed with one UNDERSET mark (R131). -/
structure RangeClosed (s : State) (start : Pos) (extent : Nat) (t : State) : Prop where
  range : t.dwell.range = none
  announced : t.dwell.announced = satInc s.dwell.announced
  sent : t.web.sent = s.web.sent + 1
  marks : s.link.marks.length < 6 → s.ownId.val + 1 ≠ s.sets.line.n → s.port.state ≠ .silent →
    t.link.marks = s.link.marks ++ [s.undersetFrame start extent]

/-- The first of the cells that met their dwell closes the open range, the others find none (R129, R131). -/
theorem exits_met_some {met : List DwellCell} {s : State} {r : UndersetRange} (hr : s.dwell.range = some r)
    (hmet : ∀ c ∈ met, s.threshold ≤ c.dwell) (hne : met ≠ []) : RangeClosed s r.start r.extent (s.exits met) := by
  cases met with
  | nil => exact absurd rfl hne
  | cons c cs =>
    obtain ⟨hdwell, hsent, hmarks⟩ := closeRange_some (s := { s with dwell.exited := satInc s.dwell.exited }) hr
    rw [← exitCell_met (hmet c List.mem_cons_self)] at hdwell hsent hmarks
    obtain ⟨x, hx⟩ := exits_met_none (met := cs) (s := s.exitCell c) (congrArg Dwell.range hdwell :)
      (by rw [exitCell_threshold]; exact fun d hd => hmet d (List.mem_cons_of_mem c hd))
    rw [show s.exits (c :: cs) = _ from hx]
    exact ⟨(congrArg Dwell.range hdwell :), (congrArg Dwell.announced hdwell :), hsent, hmarks⟩

/-- Underset cells that follow on the open range extend it (R130). -/
theorem exits_under_some {under : List DwellCell} : ∀ {s : State} {r : UndersetRange}, s.dwell.range = some r →
    (∀ c ∈ under, c.dwell < s.threshold) →
    (∀ k c, under[k]? = some c → c.start = r.start + toPos (r.extent + k * s.sets.box.cell)) →
    (under ≠ [] → r.extent + under.length * s.sets.box.cell ≤ 65535) →
    ∃ x y, s.exits under = { s with
      dwell.range := some { start := r.start, extent := r.extent + under.length * s.sets.box.cell }, dwell.exited := x, dwell.underset := y } := by
  induction under with
  | nil =>
    intro s r hr _ _ _
    refine ⟨s.dwell.exited, s.dwell.underset, ?_⟩
    rw [List.length_nil, Nat.zero_mul, Nat.add_zero]
    show s = { s with dwell := { s.dwell with range := some r } }
    rw [← hr]
  | cons c cs ih =>
    intro s r hr hunder hstart hfits
    have hfits := hfits (List.cons_ne_nil c cs)
    rw [List.length_cons, Nat.succ_mul] at hfits ⊢
    have hexit := (exitCell_under (hunder c List.mem_cons_self)).trans
      (undersetCell_extends (by exact hr) (by simpa using hstart 0 c rfl) (by simp only; omega))
    obtain ⟨x, y, hxy⟩ := ih (s := { s with
        dwell.exited := satInc s.dwell.exited, dwell.underset := satInc s.dwell.underset
        dwell.range := some { r with extent := r.extent + s.sets.box.cell } }) rfl (fun d hd => hunder d (List.mem_cons_of_mem c hd))
      (fun k d hd => by
        rw [hstart (k + 1) d hd, Nat.succ_mul]
        exact congrArg (fun n => r.start + toPos n) (by simp only; omega)) (fun _ => by simp only; omega)
    refine ⟨x, y, ((congrArg (fun u => State.exits u cs) hexit).trans hxy).trans ?_⟩
    rw [show r.extent + (cs.length * s.sets.box.cell + s.sets.box.cell) = r.extent + s.sets.box.cell + cs.length * s.sets.box.cell by omega]

/-- Underset cells that follow on each other make one range, from the first on, where none is open (R130). -/
theorem exits_under_none {c : DwellCell} {cs : List DwellCell} {s : State} (hr : s.dwell.range = none)
    (hunder : ∀ d ∈ c :: cs, d.dwell < s.threshold)
    (hstart : ∀ k d, (c :: cs)[k]? = some d → d.start = c.start + toPos (k * s.sets.box.cell))
    (hfits : (c :: cs).length * s.sets.box.cell ≤ 65535) :
    ∃ x y, s.exits (c :: cs) = { s with
      dwell.range := some { start := c.start, extent := (c :: cs).length * s.sets.box.cell }, dwell.exited := x, dwell.underset := y } := by
  rw [List.length_cons, Nat.succ_mul] at hfits ⊢
  have hexit := (exitCell_under (hunder c List.mem_cons_self)).trans (undersetCell_opens (by exact hr) c.start)
  obtain ⟨x, y, hxy⟩ := exits_under_some (under := cs) (s := { s with
      dwell.exited := satInc s.dwell.exited, dwell.underset := satInc s.dwell.underset
      dwell.range := some { start := c.start, extent := s.sets.box.cell } }) rfl (fun d hd => hunder d (List.mem_cons_of_mem c hd))
    (fun k d hd => by rw [hstart (k + 1) d hd, Nat.succ_mul, Nat.add_comm]) (fun _ => by simp only; omega)
  refine ⟨x, y, ((congrArg (fun u => State.exits u cs) hexit).trans hxy).trans ?_⟩
  rw [Nat.add_comm (cs.length * s.sets.box.cell)]

/-- The range that a run of underset cells goes on with: the open one, or one that begins with the first of them (R130). -/
def State.RangeBegins (s : State) (under : List DwellCell) (first : UndersetRange) : Prop :=
  s.dwell.range = some first ∨ s.dwell.range = none ∧ ∃ c, under.head? = some c ∧ first = { start := c.start, extent := 0 }

/-- These cells are underset and follow on each other from a range on, which they do not fill past the largest extent (R130). -/
structure State.UndersetRun (s : State) (cells : List DwellCell) (first : UndersetRange) : Prop where
  begins : s.RangeBegins cells first
  under : ∀ c ∈ cells, c.dwell < s.threshold
  start : ∀ (k : Nat) (c : DwellCell), cells[k]? = some c → c.start = first.start + toPos (first.extent + k * s.sets.box.cell)
  fits : cells ≠ [] → first.extent + cells.length * s.sets.box.cell ≤ 65535

theorem undersetRun_congr {s u : State} {under : List DwellCell} {first : UndersetRange} (hs : u.sets = s.sets) (hd : u.dwell = s.dwell)
    (h : s.UndersetRun under first) : u.UndersetRun under first := by
  obtain ⟨hbegins, hunder, hstart, hfits⟩ := h
  refine ⟨?_, ?_, ?_, ?_⟩
  · rw [State.RangeBegins, hd]; exact hbegins
  · rw [State.threshold, hs]; exact hunder
  · rw [hs]; exact hstart
  · rw [hs]; exact hfits

theorem State.UndersetRun.exits {s : State} {under : List DwellCell} {first : UndersetRange} (h : s.UndersetRun under first) :
    ∃ x y, s.exits under = { s with
      dwell.range := some { start := first.start, extent := first.extent + under.length * s.sets.box.cell }
      dwell.exited := x, dwell.underset := y } := by
  obtain ⟨hbegins, hunder, hstart, hfits⟩ := h
  rcases hbegins with hr | ⟨hr, c, hc, rfl⟩
  · exact exits_under_some hr hunder hstart hfits
  · obtain ⟨cs, rfl⟩ : ∃ cs, under = c :: cs := List.head?_eq_some_iff.mp hc
    simp only [Nat.zero_add] at hstart hfits ⊢
    exact exits_under_none hr hunder hstart (hfits (List.cons_ne_nil c cs))

/-! # The cells that enter (R125) -/

/-- A position up to 4000 past O is reached only where it stands at or before O (00_scope, Position arithmetic). -/
theorem atOrBeyond_add {o next : Pos} {x : Nat} (h : atOrBeyond o next = true) (hx : x ≤ (o - next).toNat + 4000) :
    atOrBeyond o (next + toPos x) = true ↔ x ≤ (o - next).toNat := by
  have hd : (o - next).toNat < 2147483648 := of_decide_eq_true h
  have hpos : (toPos x).toNat = x := Nat.mod_eq_of_lt (by omega)
  have hsub : o - (next + toPos x) = o - next - toPos x := by bv_omega
  rw [atOrBeyond, decide_eq_true_iff, hsub, BitVec.toNat_sub, hpos]
  omega

/-- As many cells enter as have their start at or before O: those up to the first that has not (R125). -/
theorem cellsToEnter_eq {o next : Pos} {cell n : Nat} (h0 : 0 < cell) (h1 : cell ≤ 4000)
    (hreached : ∀ k < n, atOrBeyond o (next + toPos (k * cell)) = true) (hahead : atOrBeyond o (next + toPos (n * cell)) = false) :
    cellsToEnter o next cell = n := by
  have hzero : next + toPos (0 * cell) = next := by rw [Nat.zero_mul]; exact BitVec.add_zero next
  unfold cellsToEnter
  by_cases h : atOrBeyond o next = true
  · rw [if_pos h]
    have hle := Nat.div_mul_le_self (o - next).toNat cell
    have hlt : (o - next).toNat < ((o - next).toNat / cell + 1) * cell := by
      rw [Nat.succ_mul]
      exact Nat.lt_div_mul_add h0
    generalize (o - next).toNat / cell = q at hle hlt ⊢
    have hpast : q < n := by
      by_contra hc
      have hn := (Nat.mul_le_mul_right cell (Nat.le_of_not_lt hc)).trans hle
      exact Bool.noConfusion (hahead.symm.trans ((atOrBeyond_add h (hn.trans (Nat.le_add_right _ _))).mpr hn))
    have hlast : ¬q + 1 < n := fun hc => by
      have hnear : (q + 1) * cell ≤ (o - next).toNat + 4000 := by
        rw [Nat.succ_mul]
        omega
      exact Nat.not_le_of_lt hlt ((atOrBeyond_add h hnear).mp (hreached (q + 1) hc))
    omega
  · rw [if_neg h]
    refine (Nat.eq_zero_of_not_pos fun hn => h ?_).symm
    have hfirst := hreached 0 hn
    rwa [hzero] at hfirst

/-- The Dwell Table at an advance of O: these cells exit, and so many enter behind the rest (R125, R129). -/
theorem dwellAdvance_eq {s : State} {gone stay : List DwellCell} {n : Nat} (hcells : s.dwell.cells = gone ++ stay)
    (hgone : ∀ c ∈ gone, s.cellDue c = true) (hstay : ∀ c, stay.head? = some c → s.cellDue c = false)
    (hcount : cellsToEnter s.web.o s.dwell.nextStart s.sets.box.cell = n) :
    s.dwellAdvance = { s.exits gone with
      dwell.cells := stay ++ freshCells s.dwell.nextStart s.sets.box.cell n s.dwell.tag
      dwell.nextStart := s.dwell.nextStart + toPos (n * s.sets.box.cell) } := by
  have hexit : s.exitFrom s.dwell.cells = { s.exits gone with dwell.cells := stay } := by rw [hcells, exitFrom_append gone hgone hstay]
  obtain ⟨hsets, ho⟩ := exits_reads gone s
  have hexited := exits_exited gone s
  rw [State.dwellAdvance, hexit, State.enterCells]
  simp only [hsets, ho, hexited.nextStart, hexited.tag, hcount]

/-! # The table's part in an advance of O, within its step -/

/-- What the Dwell Table's part in an advance of O reads and moves. -/
structure Passage where
  sets : Sets
  o : Pos
  sent : Byte
  dwell : Dwell
  marks : List MarkPayload
  state : StationState

def State.passage (s : State) : Passage :=
  { sets := s.sets, o := s.web.o, sent := s.web.sent, dwell := s.dwell, marks := s.link.marks, state := s.port.state }

/-- The test of the outlet list and a cut leave it (R90, R150). -/
theorem account_passage (s : State) : s.account.passage = s.passage := by
  have e : ∀ u : State, u.passage = { sets := u.unswept.1.sets, o := u.bareWeb.o, sent := u.bareWeb.sent, dwell := u.unswept.2.1
                                      marks := u.unswept.1.link.marks, state := u.unswept.1.state } := fun _ => rfl
  rw [e, e s, account_unswept, account_bareWeb]

/-- With zones an advance of O passes the table, before or after an effect on the web that moves nothing the table reads (R125). -/
theorem afterAdvance_passage {s : State} {f : State → State} (hz : 0 < s.sets.box.zoneCount)
    (hf : ∀ t : State, t.web.bay = s.web.bay → t.web.span = s.web.span → t.reg = s.reg → (f t).passage = t.passage) :
    ∃ u : State, u.passage = s.passage ∧ (s.afterAdvance f).passage = u.dwellAdvance.passage := by
  rw [State.afterAdvance, if_neg (Nat.ne_of_gt hz), eitherOrder]
  split
  · refine ⟨s.chosen, rfl, ?_⟩
    have hstill : s.chosen.dwellAdvance.account.still = s.chosen.still := by rw [account_still, dwellAdvance_still]
    have hsteady : s.chosen.dwellAdvance.account.steady = s.chosen.steady := by rw [account_steady, dwellAdvance_steady]
    rw [hf _ (congrArg Steady.bay hsteady) (congrArg Still.span hstill) (congrArg Still.reg hstill), account_passage]
  · exact ⟨f s.chosen, hf s.chosen rfl rfl rfl, account_passage _⟩

/-- From `s`, with O at this position, to `t` the table has been passed. -/
def TablePassed (s : State) (o : Pos) (t : State) : Prop :=
  ∃ u : State, u.passage = { s.passage with o := o } ∧ t.dwell = u.dwellAdvance.dwell ∧ t.web.sent = u.dwellAdvance.web.sent
    ∧ t.link.marks = u.dwellAdvance.link.marks

/-- A settling with the knife in a phase that a set latch leaves alone keeps what has been passed (R46, R47). -/
theorem settle_passed {s t u : State} {o : Pos} (hu : u.passage = { s.passage with o := o }) (ht : t.passage = u.dwellAdvance.passage)
    (h1 : t.knife.phase ≠ .tuck) (h2 : t.knife.phase ≠ .feed) : TablePassed s o t.settle := by
  have hcalm := settle_calm_of_obeys (s := t) fun _ => ⟨h1, fun c => absurd c h2⟩
  unfold TablePassed
  refine ⟨u, hu, ?_⟩
  generalize t.settle = v at hcalm ⊢
  generalize u.dwellAdvance = w at ht ⊢
  have hdwell : v.dwell = t.dwell := congrArg Calm.dwell hcalm
  have hweb : v.web = t.web := congrArg Calm.web hcalm
  have hlink : v.link = t.link := congrArg Calm.link hcalm
  rw [hdwell, hweb, hlink]
  exact ⟨congrArg Passage.dwell ht, congrArg Passage.sent ht, congrArg Passage.marks ht⟩

/-- The effects of a pulse on a web where nothing waits for them leave it (R52, R70, R84, R85). -/
theorem State.WebQuiet.passage {s : State} (h : s.WebQuiet) : (bridgeBoundary s).nipEffects.passage = s.passage := by
  have e : ∀ v : State, v.passage = { v.ledger.passage with dwell := v.dwell } := fun _ => rfl
  obtain ⟨hledger, hdwell⟩ := h.effects
  rw [e, e s, hledger, hdwell]

/-- A continuous pulse with no other effect on the web passes the table with O one further (R21, R45, R125). -/
theorem continuousPulse_passes {s : State} (hmode : s.cad.mode = .continuous) (hbegun : s.cad.begun = true) (hpn : s.cad.pn ≠ 0)
    (heffective : 0 < s.rate.effective) (hknife : s.knife.phase = .idle) (hquiet : s.WebQuiet) (hstand : s.sets.line.standKind = .none)
    (hz : 0 < s.sets.box.zoneCount) : Completes .continuousPulse s (TablePassed s (s.web.o + 1)) := by
  refine ⟨_, exec_continuousPulse hmode hbegun hpn heffective, ?_⟩
  have hrewind : s.sets.line.standKind ≠ .rewind := by rw [hstand]; decide
  have hadvance : s.continuousCounted.nipPulse.advanceOutlet 1 = s.flowed := by
    rw [nipPulse_plain (s := s.continuousCounted) hstand, advanceOutlet_plain]
    · rfl
    · exact hrewind
  have hphase : (s.continuousCounted.flowPulse bridgeBoundary).knife.phase = .idle :=
    (congrArg Pace.phase (flowPulse_pace _ bridgeBoundary_pace _)).trans hknife
  obtain ⟨u, hu, hpassed⟩ := afterAdvance_passage (s := s.flowed) (f := fun t => (bridgeBoundary t).nipEffects) hz
    fun t hb hs hr =>
      State.WebQuiet.passage ⟨hb.trans hquiet.bay, hs.trans hquiet.span, (congrArg Registration.expect hr).trans hquiet.expect⟩
  refine settle_passed hu ?_ (by rw [hphase]; decide) (by rw [hphase]; decide)
  rw [State.flowPulse, hadvance]
  exact hpassed

/-- A station at the end of PRESS with O credited, before what follows the advance of O (R44, R45, R77). -/
def State.pressCredited (s : State) : State := { (s.reachTime s.knife.due).enterPhase .release s.sets.knife.tRelease with
  web.seg := s.web.seg.credit, web.o := s.web.o + toPos s.cycleWidth }

/-- The conversions of the marks that await the credit (R87). -/
def creditConversions (w : Nat) (x : State) : State := x.creditFrom (x.web.seg.outletStart + toPos w) [] x.web.bay

theorem creditConversions_empty {s : State} (h : s.web.bay = []) (w : Nat) : (creditConversions w s).passage = s.passage := by
  rw [creditConversions, h]
  rfl

/-- The end of PRESS with nothing in the bay queue passes the table with O credited (R44, R45, R125). -/
theorem pressEnd_passes {s : State} (hknife : s.knife.phase = .press) (hbay : s.web.bay = []) (hstand : s.sets.line.standKind = .none)
    (hz : 0 < s.sets.box.zoneCount) : Completes .pressEnd s (TablePassed s (s.web.o + toPos s.cycleWidth)) := by
  refine ⟨s.pressEnd.settle, if_pos hknife, ?_⟩
  have hrewind : s.sets.line.standKind ≠ .rewind := by rw [hstand]; decide
  have hphase : s.pressEnd.knife.phase = .release := congrArg Pace.phase (creditFold_pace _ s.cycleWidth)
  have hpress : s.pressEnd = s.pressCredited.afterAdvance (creditConversions s.cycleWidth) := by
    rw [State.pressEnd, State.creditFold, advanceOutlet_plain]
    · rfl
    · exact hrewind
  obtain ⟨u, hu, hpassed⟩ := afterAdvance_passage (s := s.pressCredited) (f := creditConversions s.cycleWidth) hz
    fun t hb _ _ => creditConversions_empty (hb.trans hbay) s.cycleWidth
  refine settle_passed hu ?_ (by rw [hphase]; decide) (by rw [hphase]; decide)
  rw [hpress]
  exact hpassed

/-! # What has become of the cells at the head -/

/-- From `s` to `t` these cells of the head have exited, so far as the range and its marks go. -/
def HeadPassed (s : State) (gone : List DwellCell) (t : State) : Prop :=
  ∃ u : State, u.sets = s.sets ∧ u.dwell = s.dwell ∧ u.web.sent = s.web.sent ∧ u.link.marks = s.link.marks ∧ u.port.state = s.port.state
    ∧ t.dwell.range = (u.exits gone).dwell.range ∧ t.dwell.announced = (u.exits gone).dwell.announced
    ∧ t.web.sent = (u.exits gone).web.sent ∧ t.link.marks = (u.exits gone).link.marks

/-- A passage of the table: the cells that are due exit, and so many enter behind the rest (R125, R129). -/
theorem TablePassed.cells {s t : State} {o : Pos} {gone stay : List DwellCell} {n : Nat} (h : TablePassed s o t)
    (hcells : s.dwell.cells = gone ++ stay)
    (hgone : ∀ c ∈ gone, atOrBeyond o (c.start + toPos (s.sets.box.cell + s.sets.feed.b)) = true)
    (hstay : ∀ c, stay.head? = some c → atOrBeyond o (c.start + toPos (s.sets.box.cell + s.sets.feed.b)) = false)
    (hcount : cellsToEnter o s.dwell.nextStart s.sets.box.cell = n) :
    t.dwell.cells = stay ++ freshCells s.dwell.nextStart s.sets.box.cell n s.dwell.tag
      ∧ t.dwell.nextStart = s.dwell.nextStart + toPos (n * s.sets.box.cell)
      ∧ t.dwell.exited = Nat.repeat satInc gone.length s.dwell.exited
      ∧ t.dwell.underset = Nat.repeat satInc (gone.countP fun c => decide (c.dwell < s.threshold)) s.dwell.underset
      ∧ HeadPassed s gone t
      ∧ (gone = [] → t.dwell = { s.dwell with
          cells := stay ++ freshCells s.dwell.nextStart s.sets.box.cell n s.dwell.tag
          nextStart := s.dwell.nextStart + toPos (n * s.sets.box.cell) }) := by
  obtain ⟨u, hu, tdwell, tsent, tmarks⟩ := h
  have usets : u.sets = s.sets := congrArg Passage.sets hu
  have uo : u.web.o = o := congrArg Passage.o hu
  have udwell : u.dwell = s.dwell := congrArg Passage.dwell hu
  have hdue : u.cellDue = fun c => atOrBeyond o (c.start + toPos (s.sets.box.cell + s.sets.feed.b)) := by
    funext c
    rw [State.cellDue, uo, usets]
  have hadvance := dwellAdvance_eq (s := u) (n := n) (by rw [udwell]; exact hcells) (by rw [hdue]; exact hgone) (by rw [hdue]; exact hstay)
    (by rw [uo, udwell, usets]; exact hcount)
  obtain ⟨-, -, hexited, hunderset⟩ := exits_exited gone u
  rw [State.threshold, usets, ← State.threshold, udwell] at hunderset
  rw [udwell] at hexited
  rw [udwell, usets] at hadvance
  rw [hadvance] at tdwell tsent tmarks
  refine ⟨(congrArg Dwell.cells tdwell :), (congrArg Dwell.nextStart tdwell :), (congrArg Dwell.exited tdwell).trans hexited,
    (congrArg Dwell.underset tdwell).trans hunderset, ⟨u, usets, udwell, congrArg Passage.sent hu, congrArg Passage.marks hu,
      congrArg Passage.state hu, (congrArg Dwell.range tdwell :), (congrArg Dwell.announced tdwell :), tsent, tmarks⟩, ?_⟩
  rintro rfl
  exact tdwell.trans (congrArg (fun d : Dwell => { d with
    cells := stay ++ freshCells s.dwell.nextStart s.sets.box.cell n s.dwell.tag
    nextStart := s.dwell.nextStart + toPos (n * s.sets.box.cell) }) udwell)

namespace HeadPassed

variable {s t : State}

/-- Cells that met their dwell with no range open announce nothing (R129). -/
theorem met_none {met : List DwellCell} (h : HeadPassed s met t) (hr : s.dwell.range = none) (hmet : ∀ c ∈ met, s.threshold ≤ c.dwell) :
    t.dwell.range = none ∧ t.web.sent = s.web.sent ∧ t.dwell.announced = s.dwell.announced := by
  obtain ⟨u, usets, udwell, usent, -, -, trange, tannounced, tsent, -⟩ := h
  obtain ⟨x, hx⟩ := exits_met_none (s := u) (by rw [udwell]; exact hr) (by rw [State.threshold, usets]; exact hmet)
  rw [hx] at trange tannounced tsent
  rw [trange, tannounced, tsent, udwell]
  exact ⟨hr, usent, rfl⟩

/-- Underset cells that follow on each other make one range, or go on with the open one (R130). -/
theorem under {cells : List DwellCell} {first : UndersetRange} (h : HeadPassed s cells t) (hrun : s.UndersetRun cells first) :
    t.dwell.range = some { start := first.start, extent := first.extent + cells.length * s.sets.box.cell }
      ∧ t.web.sent = s.web.sent ∧ t.dwell.announced = s.dwell.announced := by
  obtain ⟨u, usets, udwell, usent, -, -, trange, tannounced, tsent, -⟩ := h
  obtain ⟨x, y, hxy⟩ := State.UndersetRun.exits (s := u) (under := cells) (first := first) (undersetRun_congr usets udwell hrun)
  rw [hxy] at trange tannounced tsent
  rw [trange, tannounced, tsent, udwell, usets]
  exact ⟨rfl, usent, rfl⟩

/-- A cell that met its dwell behind them closes it with one UNDERSET mark (R131). -/
theorem closes {cells met : List DwellCell} {first : UndersetRange} (h : HeadPassed s (cells ++ met) t) (hrun : s.UndersetRun cells first)
    (hmet : ∀ c ∈ met, s.threshold ≤ c.dwell) (hne : met ≠ []) :
    RangeClosed s first.start (first.extent + cells.length * s.sets.box.cell) t := by
  obtain ⟨u, usets, udwell, usent, umarks, ustate, trange, tannounced, tsent, tmarks⟩ := h
  obtain ⟨x, y, hxy⟩ := State.UndersetRun.exits (s := u) (under := cells) (first := first) (undersetRun_congr usets udwell hrun)
  rw [exits_append, hxy] at trange tannounced tsent tmarks
  have hclosed := exits_met_some (s := { u with
      dwell.range := some { start := first.start, extent := first.extent + cells.length * u.sets.box.cell }
      dwell.exited := x, dwell.underset := y }) (met := met) rfl (by rw [State.threshold]; simp only [usets]; exact hmet) hne
  obtain ⟨crange, cannounced, csent, cmarks⟩ := hclosed
  refine ⟨trange.trans crange, ?_, ?_, fun hl hn hs => ?_⟩
  · rw [tannounced, cannounced, udwell]
  · rw [tsent, csent, usent]
  · rw [tmarks, cmarks (by rw [umarks]; exact hl) (by rw [State.ownId]; simp only [usets]; exact hn) (by rw [ustate]; exact hs), umarks,
      State.undersetFrame, State.undersetFrame, State.ownId, State.ownId, usets, usent]

/-- An underset cell apart from the open range closes it and opens its own (R130). -/
theorem apart {c : DwellCell} {r : UndersetRange} (h : HeadPassed s [c] t) (hunder : c.dwell < s.threshold) (hr : s.dwell.range = some r)
    (hapart : c.start ≠ r.start + toPos r.extent ∨ 65535 < r.extent + s.sets.box.cell) :
    t.dwell.range = some { start := c.start, extent := s.sets.box.cell } ∧ t.web.sent = s.web.sent + 1
      ∧ t.dwell.announced = satInc s.dwell.announced := by
  obtain ⟨u, usets, udwell, usent, -, -, trange, tannounced, tsent, -⟩ := h
  have hexit : u.exits [c] = _ := exitCell_under (s := u) (by rw [State.threshold, usets]; exact hunder)
  obtain ⟨crange, csent, cannounced⟩ := undersetCell_apart (s := { u with
      dwell.exited := satInc u.dwell.exited, dwell.underset := satInc u.dwell.underset }) (p := c.start) (r := r)
    (by rw [udwell]; exact hr) (by simp only [usets]; exact hapart)
  rw [← hexit] at crange csent cannounced
  rw [usets] at crange
  rw [usent] at csent
  rw [udwell] at cannounced
  exact ⟨trange.trans crange, tsent.trans csent, tannounced.trans cannounced⟩

end HeadPassed

/-- One underset cell that makes the range or goes on with it. -/
theorem undersetRun_single {s : State} {c : DwellCell} {first : UndersetRange} (hbegins : s.RangeBegins [c] first)
    (hunder : c.dwell < s.threshold) (hstart : c.start = first.start + toPos first.extent)
    (hfits : first.extent + s.sets.box.cell ≤ 65535) : s.UndersetRun [c] first where
  begins := hbegins
  under := fun d hd => List.mem_singleton.mp hd ▸ hunder
  start := fun k d hd => by
    obtain ⟨rfl, rfl⟩ : k = 0 ∧ c = d := by simpa [List.getElem?_singleton] using hd
    simpa using hstart
  fits := fun _ => by simpa using hfits

/-- No underset cell before the ones that met their dwell. -/
theorem undersetRun_nil {s : State} {r : UndersetRange} (hr : s.dwell.range = some r) : s.UndersetRun [] r :=
  ⟨.inl hr, nofun, nofun, fun h => absurd rfl h⟩

namespace HeadPassed

variable {s t : State} {c : DwellCell}

/-- One cell that met its dwell closes the range that is open (R129, R131). -/
theorem met_single (h : HeadPassed s [c] t) (hmet : s.threshold ≤ c.dwell) :
    t.dwell.range = none
      ∧ (s.dwell.range = none → t.web.sent = s.web.sent ∧ t.dwell.announced = s.dwell.announced)
      ∧ (∀ r, s.dwell.range = some r → RangeClosed s r.start r.extent t) := by
  have hall : ∀ d ∈ [c], s.threshold ≤ d.dwell := fun d hd => List.mem_singleton.mp hd ▸ hmet
  have hclosed : ∀ r, s.dwell.range = some r → RangeClosed s r.start r.extent t := fun r hr => by
    simpa using closes (cells := []) h (undersetRun_nil hr) hall (List.cons_ne_nil c [])
  refine ⟨?_, fun hr => (h.met_none hr hall).2, hclosed⟩
  cases hr : s.dwell.range with
  | none => exact (h.met_none hr hall).1
  | some r => exact (hclosed r hr).range

/-- One underset cell opens a range, extends the open one, or closes it and opens its own (R130). -/
theorem under_single (h : HeadPassed s [c] t) (hunder : c.dwell < s.threshold) (hcell : s.sets.box.cell ≤ 4000) :
    (s.dwell.range = none → t.dwell.range = some { start := c.start, extent := s.sets.box.cell } ∧ t.web.sent = s.web.sent)
      ∧ (∀ r, s.dwell.range = some r → c.start = r.start + toPos r.extent → r.extent + s.sets.box.cell ≤ 65535 →
          t.dwell.range = some { r with extent := r.extent + s.sets.box.cell } ∧ t.web.sent = s.web.sent)
      ∧ (∀ r, s.dwell.range = some r → c.start ≠ r.start + toPos r.extent ∨ 65535 < r.extent + s.sets.box.cell →
          t.dwell.range = some { start := c.start, extent := s.sets.box.cell }
            ∧ t.web.sent = s.web.sent + 1 ∧ t.dwell.announced = satInc s.dwell.announced) := by
  refine ⟨fun hr => ?_, fun r hr hstart hfits => ?_, fun r hr hapart => h.apart hunder hr hapart⟩
  · have hrun := undersetRun_single (s := s) (c := c) (first := { start := c.start, extent := 0 }) (.inr ⟨hr, c, rfl, rfl⟩) hunder
      (BitVec.add_zero c.start).symm (by simp only; omega)
    obtain ⟨hrange, hsent, -⟩ := h.under hrun
    exact ⟨by simpa using hrange, hsent⟩
  · obtain ⟨hrange, hsent, -⟩ := h.under (undersetRun_single (.inl hr) hunder hstart hfits)
    exact ⟨by simpa using hrange, hsent⟩

end HeadPassed

/-! ## The two advances -/

/-- The head of a list fails a test where the test of its head, if it has one, answers false. -/
theorem head_fails {α : Type} {f : α → Bool} {l : List α} (h : (l.head?.map f).getD false = false) (x : α) (hx : l.head? = some x) :
    f x = false := by simpa [hx] using h

theorem cellsToEnter_ahead {o next : Pos} (h : atOrBeyond o next = false) (cell : Nat) : cellsToEnter o next cell = 0 :=
  if_neg (Bool.eq_false_iff.mp h)

theorem cellsToEnter_self (o : Pos) (cell : Nat) : cellsToEnter o o cell = 1 := by simp [cellsToEnter, atOrBeyond_self]

theorem freshCells_one (start : Pos) (cell : Nat) (tag : Option (BitVec 16)) :
    freshCells start cell 1 tag = [{ start := start, dwell := 0, panel := tag }] := by simp [freshCells, toPos]

/-- Settles O36: at a pulse one cell at the most exits and one enters; at a credit the cells that are due exit as one run of underset cells
and one of cells that met their dwell, and those enter whose start the credit reaches. -/
theorem cellsPass : Obligations.CellsPass := by
  unfold Obligations.CellsPass
  refine ⟨fun s hmode hbegun hpn heffective hknife hbay hspan hexpect hstand _ hz h0 h1 => ?_,
    fun gone stay n s hknife hbay _ hstand hz h0 h1 hcells => ?_⟩
  · have pulse := continuousPulse_passes hmode hbegun hpn heffective hknife ⟨hbay, hspan, hexpect⟩ hstand hz
    refine ⟨fun c cs hcells hdue hnext _ => pulse.imp fun t ht => ?_, fun hstays hentry => pulse.imp fun t ht => ?_⟩
    · obtain ⟨tcells, tnext, texited, tunderset, thead, -⟩ := ht.cells (gone := [c]) hcells
        (fun d hd => List.mem_singleton.mp hd ▸ hdue) (head_fails hnext) rfl
      rw [List.countP_singleton] at tunderset
      refine ⟨texited, fun hahead => ?_, fun hentry => ?_, fun hmet => ?_, fun hunder => ?_⟩
      · rw [cellsToEnter_ahead hahead] at tcells tnext
        exact ⟨tcells.trans (List.append_nil cs), tnext.trans (by simp [toPos])⟩
      · rw [hentry, cellsToEnter_self, freshCells_one] at tcells
        rw [hentry, cellsToEnter_self, Nat.one_mul, ← hentry] at tnext
        exact ⟨tcells, tnext⟩
      · have hmet : s.threshold ≤ c.dwell := hmet
        rw [if_neg (by simpa using hmet)] at tunderset
        obtain ⟨trange, tnone, tsome⟩ := thead.met_single hmet
        refine ⟨trange, tunderset, tnone, fun r hr => ?_⟩
        obtain ⟨-, tannounced, tsent, tmarks⟩ := tsome r hr
        exact ⟨tsent, tannounced, tmarks⟩
      · have hunder : c.dwell < s.threshold := hunder
        rw [if_pos (decide_eq_true hunder)] at tunderset
        exact ⟨tunderset, thead.under_single hunder h1⟩
    · have hone : cellsToEnter (s.web.o + 1) s.dwell.nextStart s.sets.box.cell = 1 := by rw [hentry, cellsToEnter_self]
      obtain ⟨-, -, -, -, -, tdwell⟩ := ht.cells (gone := []) rfl nofun (head_fails hstays) hone
      refine (tdwell rfl).trans ?_
      rw [freshCells_one, Nat.one_mul, hentry]
  · intro o cell threshold due hgone hstay hreached hahead
    refine (pressEnd_passes hknife hbay hstand hz).imp fun t ht => ?_
    obtain ⟨tcells, tnext, texited, tunderset, thead, -⟩ := ht.cells hcells hgone (fun c hc => Bool.eq_false_iff.mpr (hstay c hc))
      (cellsToEnter_eq h0 h1 hreached hahead)
    refine ⟨tcells, tnext, texited, tunderset, thead.met_none, ?_⟩
    rintro under met first rfl hunder hmet hfirst hstart hfits whole
    have hbegins : s.RangeBegins under first := by
      cases hr : s.dwell.range with
      | none =>
        rw [hr] at hfirst
        exact .inr ⟨hr, hfirst⟩
      | some r =>
        rw [hr] at hfirst
        exact .inl (hr.trans (congrArg some hfirst.symm))
    have hrun : s.UndersetRun under first := ⟨hbegins, hunder, hstart, fun _ => hfits⟩
    refine ⟨?_, fun hne => ?_⟩
    · rintro rfl
      rw [List.append_nil] at thead
      exact thead.under hrun
    · obtain ⟨trange, tannounced, tsent, tmarks⟩ := thead.closes hrun hmet hne
      exact ⟨trange, tsent, tannounced, tmarks⟩

end Sys2Proof.Machine
end

section
namespace Sys2Proof.Machine

/-! # What a settling leaves of a stand with no panel to judge -/

/-- Where the knife has obeyed, a settling leaves the stand of a station that is no rewind. -/
theorem settle_stand_of_obeys {s : State} (hk : s.KnifeObeys) (hv : s.stand.verdicts = []) (hkind : s.sets.line.standKind ≠ .rewind) :
    s.settle.stand = s.stand := by
  rw [settle_of_obeys hk, consequences_stand hv hkind]

/-- The bit of the ROLL source (10.6). -/
theorem rollFlag (ip : BitVec 7) : (ip ||| Source.roll.flag).getLsbD 4 = true := by simp [Source.flag, Source.bit]

/-- A condition of the cut at rest fails, and the joining test cannot make it hold (R150). -/
def State.RestDenied (s : State) : Prop :=
  s.stand.overfill = false ∨ s.rate.latch = true ∨ s.web.restDue.isSome = true ∨ 0 < s.rate.effective
    ∨ s.port.state ≠ .joining ∧ s.port.state ≠ .active

theorem State.RestDenied.restCut {s : State} (h : s.RestDenied) : s.restCut = none := by
  refine if_neg fun c => ?_
  obtain ⟨-, hhold, hactive, hclear, hquiet, hstill⟩ := c
  rcases h with h | h | h | h | h
  · exact Bool.noConfusion (h.symm.trans hhold)
  · exact Bool.noConfusion (hclear.symm.trans h)
  · rw [State.quiet, Option.isNone_iff_eq_none] at hquiet
    rw [hquiet] at h
    exact Bool.noConfusion h
  · omega
  · exact h.2 hactive

/-- The verdicts of a step and the joining test leave what denies the cut at rest. -/
theorem State.RestDenied.joined {s : State} (h : s.RestDenied) : s.judgeDue.joinTest.RestDenied := by
  have hhold : s.judgeDue.joinTest.stand.overfill = s.stand.overfill := by
    rw [joinTest_stand]
    exact (judgeDue_judged s).1.hold.1
  have hcalm : s.judgeDue.joinTest.calm = s.calm := (joinTest_calm _).trans (calm_of_kept (judgeDue_kept s))
  have hstate : s.port.state ≠ .joining → s.judgeDue.joinTest.port.state = s.port.state := fun hj => by
    have hs := state_of_kept (judgeDue_kept s)
    rw [State.joinTest, if_neg fun c => hj (hs.symm.trans c.1), hs]
  generalize s.judgeDue.joinTest = t at hhold hcalm hstate ⊢
  have hlatch : t.rate.latch = s.rate.latch := congrArg Calm.latch hcalm
  have hrest : t.web.restDue = s.web.restDue := congrArg (fun c : Calm => c.web.restDue) hcalm
  have heffective : t.rate.effective = s.rate.effective := congrArg Calm.effective hcalm
  unfold State.RestDenied
  rw [hhold, hlatch, hrest, heffective]
  refine h.imp_right (.imp_right (.imp_right (.imp_right fun hs => ?_)))
  rw [hstate hs.1]
  exact hs

/-- Arming for a pending transfer reads the sets, the stand, the time, and whether the station runs (R148). -/
theorem transferArm_stand_congr {s t : State} (hsets : t.sets = s.sets) (hstand : t.stand = s.stand) (hnow : t.now = s.now)
    (hrunning : t.running = s.running) : t.transferArm.stand = s.transferArm.stand := by
  have hpending : t.transferPending = s.transferPending := by simp only [State.transferPending, hsets, hstand]
  unfold State.transferArm
  rw [hpending, hrunning, hstand]
  split
  · cases s.stand.inState .winding with
    | none => exact hstand
    | some w =>
      dsimp only
      split
      · simp only [State.armSpindle, State.setSpindle, hsets, hstand, hnow]
      · exact hstand
  · exact hstand

theorem transferArm_joinTest (s : State) : s.joinTest.transferArm.stand = s.transferArm.stand :=
  transferArm_stand_congr (sets_of_still (joinTest_still s)) (joinTest_stand s) (now_of_still (joinTest_still s)) (joinTest_running s)

/-- Where nothing is cut over at rest, the consequences of a step give the verdicts due and arm for a pending transfer (R148, R153). -/
theorem consequences_uncut {s : State} (h : s.judgeDue.joinTest.restCut = none) : s.consequences.stand = s.judgeDue.transferArm.stand := by
  rw [State.consequences, zoneSettle_stand, State.cutAtRest, h]
  exact transferArm_joinTest _

/-- Where the cut at rest is denied and nothing waits for a verdict, a settling arms for a pending transfer alone. -/
theorem State.RestDenied.settle {s : State} (h : s.RestDenied) (hk : s.KnifeObeys) (hv : s.stand.verdicts = []) :
    s.settle.stand = s.transferArm.stand := by
  rw [settle_of_obeys hk, consequences_uncut h.joined.restCut, judgeDue_of_none hv]

/-! ## Arming for a pending transfer (R148) -/

theorem transferArm_idle {s : State} (h : s.transferPending = false ∨ ∀ id, (s.stand.spindle id).usable = false) : s.transferArm = s := by
  unfold State.transferArm
  split
  · rename_i hp
    rcases h with h | h
    · exact Bool.noConfusion (h.symm.trans hp.1)
    · split
      · rfl
      · exact if_neg (by rw [h]; exact Bool.noConfusion)
  · rfl

/-- Only a usable spindle is armed. -/
theorem transferArm_spindle {s : State} {id : SpindleId} (h : (s.stand.spindle id).usable = false) :
    s.transferArm.stand.spindle id = s.stand.spindle id := by
  unfold State.transferArm
  split
  · split
    · rfl
    · rename_i w _
      split
      · rename_i hu
        have hne : id ≠ otherSpindle w := fun c => Bool.noConfusion (h.symm.trans (c ▸ hu))
        exact (setSpindle_spindle s.stand _ _ _).trans (if_neg hne)
      · rfl
  · rfl

theorem transferArm_arms {s : State} {w : SpindleId} (hp : s.transferPending = true) (hr : s.running = true)
    (hw : s.stand.inState .winding = some w) (hu : (s.stand.spindle (otherSpindle w)).usable = true) :
    s.transferArm = s.armSpindle (otherSpindle w) := by
  rw [State.transferArm, if_pos ⟨hp, hr⟩, hw]
  exact if_pos hu

theorem usable_eq_false {x : Spindle} (h : x.state ≠ .loaded) : x.usable = false := by
  rw [Spindle.usable, beq_eq_false_iff_ne.mpr h, Bool.false_and]

/-- Behind a spindle that neither winds nor is usable none is armed: the winding one is the other, and this is the one it would arm. -/
theorem transferArm_behind {s : State} {id : SpindleId} (hw : (s.stand.spindle id).state ≠ .winding)
    (hu : (s.stand.spindle id).usable = false) : s.transferArm = s := by
  unfold State.transferArm
  split
  · cases hwinding : s.stand.inState .winding with
    | none => rfl
    | some w =>
      have hother : otherSpindle w = id := by
        have hne : w ≠ id := fun c => hw (c ▸ inState_eq_some hwinding)
        revert hne
        cases w <;> cases id <;> decide
      dsimp only
      rw [hother, hu]
      rfl
  · rfl

theorem usable_iff (x : Spindle) : x.usable = true ↔ x.state = .loaded ∧ x.armFailed = false := by simp [Spindle.usable]

/-! # The roll change (R144) -/

theorem exec_pasteTimerExpiry_idle {s : State} (h : s.stand.pasteDue = none) : exec .pasteTimerExpiry s = .next s := by
  show execPasteTimerExpiry s = _
  rw [execPasteTimerExpiry, h]

theorem exec_pasteTimerExpiry {s : State} {due : Nat} (h : s.stand.pasteDue = some due) :
    exec .pasteTimerExpiry s = .next ((s.reachTime due).rollChange).settle := by
  show execPasteTimerExpiry s = _
  rw [execPasteTimerExpiry, h]

/-- The stand a roll change leaves: the new roll runs from its beginning, and the old one is SPENT (R144). -/
def Stand.changedTo (t : Stand) (id : SpindleId) (now : Nat) (change : Option RollChange) : Stand :=
  { (t.setSpindle (otherSpindle id) { t.spindle (otherSpindle id) with state := .spent }).setSpindle id
      { t.spindle id with state := .running, consumed := 0 } with
    pasteDue := none, splices := satInc t.splices, cutDue := some (now + 100000), change := change }

/-- A roll change is the change of the stand, with SPLICE DONE (R144, R155). -/
theorem rollChange_eq {s : State} {id : SpindleId} (hs : s.stand.inState .synced = some id)
    (hr : (s.stand.spindle (otherSpindle id)).state = .running) : ∃ change : RollChange, change.cause = .spliceDone
      ∧ s.rollChange = { s with
          stand := s.stand.changedTo id s.now (some change), port.ip := s.port.ip ||| Source.roll.flag } := by
  rw [State.rollChange, hs]
  dsimp only
  rw [if_pos hr]
  refine ⟨{ cause := .spliceDone, spindle := changeSpindle false id
            roll := ((s.stand.changedTo id s.now s.stand.change).spindle (changeSpindle false id)).roll }, rfl, ?_⟩
  cases id <;> rfl

theorem changedTo_fields (t : Stand) (id : SpindleId) (now : Nat) (change : Option RollChange) :
    (t.changedTo id now change).spindle id = { t.spindle id with state := .running, consumed := 0 }
      ∧ (t.changedTo id now change).spindle (otherSpindle id) = { t.spindle (otherSpindle id) with state := .spent }
      ∧ (t.changedTo id now change).verdicts = t.verdicts ∧ (t.changedTo id now change).joint = t.joint := by
  cases id <;> exact ⟨rfl, rfl, rfl, rfl⟩

theorem changedTo_still (s : State) (id : SpindleId) (change : Option RollChange) (ip : BitVec 7) :
    State.still { s with stand := s.stand.changedTo id s.now change, port.ip := ip } = s.still := by cases id <;> rfl

/-- The expiry of the paste timer at a running unwind (R144). -/
theorem pasteTimerExpiry_changes {s : State} {due : Nat} {id : SpindleId} (hdue : s.stand.pasteDue = some due)
    (hs : s.stand.inState .synced = some id) (hk : s.KnifeObeys) (hv : s.stand.verdicts = []) (hkind : s.sets.line.standKind = .unwind)
    (hr : (s.stand.spindle (otherSpindle id)).state = .running) :
    Completes .pasteTimerExpiry s fun t => ∃ change : RollChange, change.cause = .spliceDone
      ∧ t.stand = s.stand.changedTo id (max s.now due) (some change) ∧ t.port.ip.getLsbD 4 = true ∧ t.calm = s.calm
      ∧ t.still = (s.reachTime due).still := by
  obtain ⟨change, hcause, heq⟩ := rollChange_eq (s := s.reachTime due) hs hr
  refine ⟨_, exec_pasteTimerExpiry hdue, change, hcause, ?_⟩
  have hstill := changedTo_still (s.reachTime due) id (some change) (s.port.ip ||| Source.roll.flag)
  have hobeys : (s.reachTime due).rollChange.KnifeObeys := by rw [heq]; exact hk
  have hverdicts : (s.reachTime due).rollChange.stand.verdicts = [] := by
    rw [heq]
    exact (changedTo_fields s.stand id _ _).2.2.1.trans hv
  have hkind' : (s.reachTime due).rollChange.sets.line.standKind ≠ .rewind := by
    rw [heq]
    exact fun c => StandKind.noConfusion (hkind.symm.trans c)
  refine ⟨(settle_stand_of_obeys hobeys hverdicts hkind').trans (by rw [heq]; rfl), (Rises.settle _).2.2 4 ?_,
    (settle_calm_of_obeys hobeys).trans (by rw [heq]; rfl), (settle_still _).trans (by rw [heq]; exact hstill)⟩
  rw [heq]
  exact rollFlag _

theorem exec_cutPulseEnd_idle {s : State} (h : s.stand.cutDue = none) : exec .cutPulseEnd s = .next s := by
  show execCutPulseEnd s = _
  rw [execCutPulseEnd, h]

theorem exec_cutPulseEnd {s : State} {due : Nat} (h : s.stand.cutDue = some due) :
    exec .cutPulseEnd s = .next { s with now := max s.now due, stand.cutDue := none } := by
  show execCutPulseEnd s = _
  rw [execCutPulseEnd, h]
  rfl

/-- Settles O51: the roll change of the stand by its fields, which the settling at an unwind leaves. -/
theorem rollChanges : Obligations.RollChanges := by
  intro s
  refine ⟨exec_pasteTimerExpiry_idle, fun due id hdue hs hk hv hkind hr => ?_, exec_cutPulseEnd_idle, fun due => exec_cutPulseEnd⟩
  refine (pasteTimerExpiry_changes hdue hs hk hv hkind hr).imp fun t ht => ?_
  obtain ⟨change, hcause, hstand, hflag, hcalm, hstill⟩ := ht
  obtain ⟨hnew, hold, -, hjoint⟩ := changedTo_fields s.stand id (max s.now due) (some change)
  have hnow : t.now = max s.now due := now_of_still hstill
  rw [hnow, hstand]
  exact ⟨rfl, hnew, hold, rfl, rfl, rfl, congrArg some hcause, hflag, hjoint, hcalm, hstill⟩

end Sys2Proof.Machine
end

section
namespace Sys2Proof.Machine

/-! # The at-speed inputs (R142) -/

theorem exec_atSpeedChange_same {id : SpindleId} {level : Bool} {s : State} (h : level = s.stand.speed id) :
    exec (.atSpeedChange id level) s = .next s := if_pos h

/-- The station as an at-speed input takes a level, before the settling. -/
def State.sped (s : State) (id : SpindleId) (level : Bool) : State :=
  if level then State.speedRise { s with stand := s.stand.setSpeed id level } id
  else State.speedFall { s with stand := s.stand.setSpeed id level } id

theorem exec_atSpeedChange {id : SpindleId} {level : Bool} {s : State} (h : level ≠ s.stand.speed id) :
    exec (.atSpeedChange id level) s = .next (s.sped id level).settle := if_neg h

/-- A record replaced moves the record alone. -/
theorem setSpindle_rest (t : Stand) (id : SpindleId) (x : Spindle) :
    (t.setSpindle id x).speed = t.speed ∧ (t.setSpindle id x).armDue = t.armDue ∧ (t.setSpindle id x).pasteDue = t.pasteDue := by
  cases id <;> exact ⟨by funext y; cases y <;> rfl, rfl, rfl⟩

theorem setSpeed_rest (t : Stand) (id : SpindleId) (level : Bool) :
    (t.setSpeed id level).spindle = t.spindle ∧ (t.setSpeed id level).overfill = t.overfill ∧ (t.setSpeed id level).pasteDue = t.pasteDue
      ∧ (t.setSpeed id level).standDue = t.standDue := by
  cases id <;> exact ⟨by funext y; cases y <;> rfl, rfl, rfl, rfl⟩

theorem setSpeed_speed (t : Stand) (id : SpindleId) (level : Bool) :
    (t.setSpeed id level).speed id = level ∧ (t.setSpeed id level).speed (otherSpindle id) = t.speed (otherSpindle id) := by
  cases id <;> exact ⟨rfl, rfl⟩

/-- The one spindle whose input changes, and the arming timer, are all that a change of level moves beside the level. -/
theorem sped_eq (s : State) (id : SpindleId) (level : Bool) : ∃ x due, s.sped id level =
    { s with stand := { (s.stand.setSpeed id level).setSpindle id x with armDue := due } } := by
  have same : (s.stand.setSpeed id level).setSpindle id ((s.stand.setSpeed id level).spindle id) = s.stand.setSpeed id level := by
    cases id <;> rfl
  have still : ∃ x due, ({ s with stand := s.stand.setSpeed id level } : State)
      = { s with stand := { (s.stand.setSpeed id level).setSpindle id x with armDue := due } } :=
    ⟨(s.stand.setSpeed id level).spindle id, (s.stand.setSpeed id level).armDue, by rw [same]⟩
  unfold State.sped State.speedRise State.speedFall
  split
  · split
    · exact ⟨_, _, rfl⟩
    · exact still
  · split
    · exact ⟨_, _, rfl⟩
    · exact still

/-- Without an overfill hold a change of level settles to the arming of a pending transfer. -/
theorem atSpeedChange_settled {id : SpindleId} {level : Bool} {s : State} (hl : s.stand.speed id = !level) (hk : s.KnifeObeys)
    (hv : s.stand.verdicts = []) (hhold : s.stand.overfill = false) :
    Completes (.atSpeedChange id level) s fun t =>
      t.stand = (s.sped id level).transferArm.stand ∧ t.stand.speed id = level
        ∧ t.stand.speed (otherSpindle id) = s.stand.speed (otherSpindle id) ∧ t.calm = s.calm
        ∧ t.still = { s.still with speedA := t.stand.speedA, speedB := t.stand.speedB } := by
  refine ⟨_, exec_atSpeedChange (by rw [hl]; cases level <;> decide), ?_⟩
  obtain ⟨x, due, heq⟩ := sped_eq s id level
  have hobeys : (s.sped id level).KnifeObeys := by rw [heq]; exact hk
  have hverdicts : (s.sped id level).stand.verdicts = [] := by
    rw [heq]
    cases id <;> exact hv
  have hdenied : (s.sped id level).RestDenied := by
    rw [heq]
    cases id <;> exact .inl hhold
  have hstand := hdenied.settle hobeys hverdicts
  have hcalm := settle_calm_of_obeys hobeys
  have hstill := settle_still (s.sped id level)
  generalize (s.sped id level).settle = t at hstand hcalm hstill ⊢
  have hspeeds : t.stand.speed = (s.stand.setSpeed id level).speed := by
    have ha : t.stand.speedA = (s.sped id level).stand.speedA := congrArg Still.speedA hstill
    have hb : t.stand.speedB = (s.sped id level).stand.speedB := congrArg Still.speedB hstill
    rw [heq] at ha hb
    funext y
    cases y <;> cases id <;> assumption
  refine ⟨hstand, ?_, ?_, ?_, ?_⟩
  · rw [hspeeds, (setSpeed_speed s.stand id level).1]
  · rw [hspeeds, (setSpeed_speed s.stand id level).2]
  · rw [hcalm, heq]
    rfl
  · have ha : t.stand.speedA = (s.sped id level).stand.speedA := congrArg Still.speedA hstill
    have hb : t.stand.speedB = (s.sped id level).stand.speedB := congrArg Still.speedB hstill
    rw [hstill, ha, hb, heq]
    cases id <;> rfl

/-- A rise takes an ARMING spindle to SYNCED and stops the timer, and leaves any other (R142). -/
theorem sped_rise (s : State) (id : SpindleId) : (s.sped id true).stand =
    if (s.stand.spindle id).state = .arming then
      { (s.stand.setSpeed id true).setSpindle id { s.stand.spindle id with state := .synced } with armDue := none }
    else s.stand.setSpeed id true := by
  unfold State.sped State.speedRise
  rw [if_pos rfl]
  simp only [(setSpeed_rest s.stand id true).1]
  split <;> rfl

/-- A fall takes a SYNCED spindle back to ARMING with the timer afresh but between a paste and its cut (R142, R144). -/
theorem sped_fall (s : State) (id : SpindleId) : (s.sped id false).stand =
    if (s.stand.spindle id).state = .synced ∧ s.stand.pasteDue = none then
      { (s.stand.setSpeed id false).setSpindle id { s.stand.spindle id with state := .arming } with
        armDue := some (s.now + 1000000 * s.sets.stand.tArm) }
    else s.stand.setSpeed id false := by
  obtain ⟨hspindle, -, hpaste, -⟩ := setSpeed_rest s.stand id false
  unfold State.sped State.speedFall
  rw [if_neg Bool.noConfusion]
  simp only [hspindle, hpaste]
  split
  · rw [State.armSpindle]
    simp only [hspindle]
    rfl
  · rfl

theorem otherSpindle_cases (id y : SpindleId) : y = id ∨ y = otherSpindle id := by cases id <;> cases y <;> decide

/-- A rise of a spindle that is ARMING, once it has settled. -/
theorem sped_rise_arming {s : State} {id : SpindleId} (h : (s.stand.spindle id).state = .arming) :
    (s.sped id true).transferArm.stand.spindle id = { s.stand.spindle id with state := .synced }
      ∧ ((s.stand.spindle (otherSpindle id)).state ≠ .loaded → (s.sped id true).transferArm.stand.armDue = none) := by
  have hstand := sped_rise s id
  rw [if_pos h] at hstand
  generalize s.sped id true = u at hstand ⊢
  have hid : u.stand.spindle id = { s.stand.spindle id with state := .synced } := by
    rw [hstand]
    cases id <;> rfl
  have hother : u.stand.spindle (otherSpindle id) = s.stand.spindle (otherSpindle id) := by
    rw [hstand]
    cases id <;> rfl
  have hunusable : (u.stand.spindle id).usable = false := usable_eq_false (by rw [hid]; exact SpindleState.noConfusion)
  refine ⟨(transferArm_spindle hunusable).trans hid, fun hloaded => ?_⟩
  rw [transferArm_idle (.inr fun y => ?_), hstand]
  rcases otherSpindle_cases id y with rfl | rfl
  · exact hunusable
  · exact usable_eq_false (by rw [hother]; exact hloaded)

/-- A fall of a spindle that is SYNCED, once it has settled: behind it no spindle is armed, for none winds but the other. -/
theorem sped_fall_synced {s : State} {id : SpindleId} (h : (s.stand.spindle id).state = .synced) (hp : s.stand.pasteDue = none) :
    (s.sped id false).transferArm.stand.spindle id = { s.stand.spindle id with state := .arming }
      ∧ (s.sped id false).transferArm.stand.armDue = some (s.now + 1000000 * s.sets.stand.tArm) := by
  have hstand := sped_fall s id
  rw [if_pos ⟨h, hp⟩] at hstand
  have hid : (s.sped id false).stand.spindle id = { s.stand.spindle id with state := .arming } := by
    rw [hstand]
    cases id <;> rfl
  rw [transferArm_behind (id := id) (by rw [hid]; exact SpindleState.noConfusion)
    (usable_eq_false (by rw [hid]; exact SpindleState.noConfusion))]
  exact ⟨hid, by rw [hstand]⟩

/-! # The arming timer (R142) -/

theorem exec_armingTimerExpiry_idle {s : State} (h : s.stand.armDue = none ∨ s.stand.inState .arming = none) :
    exec .armingTimerExpiry s = .next s := by
  show execArmingTimerExpiry s = _
  unfold execArmingTimerExpiry
  split
  · rename_i hdue hid
    rcases h with h | h
    · exact nomatch h.symm.trans hdue
    · exact nomatch h.symm.trans hid
  · rfl

theorem exec_armingTimerExpiry {s : State} {due : Nat} {id : SpindleId} (hdue : s.stand.armDue = some due)
    (hid : s.stand.inState .arming = some id) : exec .armingTimerExpiry s = .next ((s.reachTime due).armFail id).settle := by
  show execArmingTimerExpiry s = _
  rw [execArmingTimerExpiry, hdue, hid]

/-- The stand at an arming timer's expiry: the spindle is LOADED and arm-failed, and the record says so (R142, R155). -/
def Stand.armFailed (t : Stand) (id : SpindleId) : Stand :=
  { t.setSpindle id { t.spindle id with state := .loaded, armFailed := true } with
    armDue := none, change := some { cause := .armFailed, spindle := id, roll := (t.spindle id).roll } }

theorem armFail_eq (s : State) (id : SpindleId) : s.armFail id =
    { s with stand := s.stand.armFailed id, port.ip := s.port.ip ||| Source.roll.flag } := by cases id <;> rfl

/-- The expiry settles to the stand with its arm-failed spindle, which no pending transfer arms again (R148). -/
theorem armingTimerExpiry_fails {s : State} {due : Nat} {id : SpindleId} (hdue : s.stand.armDue = some due)
    (hid : s.stand.inState .arming = some id) (hk : s.KnifeObeys) (hv : s.stand.verdicts = []) (hhold : s.stand.overfill = false) :
    Completes .armingTimerExpiry s fun t =>
      t.stand = s.stand.armFailed id ∧ t.port.ip.getLsbD 4 = true ∧ t.calm = s.calm ∧ t.still = { s.still with now := max s.now due } := by
  refine ⟨_, exec_armingTimerExpiry hdue hid, ?_⟩
  rw [armFail_eq]
  generalize hu : ({ s.reachTime due with
    stand := (s.reachTime due).stand.armFailed id, port.ip := (s.reachTime due).port.ip ||| Source.roll.flag } : State) = u
  have hstand : u.stand = s.stand.armFailed id := by rw [← hu]; rfl
  have hspindle : u.stand.spindle id = { s.stand.spindle id with state := .loaded, armFailed := true } := by
    rw [hstand]
    cases id <;> rfl
  have hobeys : u.KnifeObeys := by rw [← hu]; exact hk
  have hdenied : u.RestDenied := by
    refine .inl ?_
    rw [hstand]
    cases id <;> exact hhold
  have hverdicts : u.stand.verdicts = [] := by
    rw [hstand]
    cases id <;> exact hv
  have hbehind : u.transferArm = u := transferArm_behind (id := id) (by rw [hspindle]; exact SpindleState.noConfusion) (by rw [hspindle]; rfl)
  refine ⟨?_, (Rises.settle u).2.2 4 ?_, (settle_calm_of_obeys hobeys).trans ?_, (settle_still u).trans ?_⟩
  · rw [hdenied.settle hobeys hverdicts, hbehind, hstand]
  · rw [← hu]
    exact rollFlag _
  · rw [← hu]
    rfl
  · rw [← hu]
    cases id <;> rfl

/-- Settles O49: the one spindle whose input or timer has changed, by its state; behind it the settling arms no spindle but a LOADED one. -/
theorem armingEnds : Obligations.ArmingEnds := by
  intro id s hk hv hhold
  dsimp only
  refine ⟨fun level => exec_atSpeedChange_same, fun hl => ?_, fun hl => ?_, exec_armingTimerExpiry_idle, fun due hdue hid => ?_⟩
  · refine (atSpeedChange_settled (level := true) hl hk hv hhold).imp fun t ht => ?_
    obtain ⟨hstand, hspeed, hother, hcalm, hstill⟩ := ht
    rw [hstand] at hspeed hother hstill ⊢
    refine ⟨hspeed, hother, hcalm, hstill, fun harming => (sped_rise_arming harming).1, fun harming => (sped_rise_arming harming).2,
      fun hsynced => ?_⟩
    have hleft : (s.sped id true).stand.spindle id = s.stand.spindle id := by
      rw [sped_rise, if_neg (by rw [hsynced]; exact SpindleState.noConfusion), (setSpeed_rest s.stand id true).1]
    exact (transferArm_spindle (usable_eq_false (by rw [hleft, hsynced]; exact SpindleState.noConfusion))).trans hleft
  · refine (atSpeedChange_settled (level := false) hl hk hv hhold).imp fun t ht => ?_
    obtain ⟨hstand, hspeed, hother, hcalm, hstill⟩ := ht
    rw [hstand] at hspeed hother hstill ⊢
    have left : ¬((s.stand.spindle id).state = .synced ∧ s.stand.pasteDue = none) → (s.stand.spindle id).state ≠ .loaded →
        (s.sped id false).transferArm.stand.spindle id = s.stand.spindle id := fun hstays hloaded => by
      have hleft : (s.sped id false).stand.spindle id = s.stand.spindle id := by
        rw [sped_fall, if_neg hstays, (setSpeed_rest s.stand id false).1]
      exact (transferArm_spindle (usable_eq_false (by rw [hleft]; exact hloaded))).trans hleft
    refine ⟨hspeed, hother, hcalm, hstill, fun hsynced hpaste => sped_fall_synced hsynced hpaste, fun hsynced hpaste => ?_,
      fun harming => ?_⟩
    · refine left (fun c => ?_) (by rw [hsynced]; exact SpindleState.noConfusion)
      rw [c.2] at hpaste
      exact Bool.noConfusion hpaste
    · exact left (fun c => SpindleState.noConfusion (harming.symm.trans c.1)) (by rw [harming]; exact SpindleState.noConfusion)
  · refine (armingTimerExpiry_fails hdue hid hk hv hhold).imp fun t ht => ?_
    obtain ⟨hstand, hflag, hcalm, hstill⟩ := ht
    have hnow : t.now = max s.now due := congrArg Still.now hstill
    rw [hnow, hstand]
    refine ⟨rfl, ?_, rfl, hflag, hcalm, hstill, fun _ => rfl⟩
    cases id <;> rfl

end Sys2Proof.Machine
end

section
namespace Sys2Proof.Machine

/-! # A stand timer expiry (R138) -/

/-- A station as its stand timer expires, before the tests. -/
def State.stood (s : State) : State := { s.reachTime s.stand.standDue with stand.standDue := s.stand.standDue + 10000 }

theorem exec_standTimerExpiry_config {s : State} (h : s.port.state = .config) : exec .standTimerExpiry s = .next s.stood :=
  if_neg (by simp [State.running, h])

theorem exec_standTimerExpiry {s : State} (h : s.port.state ≠ .config) : exec .standTimerExpiry s = .next s.stood.standTest.settle :=
  if_pos (by simp [State.running, h])

/-- From `s` to `t` the tests of a stand timer expiry have moved nothing but the stand and the pending bits, and nothing of the stand's
panels, inputs and clock. -/
def StandTests (s t : State) : Prop :=
  ∃ stand ip, t = { s with stand := stand, port.ip := ip } ∧ stand.verdicts = s.stand.verdicts ∧ stand.standDue = s.stand.standDue
    ∧ stand.speedA = s.stand.speedA ∧ stand.speedB = s.stand.speedB

namespace StandTests

theorem refl (s : State) : StandTests s s := ⟨s.stand, s.port.ip, rfl, rfl, rfl, rfl, rfl⟩

theorem trans {s t u : State} (h : StandTests s t) (g : StandTests t u) : StandTests s u := by
  obtain ⟨_, _, rfl, hverdicts, hdue, ha, hb⟩ := h
  obtain ⟨y, jp, rfl, gverdicts, gdue, ga, gb⟩ := g
  exact ⟨y, jp, rfl, gverdicts.trans hverdicts, gdue.trans hdue, ga.trans ha, gb.trans hb⟩

theorem distances (s : State) : StandTests s s.standDistances := by
  unfold State.standDistances
  split
  · exact refl s
  · exact ⟨_, s.port.ip, rfl, rfl, rfl, rfl, rfl⟩
  · exact ⟨_, s.port.ip, rfl, rfl, rfl, rfl, rfl⟩

theorem unwind (s : State) : StandTests s s.unwindTests := by
  unfold State.unwindTests
  split
  · exact refl s
  · dsimp only
    split
    · exact ⟨_, s.port.ip, rfl, setSpindle_verdicts _ _ _, setSpindle_standDue _ _ _, setSpindle_speedA _ _ _, setSpindle_speedB _ _ _⟩
    · split
      · exact ⟨_, _, rfl, rfl, rfl, rfl, rfl⟩
      · exact refl s

theorem rewind (s : State) : StandTests s s.rewindTest := by
  unfold State.rewindTest
  split
  · exact refl s
  · split
    · exact ⟨_, _, rfl, rfl, rfl, rfl, rfl⟩
    · exact refl s

theorem standTest (s : State) : StandTests s s.standTest := by
  unfold State.standTest
  dsimp only
  split
  · exact distances s
  · exact (distances s).trans (unwind _)
  · exact (distances s).trans (rewind _)

theorem still {s t : State} (h : StandTests s t) : t.still = s.still := by
  obtain ⟨stand, ip, rfl, -, hdue, ha, hb⟩ := h
  exact stand_still s stand ⟨hdue, ha, hb⟩

theorem calm {s t : State} (h : StandTests s t) : t.calm = s.calm := by
  obtain ⟨_, _, rfl, -⟩ := h
  rfl

end StandTests

/-! ## The unwind's tests (R140, R141, R145) -/

/-- The stand with its splice spindle armed until an instant, and no run-out hold (R141). -/
def Stand.armedFor (t : Stand) (id : SpindleId) (due : Nat) : Stand :=
  { t.setSpindle id { t.spindle id with state := .arming } with armDue := some due, runOut := false }

/-- The splice sequence begins with a usable spindle (R141). -/
theorem unwindTests_arms {s : State} {id : SpindleId} (hid : s.stand.inState .running = some id)
    (hu : (s.stand.spindle (otherSpindle id)).usable = true)
    (h : (s.stand.spindle id).remaining ≤ s.stand.dTrig ∨ s.stand.runOut = true) :
    s.unwindTests.stand = s.stand.armedFor (otherSpindle id) (s.now + 1000000 * s.sets.stand.tArm) := by
  rw [State.unwindTests, hid]
  exact congrArg State.stand (if_pos ⟨h, hu⟩)

/-- Without a usable spindle and without a sequence the run-out hold is set (R145). -/
theorem unwindTests_holds {s : State} {id : SpindleId} (hid : s.stand.inState .running = some id)
    (hu : (s.stand.spindle (otherSpindle id)).usable = false) (h : (s.stand.spindle id).remaining ≤ s.stand.dTrig + s.stand.dStop)
    (harming : s.stand.arming = false) (hpaste : s.stand.pasteDue = none) (hrun : s.stand.runOut = false) :
    s.unwindTests = { s with stand.runOut := true }.rollEvent .rollLow id := by
  rw [State.unwindTests, hid]
  dsimp only
  rw [hu, if_neg fun c => Bool.noConfusion c.2]
  exact if_pos ⟨h, harming, hpaste, rfl, hrun⟩

/-- With enough of the roll remaining, and no run-out hold, nothing is armed and nothing held. -/
theorem unwindTests_idle {s : State} {id : SpindleId} (hid : s.stand.inState .running = some id)
    (h : s.stand.dTrig + s.stand.dStop < (s.stand.spindle id).remaining) (hrun : s.stand.runOut = false) : s.unwindTests = s := by
  rw [State.unwindTests, hid]
  dsimp only
  rw [hrun, if_neg fun c => ?_, if_neg fun c => ?_]
  · have := c.1
    omega
  · rcases c.1 with c | c
    · omega
    · exact Bool.noConfusion c

/-- Beside a RUNNING spindle no sequence is on its way where the other is neither ARMING nor SYNCED (R138). -/
theorem arming_beside {t : Stand} {id : SpindleId} (hid : t.inState .running = some id)
    (harming : (t.spindle (otherSpindle id)).state ≠ .arming) (hsynced : (t.spindle (otherSpindle id)).state ≠ .synced) :
    t.arming = false := by
  have absent : ∀ st : SpindleState, st ≠ .running → (t.spindle (otherSpindle id)).state ≠ st → t.inState st = none := fun st hr ho => by
    have hrunning := inState_eq_some hid
    have hid' : (t.spindle id).state ≠ st := fun c => hr (c.symm.trans hrunning)
    cases id
    · exact (if_neg hid').trans (if_neg ho)
    · exact (if_neg ho).trans (if_neg hid')
  rw [Stand.arming, absent .arming SpindleState.noConfusion harming, absent .synced SpindleState.noConfusion hsynced]
  rfl

/-! ## The rewind's test (R149) -/

theorem transferPending_iff {s : State} {id : SpindleId} (hkind : s.sets.line.standKind = .rewind) (hid : s.stand.inState .winding = some id) :
    s.transferPending = true ↔ s.sets.stand.target ≤ (s.stand.spindle id).closed := by
  simp [State.transferPending, hkind, hid]

/-- The overfill hold is set ahead of the maximum wound length of a roll at its target (R149). -/
theorem rewindTest_holds {s : State} {id : SpindleId} (hid : s.stand.inState .winding = some id) (hpending : s.transferPending = true)
    (hsynced : s.stand.inState .synced = none) (hhold : s.stand.overfill = false)
    (hmax : s.sets.stand.maxWound ≤ (s.stand.spindle id).wound + s.stand.dStop) :
    s.rewindTest = { s with stand.overfill := true }.rollEvent .rollLow id := by
  rw [State.rewindTest, hid]
  exact if_pos ⟨hpending, hsynced, hhold, hmax⟩

/-- With no transfer pending there is nothing to hold. -/
theorem rewindTest_idle {s : State} (h : s.transferPending = false) : s.rewindTest = s := by
  unfold State.rewindTest
  split
  · rfl
  · exact if_neg fun c => Bool.noConfusion (h.symm.trans c.1)

theorem rewindTest_dStop (s : State) : s.rewindTest.stand.dStop = s.stand.dStop := by
  unfold State.rewindTest
  split
  · rfl
  · split <;> rfl

/-! ## The expiry -/

/-- What the tests of an expiry leave to the settling, outside CONFIG. -/
theorem standTest_settled {s : State} (hk : s.KnifeObeys) (hv : s.stand.verdicts = []) :
    let t := s.stood.standTest.settle
    t.calm = s.calm ∧ t.still = s.stood.still
      ∧ (s.sets.line.standKind ≠ .rewind → t.stand = s.stood.standTest.stand)
      ∧ (0 < s.rate.effective → t.stand = s.stood.standTest.transferArm.stand)
      ∧ (s.stood.standTest.port.ip.getLsbD 4 = true → t.port.ip.getLsbD 4 = true) := by
  have htests := StandTests.standTest s.stood
  have hcalm := htests.calm
  have hstill := htests.still
  obtain ⟨stand, ip, heq, hverdicts, -⟩ := htests
  have hobeys : s.stood.standTest.KnifeObeys := by rw [heq]; exact hk
  have hjudged : s.stood.standTest.stand.verdicts = [] := by rw [heq]; exact hverdicts.trans hv
  refine ⟨(settle_calm_of_obeys hobeys).trans hcalm, (settle_still _).trans hstill, fun hkind => ?_, fun he => ?_, (Rises.settle _).2.2 4⟩
  · exact settle_stand_of_obeys hobeys hjudged (by rw [heq]; exact hkind)
  · exact State.RestDenied.settle (.inr (.inr (.inr (.inl (by rw [heq]; exact he))))) hobeys hjudged

/-- A station with its distances measured (R140). -/
def State.measured (s : State) (stop trig : Nat) : State := { s with stand.dStop := stop, stand.dTrig := trig }

/-- The unwind's tests are made on both distances (R140). -/
theorem standTest_unwind {s : State} (h : s.sets.line.standKind = .unwind) : s.standTest =
    (s.measured (stopDistance s.rate.effective s.inletLength s.sets.line.down)
      (triggerDistance s.rate.effective s.inletLength s.sets.line.down s.sets.stand)).unwindTests := by
  rw [State.standTest, h, State.standDistances, h]
  rfl

/-- The rewind's test is made on the stopping distance (R140). -/
theorem standTest_rewind {s : State} (h : s.sets.line.standKind = .rewind) : s.standTest =
    (s.measured (stopDistance s.rate.effective s.outletLength s.sets.line.down) s.stand.dTrig).rewindTest := by
  rw [State.standTest, h, State.standDistances, h]
  rfl

theorem standTest_none {s : State} (h : s.sets.line.standKind = .none) : s.standTest = s := by
  rw [State.standTest, h, State.standDistances, h]

/-- Settles O48: the tests by the stand's kind, on the distances that the expiry has measured. -/
theorem standTested : Obligations.StandTested := by
  intro s hk hv
  by_cases hconfig : s.port.state = .config
  · exact ⟨_, exec_standTimerExpiry_config hconfig, rfl, rfl, rfl, rfl, fun _ => rfl, fun c => absurd hconfig c,
      fun c => absurd hconfig c⟩
  refine ⟨_, exec_standTimerExpiry hconfig, ?_⟩
  obtain ⟨hcalm, hstill, hunwound, hmoving, hflag⟩ := standTest_settled hk hv
  generalize s.stood.standTest.settle = t at hcalm hstill hunwound hmoving hflag ⊢
  have hnow : t.now = max s.now s.stand.standDue := now_of_still hstill
  have hdue : t.stand.standDue = s.stand.standDue + 10000 := congrArg Still.standDue hstill
  rw [hnow, hdue]
  refine ⟨rfl, rfl, hcalm, hstill, fun hnone => ?_, fun _ hkind => ?_, fun _ hkind heffective => ?_⟩
  · have hkind := hnone.resolve_left hconfig
    rw [hunwound (by rw [hkind]; exact StandKind.noConfusion), standTest_none (s := s.stood) hkind]
    rfl
  · have hstand := hunwound (by rw [hkind]; exact StandKind.noConfusion)
    rw [standTest_unwind (s := s.stood) hkind] at hstand hflag
    intro e l stop trig
    change t.stand = (s.stood.measured stop trig).unwindTests.stand at hstand
    change (s.stood.measured stop trig).unwindTests.port.ip.getLsbD 4 = true → _ at hflag
    clear_value stop trig
    rw [hstand]
    intro base id hid x other usable left
    refine ⟨fun husable h => ?_, fun husable hleft harming hsynced hpaste hrun => ?_, fun hleft hrun => ?_⟩
    · have harms := unwindTests_arms (s := s.stood.measured stop trig) hid ((usable_iff other).mpr husable) h
      rw [harms]
      rfl
    · have hunusable : other.usable = false := Bool.eq_false_iff.mpr fun c => husable ((usable_iff other).mp c)
      have hholds := unwindTests_holds (s := s.stood.measured stop trig) hid hunusable hleft
        (arming_beside (t := s.stand) hid harming hsynced) hpaste hrun
      refine ⟨congrArg State.stand hholds, hflag ?_⟩
      exact (congrArg (fun u : State => u.port.ip.getLsbD 4) hholds).trans (rollFlag _)
    · exact congrArg State.stand (unwindTests_idle (s := s.stood.measured stop trig) hid hleft hrun)
  · have hstand := hmoving heffective
    rw [standTest_rewind (s := s.stood) hkind] at hstand hflag
    intro stop
    change t.stand = (s.stood.measured stop s.stand.dTrig).rewindTest.transferArm.stand at hstand
    change (s.stood.measured stop s.stand.dTrig).rewindTest.port.ip.getLsbD 4 = true → _ at hflag
    clear_value stop
    have hunarmed := (congrArg Stand.unarmed hstand).trans (transferArm_unarmed _)
    refine ⟨(congrArg Stand.dStop hunarmed :).trans (rewindTest_dStop _), fun id hid => ?_⟩
    have hpending := transferPending_iff (s := s.stood.measured stop s.stand.dTrig) hkind hid
    refine ⟨fun htarget hsynced hhold hmax => ?_, fun htarget => ?_⟩
    · have hholds := rewindTest_holds (s := s.stood.measured stop s.stand.dTrig) hid (hpending.mpr htarget) hsynced hhold hmax
      rw [hholds] at hunarmed
      refine ⟨(congrArg Stand.overfill hunarmed :), hflag ?_, (congrArg Stand.change hunarmed :)⟩
      exact (congrArg (fun u : State => u.port.ip.getLsbD 4) hholds).trans (rollFlag _)
    · have hidle : (s.stood.measured stop s.stand.dTrig).transferPending = false :=
        Bool.eq_false_iff.mpr fun c => Nat.not_le_of_lt htarget (hpending.mp c)
      rw [hstand, rewindTest_idle hidle, transferArm_idle (.inl hidle)]
      rfl

end Sys2Proof.Machine
end

section
namespace Sys2Proof.Machine

/-! # What closing a panel leaves of the stand -/

/-- A stand but for its rolls, its panels and its log: what closing panels and giving verdicts never touch. -/
def Stand.uncounted (t : Stand) : Stand := { t with a := {}, b := {}, panel := none, verdicts := [], log := [], overflow := false }

theorem setSpindle_uncounted (t : Stand) (id : SpindleId) (x : Spindle) : (t.setSpindle id x).uncounted = t.uncounted := by
  cases id <;> rfl

theorem logPanel_uncounted (s : State) (e : LogEntry) : (s.logPanel e).stand.uncounted = s.stand.uncounted := by
  unfold State.logPanel
  split <;> rfl

theorem countVerdict_uncounted (t : Stand) (c : ClosedPanel) (rejected : Bool) : (t.countVerdict c rejected).uncounted = t.uncounted := by
  unfold Stand.countVerdict
  split
  · rfl
  · dsimp only
    split
    · exact setSpindle_uncounted _ _ _
    · rfl

theorem judge_uncounted (s : State) (c : ClosedPanel) : (s.judge c).stand.uncounted = s.stand.uncounted := by
  unfold State.judge
  exact (logPanel_uncounted _ _).trans (countVerdict_uncounted _ _ _)

theorem judgeEach_uncounted (cs rest : List ClosedPanel) : ∀ s : State, (s.judgeEach cs rest).stand.uncounted = s.stand.uncounted := by
  induction cs with
  | nil => exact fun s => rfl
  | cons c cs ih => exact fun s => (ih (s.judge c)).trans (judge_uncounted s c)

theorem judgeDue_uncounted (s : State) : s.judgeDue.stand.uncounted = s.stand.uncounted := judgeEach_uncounted _ _ _

theorem makeVerdictRoom_uncounted (s : State) : s.makeVerdictRoom.stand.uncounted = s.stand.uncounted := by
  unfold State.makeVerdictRoom
  split
  · rfl
  · split
    · exact judge_uncounted s _
    · rfl

theorem countClosed_uncounted (t : Stand) (id : Option SpindleId) : (t.countClosed id).uncounted = t.uncounted := by
  unfold Stand.countClosed
  split
  · rfl
  · exact setSpindle_uncounted _ _ _

theorem closePanel_uncounted (s : State) (stop : Pos) (flag : Reasons → Reasons) :
    (s.closePanel stop flag).stand.uncounted = s.stand.uncounted := by
  unfold State.closePanel
  split
  · rfl
  · have hroom := (makeVerdictRoom_uncounted
      { s with stand := { s.stand.countClosed (s.stand.inState .winding) with panel := none } }).trans
        (countClosed_uncounted s.stand (s.stand.inState .winding))
    dsimp only
    split
    · exact (judgeDue_uncounted _).trans hroom
    · exact hroom

theorem closeIfFull_uncounted (s : State) (limit : Pos) : (s.closeIfFull limit).stand.uncounted = s.stand.uncounted := by
  unfold State.closeIfFull
  split
  · rfl
  · exact closePanel_uncounted s _ _

/-! # The open panel that a cut ends -/

/-- From `t` to `u` the open panel, if there is one, has ended at a position with its flags changed, counted on the winding roll and judged
at once; nothing else has moved (R151, R153). -/
structure PanelEnds (t : Stand) (w : SpindleId) (stop : Pos) (flag : Reasons → Reasons) (u : Stand) : Prop where
  panel : u.panel = none
  verdicts : u.verdicts = []
  old : { u.spindle w with good := 0, reject := 0 } =
    { t.spindle w with closed := (t.spindle w).closed + (if t.panel.isSome then 1 else 0), good := 0, reject := 0 }
  new : u.spindle (otherSpindle w) = t.spindle (otherSpindle w)
  log : u.log = t.log ++ (t.panel.toList.map fun p =>
    { number := p.number, roll := (t.spindle w).roll, reject := (flag p.reasons).any, reasons := flag p.reasons
      length := (stop - p.start).toNat })
  rest : u.uncounted = t.uncounted

/-- A panel that closes on one roll is not counted on the other. -/
theorem closing_other {s : State} {w : SpindleId} {c : ClosedPanel} (hspindle : c.spindle = some w) :
    (s.closing w c).judgeDue.stand.spindle (otherSpindle w) = s.stand.spindle (otherSpindle w) := by
  have hnone : ∀ l : List ClosedPanel, l ⊆ [c] → ∀ x, (l.filter fun d => d.countedOn (otherSpindle w) x) = [] := fun l hl x => by
    refine List.filter_eq_nil_iff.mpr fun d hd => ?_
    rw [List.mem_singleton.mp (hl hd), ClosedPanel.countedOn, hspindle, decide_eq_true_eq]
    exact fun h => otherSpindle_ne w (Option.some.inj h.1).symm
  have hkept : (s.closing w c).stand.spindle (otherSpindle w) = s.stand.spindle (otherSpindle w) := by cases w <;> rfl
  have hdue : (s.closing w c).stand.verdicts.filter (s.closing w c).verdictDue ⊆ [c] := List.filter_subset_self _
  rw [(judgeDue_judged (s.closing w c)).1.spindle, hnone _ hdue, hkept]
  rfl

theorem closePanel_ends {s : State} {w : SpindleId} (hw : s.stand.inState .winding = some w) (hv : s.stand.verdicts = [])
    (hwait : s.verdictWait = 0) (hr : s.dwell.range = none) (hl : s.stand.log.length < 32) (flag : Reasons → Reasons) :
    PanelEnds s.stand w s.web.o flag (s.closePanel s.web.o flag).stand := by
  have hrest := closePanel_uncounted s s.web.o flag
  cases hp : s.stand.panel with
  | none =>
    have hclose : s.closePanel s.web.o flag = s := by rw [State.closePanel, hp]
    rw [hclose]
    refine ⟨hp, hv, ?_, rfl, ?_, rfl⟩
    · rw [hp]
      rfl
    · rw [hp]
      exact (List.append_nil _).symm
  | some p =>
    have hclosed := closePanel_atOnce hw hp hv hwait hr hl flag
    have hother := closing_other (s := s) (w := w) (c := p.closedOn w (s.stand.spindle w) s.web.o flag) rfl
    rw [← closePanel_closing hw hp hv hwait] at hother
    refine ⟨hclosed.panel, hclosed.verdicts, ?_, hother, ?_, hrest⟩
    · rw [hclosed.spindle, hp]
      rfl
    · rw [hclosed.log, hp]
      rfl

/-! # The cut over, by the fields of the stand -/

/-- The stand that a cut over from a winding spindle to the other leaves (R148, R150). -/
def Stand.cutOver (t : Stand) (w : SpindleId) (now : Nat) (change : Option RollChange) : Stand :=
  { (t.setSpindle w { t.spindle w with state := .full }).setSpindle (otherSpindle w)
      { t.spindle (otherSpindle w) with state := .winding, wound := 0, closed := 0, good := 0, reject := 0 } with
    armDue := none, overfill := false, transfers := satInc t.transfers, cutDue := some (now + 100000), change := change }

/-- The cut over is the cut of the stand, with TRANSFER DONE (R155). -/
theorem transferTo_eq {s : State} {w : SpindleId} (hw : (s.stand.spindle w).state = .winding) :
    ∃ change : RollChange, change.cause = .transferDone ∧ s.transferTo (otherSpindle w) =
      { s with stand := s.stand.cutOver w s.now (some change), port.ip := s.port.ip ||| Source.roll.flag } := by
  rw [State.transferTo]
  dsimp only
  rw [otherSpindle_twice, if_pos hw]
  refine ⟨{ cause := .transferDone, spindle := changeSpindle true (otherSpindle w)
            roll := ((s.stand.cutOver w s.now s.stand.change).spindle (changeSpindle true (otherSpindle w))).roll }, rfl, ?_⟩
  cases w <;> rfl

/-- From `t` to `u` the open panel has ended and the winding spindle has been cut over from; a panel may have opened since. -/
structure CutEnds (t : Stand) (w : SpindleId) (stop : Pos) (flag : Reasons → Reasons) (now : Nat) (u : Stand) : Prop where
  full : (u.spindle w).state = .full
  wound : (u.spindle w).wound = (t.spindle w).wound
  closed : (u.spindle w).closed = (t.spindle w).closed + (if t.panel.isSome then 1 else 0)
  winding : u.spindle (otherSpindle w) =
    { t.spindle (otherSpindle w) with state := .winding, wound := 0, closed := 0, good := 0, reject := 0 }
  verdicts : u.verdicts = []
  log : u.log = t.log ++ (t.panel.toList.map fun p =>
    { number := p.number, roll := (t.spindle w).roll, reject := (flag p.reasons).any, reasons := flag p.reasons
      length := (stop - p.start).toNat })
  transfers : u.transfers = satInc t.transfers
  hold : u.overfill = false
  armDue : u.armDue = none
  cutDue : u.cutDue = some (now + 100000)
  change : u.change.map RollChange.cause = some .transferDone

theorem PanelEnds.cut {t u : Stand} {w : SpindleId} {stop : Pos} {flag : Reasons → Reasons} (h : PanelEnds t w stop flag u) (now : Nat)
    {change : RollChange} (hcause : change.cause = .transferDone) :
    CutEnds t w stop flag now (u.cutOver w now (some change)) ∧ (u.cutOver w now (some change)).panel = none := by
  obtain ⟨hpanel, hverdicts, hold, hnew, hlog, hrest⟩ := h
  have htransfers : u.transfers = t.transfers := (congrArg Stand.transfers hrest :)
  have hfull : (u.cutOver w now (some change)).spindle w = { u.spindle w with state := .full } := by cases w <;> rfl
  have hwinding : (u.cutOver w now (some change)).spindle (otherSpindle w) =
      { u.spindle (otherSpindle w) with state := .winding, wound := 0, closed := 0, good := 0, reject := 0 } := by cases w <;> rfl
  have hlists : (u.cutOver w now (some change)).panel = u.panel ∧ (u.cutOver w now (some change)).verdicts = u.verdicts
      ∧ (u.cutOver w now (some change)).log = u.log := by cases w <;> exact ⟨rfl, rfl, rfl⟩
  obtain ⟨gpanel, gverdicts, glog⟩ := hlists
  refine ⟨⟨?_, ?_, ?_, ?_, gverdicts.trans hverdicts, glog.trans hlog, congrArg satInc htransfers, rfl, rfl, rfl, congrArg some hcause⟩,
    gpanel.trans hpanel⟩
  · rw [hfull]
  · rw [hfull]
    exact (congrArg Spindle.wound hold :)
  · rw [hfull]
    exact (congrArg Spindle.closed hold :)
  · rw [hwinding, hnew]

/-- Once a cut has been made a settling leaves its stand: nothing waits for a verdict, no hold stands, and behind a FULL spindle none is
armed (R148). -/
theorem CutEnds.settled {t : Stand} {w : SpindleId} {stop : Pos} {flag : Reasons → Reasons} {now : Nat} {u : State}
    (h : CutEnds t w stop flag now u.stand) (hk : u.KnifeObeys) : u.settle.stand = u.stand := by
  have hbehind : u.transferArm = u := transferArm_behind (id := w) (by rw [h.full]; exact SpindleState.noConfusion)
    (usable_eq_false (by rw [h.full]; exact SpindleState.noConfusion))
  rw [State.RestDenied.settle (.inl h.hold) hk h.verdicts, hbehind]

/-- A cut that splits the open panel: the panel ends at O, SPLIT, and the spindle is cut over from (R150, R151). -/
theorem splitCut_ends {s : State} {w : SpindleId} (hw : s.stand.inState .winding = some w) (hv : s.stand.verdicts = [])
    (hwait : s.verdictWait = 0) (hr : s.dwell.range = none) (hl : s.stand.log.length < 32)
    (hopen : ∀ p, s.stand.panel = some p → atOrBeyond s.web.o p.lengthEnd = false) :
    CutEnds s.stand w s.web.o (fun r => { r with split := true }) s.now (s.splitCut (otherSpindle w)).stand
      ∧ (s.splitCut (otherSpindle w)).stand.panel = none ∧ (s.splitCut (otherSpindle w)).port.ip.getLsbD 4 = true := by
  have hends := closePanel_ends hw hv hwait hr hl fun r => { r with split := true }
  have hnow : (s.closePanel s.web.o fun r => { r with split := true }).now = s.now := now_of_still (closePanel_still s _ _)
  rw [State.splitCut, closeIfFull_none (fullBy_ahead hopen _)]
  generalize (s.closePanel s.web.o fun r => { r with split := true }) = u at hends hnow ⊢
  have hwinding : (u.stand.spindle w).state = .winding := (congrArg Spindle.state hends.old :).trans (inState_eq_some hw)
  obtain ⟨change, hcause, heq⟩ := transferTo_eq hwinding
  rw [heq, hnow]
  obtain ⟨hcut, hpanel⟩ := hends.cut s.now hcause
  exact ⟨hcut, hpanel, rollFlag _⟩

/-- The settling of a rewind whose overfill hold a rest ends: the cut over at rest, with the open panel split (R150, R151). -/
theorem State.RestCut.settles {s : State} {w : SpindleId} (h : s.RestCut w) (hv : s.stand.verdicts = [])
    (hwait : s.verdictWait = 0) (hr : s.dwell.range = none) (hl : s.stand.log.length < 32)
    (hopen : ∀ p, s.stand.panel = some p → atOrBeyond s.web.o p.lengthEnd = false) :
    CutEnds s.stand w s.web.o (fun r => { r with split := true }) s.now s.settle.stand ∧ s.settle.stand.panel = none
      ∧ s.settle.port.ip.getLsbD 4 = true := by
  obtain ⟨hcut, hpanel, hflag⟩ := splitCut_ends h.winding hv hwait hr hl hopen
  have hjoin : s.joinTest = s := if_neg fun c => StationState.noConfusion (c.1.symm.trans h.active)
  have hbehind : (s.splitCut (otherSpindle w)).transferArm = s.splitCut (otherSpindle w) :=
    transferArm_behind (id := w) (by rw [hcut.full]; exact SpindleState.noConfusion)
      (usable_eq_false (by rw [hcut.full]; exact SpindleState.noConfusion))
  have hstate : (s.splitCut (otherSpindle w)).port.state = .active := (state_of_kept (splitCut_kept s _)).trans h.active
  have hjoined : (s.splitCut (otherSpindle w)).joinTest = s.splitCut (otherSpindle w) :=
    if_neg fun c => StationState.noConfusion (c.1.symm.trans hstate)
  have hconsequences : s.settle = (s.splitCut (otherSpindle w)).consequences := by
    rw [settle_of_clear h.clear, State.consequences, State.consequences, judgeDue_of_none hv, hjoin, judgeDue_of_none hcut.verdicts, hjoined,
      cutAtRest_unheld hcut.hold, State.cutAtRest, h.cut]
  rw [hconsequences, consequences_uncut (State.RestDenied.joined (.inl hcut.hold)).restCut, judgeDue_of_none hcut.verdicts, hbehind]
  exact ⟨hcut, hpanel, (Rises.consequences _).2.2 4 hflag⟩

end Sys2Proof.Machine
end

section
namespace Sys2Proof.Machine

/-! # LOAD ROLL and UNLOAD (R136, R137) -/

theorem namedSpindle_eq {args : List Byte} {id : SpindleId} (hid : spindleArg args = some id) : namedSpindle args = id := by
  rw [namedSpindle, hid]
  rfl

/-- A station that has shifted its response out and put a spindle record in place, before the settling. -/
def State.reloaded (s : State) (args : List Byte) (id : SpindleId) (x : Spindle) : State :=
  (s.shiftOut (8 * (1 + args.length))).setSpindle id x

theorem exec_loadRoll_accepted {args : List Byte} {id : SpindleId} {s : State} (hb : s.pat.status ≠ .checking) (hn : args.length = 6)
    (hid : spindleArg args = some id) (hline : s.sets.lineW = true) (hempty : (s.stand.spindle id).state = .empty)
    (hkind : s.sets.line.standKind = .rewind ∨ s.sets.line.standKind = .unwind ∧ numAt args 2 4 ≠ 0) :
    exec (.loadRoll args) s = .next ((s.reloaded args id (s.loadedSpindle args)).settle.respond [accepted]) := by
  have hstand : s.sets.line.standKind ≠ .none := by rcases hkind with h | ⟨h, _⟩ <;> rw [h] <;> exact StandKind.noConfusion
  have hrefusal : s.loadRollRefusal args = none := by
    rw [State.loadRollRefusal, standTests_pass hid hline hstand, namedSpindle_eq hid]
    rcases hkind with h | ⟨h, hlength⟩
    · simp [hempty, h]
    · simp [hempty, h, hlength]
  show Host.Outcome.next (s.takeCommand args (countRefusal args 6 (s.loadRollRefusal args)) [] fun t => t.loadRoll args) = _
  rw [countRefusal, if_pos hn, hrefusal, takeCommand_accepted hb, State.loadRoll, namedSpindle_eq hid]
  rfl

theorem exec_unload_accepted {args : List Byte} {id : SpindleId} {s : State} (hb : s.pat.status ≠ .checking) (hn : args.length = 1)
    (hid : spindleArg args = some id) (hline : s.sets.lineW = true) (hkind : s.sets.line.standKind ≠ .none)
    (hstate : (s.stand.spindle id).state = .loaded ∨ (s.stand.spindle id).state = .spent ∨ (s.stand.spindle id).state = .full) :
    exec (.unload args) s = .next ((s.reloaded args id {}).settle.respond [accepted]) := by
  have hrefusal : s.unloadRefusal args = none := by
    rw [State.unloadRefusal, standTests_pass hid hline hkind, namedSpindle_eq hid]
    rcases hstate with h | h | h <;> simp [h, SpindleState.unloadable]
  show Host.Outcome.next (s.takeCommand args (countRefusal args 1 (s.unloadRefusal args)) []
    fun t => (t.setSpindle (namedSpindle args) {}).settle) = _
  rw [countRefusal, if_pos hn, hrefusal, takeCommand_accepted hb, namedSpindle_eq hid]
  rfl

/-- What an accepted request leaves beside the stand. -/
theorem reloaded_answered {s : State} (hk : s.KnifeObeys) (args : List Byte) (id : SpindleId) (x : Spindle) :
    let t := (s.reloaded args id x).settle.respond [accepted]
    t.calm = s.calm ∧ t.still = s.stillAnswered args [0x01] ∧ t.port.response = [0x01] ∧ t.stand = (s.reloaded args id x).settle.stand
      ∧ ((s.reloaded args id x).settle.port.ip.getLsbD 4 = true → t.port.ip.getLsbD 4 = true) := by
  have hobeys : (s.reloaded args id x).KnifeObeys := hk
  have hcalm := settle_calm_of_obeys hobeys
  have hstill := settle_still (s.reloaded args id x)
  have hput : (s.reloaded args id x).still = (s.shiftOut (8 * (1 + args.length))).still := setSpindle_still _ _ _
  generalize (s.reloaded args id x).settle = t at hcalm hstill ⊢
  exact ⟨hcalm, congrArg (fun y : Still => { y with response := [accepted] }) (hstill.trans hput), rfl, rfl, fun h => h⟩

theorem reloaded_spindle (s : State) (args : List Byte) (id : SpindleId) (x : Spindle) :
    (s.reloaded args id x).stand.spindle id = x
      ∧ (s.reloaded args id x).stand.spindle (otherSpindle id) = s.stand.spindle (otherSpindle id) := by cases id <;> exact ⟨rfl, rfl⟩

theorem reloaded_lists (s : State) (args : List Byte) (id : SpindleId) (x : Spindle) :
    (s.reloaded args id x).stand.verdicts = s.stand.verdicts ∧ (s.reloaded args id x).stand.log = s.stand.log
      ∧ (s.reloaded args id x).stand.panel = s.stand.panel ∧ (s.reloaded args id x).stand.overfill = s.stand.overfill
      ∧ (s.reloaded args id x).stand.transfers = s.stand.transfers := by cases id <;> exact ⟨rfl, rfl, rfl, rfl, rfl⟩

theorem loadedSpindle_unwind {s : State} (h : s.sets.line.standKind = .unwind) (args : List Byte) : s.loadedSpindle args =
    { state := if (s.stand.inState .running).isSome then .loaded else .running, roll := args[1]?.getD 0, length := numAt args 2 4 } := by
  rw [State.loadedSpindle, h]
  rfl

/-- At a rewind the length is held as 0 (log 23). -/
theorem loadedSpindle_rewind {s : State} (h : s.sets.line.standKind = .rewind) (args : List Byte) : s.loadedSpindle args =
    { state := if (s.stand.inState .winding).isSome then .loaded else .winding, roll := args[1]?.getD 0 } := by
  rw [State.loadedSpindle, h]
  rfl

/-! ## The spindle found in a state -/

theorem inState_of {t : Stand} {w : SpindleId} {st : SpindleState} (h : (t.spindle w).state = st)
    (ho : (t.spindle (otherSpindle w)).state ≠ st) : t.inState st = some w := by
  cases w
  · exact if_pos h
  · exact (if_neg ho).trans (if_pos h)

theorem inState_none {t : Stand} {st : SpindleState} : t.inState st = none ↔ ∀ id, (t.spindle id).state ≠ st := by
  constructor
  · intro h id hid
    have ha : t.a.state ≠ st := fun c => nomatch (if_pos c).symm.trans h
    have hb : t.b.state ≠ st := fun c => nomatch ((if_neg ha).trans (if_pos c)).symm.trans h
    cases id
    · exact ha hid
    · exact hb hid
  · exact fun h => (if_neg (h .a)).trans (if_neg (h .b))

/-! ## A roll that is loaded at a rewind (R136, R148) -/

/-- Verdicts move only the counts of a roll (R153). -/
theorem judgeDue_spindle (s : State) (id : SpindleId) :
    { s.judgeDue.stand.spindle id with good := 0, reject := 0 } = { s.stand.spindle id with good := 0, reject := 0 } := by
  rw [(judgeDue_judged s).1.spindle id]

/-- Arming behind a settling's verdicts, for a spindle that has just been loaded beside the winding one (R148). -/
theorem judgeDue_arms {s : State} {w : SpindleId} (hkind : s.sets.line.standKind = .rewind) (hw : (s.stand.spindle w).state = .winding)
    (hl : (s.stand.spindle (otherSpindle w)).state = .loaded) (hf : (s.stand.spindle (otherSpindle w)).armFailed = false) :
    { s.judgeDue.transferArm.stand.spindle (otherSpindle w) with good := 0, reject := 0 } =
      { s.stand.spindle (otherSpindle w) with
        state := if s.sets.stand.target ≤ (s.stand.spindle w).closed ∧ s.running = true then .arming else .loaded, good := 0, reject := 0 } := by
  have hspindle := judgeDue_spindle s
  have hsets := sets_of_still (judgeDue_still s)
  have hrunning : s.judgeDue.running = s.running := by rw [State.running, state_of_kept (judgeDue_kept s), State.running]
  generalize s.judgeDue = t at hspindle hsets hrunning ⊢
  have hload := hspindle (otherSpindle w)
  have tw : (t.stand.spindle w).state = .winding := (congrArg Spindle.state (hspindle w) :).trans hw
  have tl : (t.stand.spindle (otherSpindle w)).state = .loaded := (congrArg Spindle.state hload :).trans hl
  have twinding : t.stand.inState .winding = some w := inState_of tw (by rw [tl]; exact SpindleState.noConfusion)
  have tusable : (t.stand.spindle (otherSpindle w)).usable = true :=
    (usable_iff _).mpr ⟨tl, (congrArg Spindle.armFailed hload :).trans hf⟩
  have tpending : t.transferPending = true ↔ s.sets.stand.target ≤ (s.stand.spindle w).closed := by
    rw [transferPending_iff (by rw [hsets]; exact hkind) twinding, hsets, (congrArg Spindle.closed (hspindle w) :)]
  by_cases h : s.sets.stand.target ≤ (s.stand.spindle w).closed ∧ s.running = true
  · rw [transferArm_arms (tpending.mpr h.1) (hrunning.trans h.2) twinding tusable, if_pos h]
    have harmed : (t.armSpindle (otherSpindle w)).stand.spindle (otherSpindle w) =
        { t.stand.spindle (otherSpindle w) with state := .arming } := (setSpindle_spindle t.stand _ _ _).trans (if_pos rfl)
    rw [harmed]
    exact congrArg (fun x : Spindle => { x with state := .arming }) hload
  · have hidle : t.transferArm = t := if_neg fun c => h ⟨tpending.mp c.1, hrunning.symm.trans c.2⟩
    rw [hidle, if_neg h, hload, ← hl]

/-- At a rewind whose cut at rest is denied the roll is WINDING if no spindle is, and otherwise LOADED, or ARMING for a pending transfer. -/
theorem loadRoll_rewinds {args : List Byte} {id : SpindleId} {s : State} (hk : s.KnifeObeys) (hkind : s.sets.line.standKind = .rewind)
    (hempty : (s.stand.spindle id).state = .empty) (hdenied : s.RestDenied) :
    { (s.reloaded args id (s.loadedSpindle args)).settle.stand.spindle id with good := 0, reject := 0 } =
      { state :=
          if (s.stand.inState .winding).isSome = true then (if s.transferPending = true ∧ s.running = true then .arming else .loaded)
          else .winding
        roll := args[1]?.getD 0 } := by
  have hobeys : (s.reloaded args id (s.loadedSpindle args)).KnifeObeys := hk
  have hdenied' : (s.reloaded args id (s.loadedSpindle args)).RestDenied := by
    unfold State.RestDenied
    rw [(reloaded_lists s args id _).2.2.2.1]
    exact hdenied
  obtain ⟨hput, hother⟩ := reloaded_spindle s args id (s.loadedSpindle args)
  rw [settle_of_obeys hobeys, consequences_uncut hdenied'.joined.restCut]
  cases hwinding : s.stand.inState .winding with
  | none =>
    have hload := loadedSpindle_rewind hkind args
    rw [hwinding] at hload
    have hjudged := judgeDue_spindle (s.reloaded args id (s.loadedSpindle args)) id
    rw [hput, hload] at hjudged
    rw [hload]
    rw [transferArm_spindle (usable_eq_false ?_)]
    · exact hjudged
    · rw [(congrArg Spindle.state hjudged :)]
      exact SpindleState.noConfusion
  | some w =>
    have hload := loadedSpindle_rewind hkind args
    rw [hwinding] at hload
    have hw := inState_eq_some hwinding
    have hid : id = otherSpindle w := (otherSpindle_cases w id).resolve_left fun c => by
      rw [c, hw] at hempty
      exact SpindleState.noConfusion hempty
    have hwkept : (s.reloaded args id (s.loadedSpindle args)).stand.spindle w = s.stand.spindle w := by
      rw [hid, otherSpindle_twice] at hother
      rw [hid]
      exact hother
    have harms := judgeDue_arms (s := s.reloaded args id (s.loadedSpindle args)) (w := w) hkind (by rw [hwkept]; exact hw)
      (by rw [← hid, hput, hload]; rfl) (by rw [← hid, hput, hload])
    rw [← hid, hput, hwkept, hload] at harms
    rw [hload]
    refine harms.trans ?_
    have hpending := transferPending_iff hkind hwinding
    simp only [hpending]
    rfl

/-! ## A spindle that is emptied (R137) -/

/-- Beside an EMPTY spindle nothing is cut over at rest (R150). -/
theorem restCut_empty {s : State} {id : SpindleId} (h : (s.stand.spindle id).state = .empty) : s.restCut = none := by
  unfold State.restCut
  split
  · cases hwinding : s.stand.inState .winding with
    | none => rfl
    | some w =>
      have hw := inState_eq_some hwinding
      have hid : id = otherSpindle w := (otherSpindle_cases w id).resolve_left fun c => by
        rw [c, hw] at h
        exact SpindleState.noConfusion h
      dsimp only
      rw [← hid, h]
      exact if_neg (by decide)
  · rfl

/-- A settling leaves an emptied record empty: no verdict counts on it, and nothing is cut over to it or armed (R137, R153). -/
theorem unload_settled {s : State} {id : SpindleId} (hk : s.KnifeObeys) (h : s.stand.spindle id = {}) : s.settle.stand.spindle id = {} := by
  have hjudged : s.judgeDue.stand.spindle id = {} := by
    have hnone : (s.stand.verdicts.filter s.verdictDue).filter (fun c => c.countedOn id {}) = [] :=
      List.filter_eq_nil_iff.mpr fun c _ => by
        rw [ClosedPanel.countedOn, decide_eq_true_eq]
        exact fun hc => hc.2.2 rfl
    rw [(judgeDue_judged s).1.spindle id, h, hnone]
    rfl
  have hjoined : (s.judgeDue.joinTest.stand.spindle id).state = .empty := by rw [joinTest_stand, hjudged]
  rw [settle_of_obeys hk, consequences_uncut (restCut_empty hjoined),
    transferArm_spindle (usable_eq_false (by rw [hjudged]; exact SpindleState.noConfusion)), hjudged]

/-- Settles O20: the record that the request puts in place, and what the settling makes of it by the kind of the stand and by the cut at
rest. -/
theorem rollsLoaded : Obligations.RollsLoaded := by
  refine ⟨fun args id s hb hn hid hline hempty hk => ⟨fun hkind hlength hv => ?_, fun hkind hdenied => ?_⟩,
    fun args id s hb hn hid hline hempty hkind hwinding hhold hactive hclear hquiet hrate hz hr hv hlog hopen => ?_,
    fun args id s hb hn hid hline hkind hstate hk => ?_⟩
  · refine ⟨_, exec_loadRoll_accepted hb hn hid hline hempty (.inr ⟨hkind, hlength⟩), ?_⟩
    obtain ⟨hcalm, hstill, hresponse, hstand, -⟩ := reloaded_answered hk args id (s.loadedSpindle args)
    refine ⟨hstand.trans ?_, hcalm, hstill, hresponse⟩
    have hverdicts := (reloaded_lists s args id (s.loadedSpindle args)).1.trans hv
    have hkind' : (s.reloaded args id (s.loadedSpindle args)).sets.line.standKind ≠ .rewind :=
      fun c => StandKind.noConfusion (hkind.symm.trans c)
    rw [settle_stand_of_obeys (s := s.reloaded args id (s.loadedSpindle args)) hk hverdicts hkind', loadedSpindle_unwind hkind]
    rfl
  · refine ⟨_, exec_loadRoll_accepted hb hn hid hline hempty (.inl hkind), ?_⟩
    obtain ⟨hcalm, hstill, -, hstand, -⟩ := reloaded_answered hk args id (s.loadedSpindle args)
    have hload := loadRoll_rewinds (args := args) hk hkind hempty hdenied
    rw [← hstand] at hload
    generalize State.respond _ _ = t at hcalm hstill hload ⊢
    have hstate := (congrArg Spindle.state hload :)
    refine ⟨(congrArg Spindle.roll hload :), (congrArg Spindle.armFailed hload :), (congrArg Spindle.wound hload :),
      (congrArg Spindle.closed hload :), fun hnone => ?_, fun hsome => ?_, hcalm, hstill⟩
    · exact hstate.trans (if_neg (by rw [hnone]; exact Bool.noConfusion))
    · exact hstate.trans (if_pos hsome)
  · refine ⟨_, exec_loadRoll_accepted hb hn hid hline hempty (.inl hkind), ?_⟩
    have hk : s.KnifeObeys := fun c => Bool.noConfusion (hclear.symm.trans c)
    obtain ⟨hcalm, hstill, hresponse, hstand, hip⟩ := reloaded_answered hk args id (s.loadedSpindle args)
    have hw : s.stand.inState .winding = some (otherSpindle id) :=
      inState_of hwinding (by rw [otherSpindle_twice, hempty]; exact SpindleState.noConfusion)
    have hload : s.loadedSpindle args = { state := .loaded, roll := args[1]?.getD 0 } := by rw [loadedSpindle_rewind hkind, hw]; rfl
    obtain ⟨hput, hother⟩ := reloaded_spindle s args id (s.loadedSpindle args)
    obtain ⟨lverdicts, llog, lpanel, lhold, ltransfers⟩ := reloaded_lists s args id (s.loadedSpindle args)
    replace hput := hput.trans hload
    have hcut : (s.reloaded args id (s.loadedSpindle args)).RestCut (otherSpindle id) := by
      refine ⟨hkind, lhold.trans hhold, hactive, hclear, hquiet, hrate, inState_of (by rw [hother]; exact hwinding) ?_, ?_⟩
      · rw [otherSpindle_twice, hput]
        exact SpindleState.noConfusion
      · rw [otherSpindle_twice, hput]
        exact .inl rfl
    obtain ⟨hends, hpanel, hflag⟩ := hcut.settles (lverdicts.trans hv) (if_neg (by show ¬0 < s.sets.box.zoneCount; omega)) hr
      (by rw [llog]; exact hlog) (by rw [lpanel]; exact hopen)
    have hflag' := hip hflag
    rw [← hstand] at hends hpanel
    generalize State.respond _ _ = t at hcalm hstill hresponse hends hpanel hflag' ⊢
    obtain ⟨cfull, cwound, cclosed, cwinding, cverdicts, clog, ctransfers, chold, carm, ccut, cchange⟩ := hends
    rw [otherSpindle_twice, hput] at cwinding
    rw [hother] at cwound cclosed clog
    rw [lpanel] at cclosed clog
    rw [llog] at clog
    rw [ltransfers] at ctransfers
    have hreject : ∀ r : Reasons, ({ r with split := true } : Reasons).any = true := fun r => by simp [Reasons.any]
    simp only [hreject] at clog
    exact ⟨cwinding, cfull, cwound, cclosed, hpanel, cverdicts, clog, chold, carm, ccut, ctransfers, hflag', cchange, hcalm,
      hstill, hresponse⟩
  · refine ⟨_, exec_unload_accepted hb hn hid hline hkind hstate, ?_⟩
    obtain ⟨hcalm, hstill, hresponse, hstand, -⟩ := reloaded_answered hk args id {}
    have hempty := unload_settled (s := s.reloaded args id {}) hk (reloaded_spindle s args id {}).1
    refine ⟨by rw [hstand]; exact hempty, hcalm, hstill, hresponse, fun hunwind hv => hstand.trans ?_⟩
    have hkind' : (s.reloaded args id {}).sets.line.standKind ≠ .rewind := fun c => StandKind.noConfusion (hunwind.symm.trans c)
    exact settle_stand_of_obeys (s := s.reloaded args id {}) hk ((reloaded_lists s args id {}).1.trans hv) hkind'

end Sys2Proof.Machine
end

section
namespace Sys2Proof.Machine

/-! # The reads and the panel log (R154, R181, R200) -/

/-! ## The lengths of the fields and records of 11.4 -/

@[simp] theorem optBytes_length {α : Type} {len : Nat} {f : α → List Byte} (h : ∀ x, (f x).length = len) (x : Option α) :
    (optBytes len f x).length = len + 1 := by
  cases x with
  | none => simp [optBytes]
  | some x => simp [optBytes, h]

@[simp] theorem posBytes_length (p : Pos) : (posBytes p).length = 4 := toBytes_length 4 _

@[simp] theorem signedBytes_length (n : Int) : (signedBytes n).length = 4 := toBytes_length 4 _

@[simp] theorem timerBytes_length (s : State) (due : Option Nat) : (s.timerBytes due).length = 4 := toBytes_length 4 _

@[simp] theorem causeBytes_length (c : Option StopCause) : (causeBytes c).length = 2 := by cases c <;> rfl

/-- The parameters of a fault are cut or filled to 9 bytes. -/
@[simp] theorem faultBytes_length (r : Option FaultRecord) : (faultBytes r).length = 11 := by
  cases r with
  | none => rfl
  | some r => simp [faultBytes]

@[simp] theorem zoneBytes_length (s : State) (z : Zone) : (s.zoneBytes z).length = 20 := by simp [State.zoneBytes]

@[simp] theorem idleBytes_length (s : State) : s.idleBytes.length = 5 := by
  unfold State.idleBytes
  split <;> simp

@[simp] theorem spindleBytes_length (x : Spindle) : (spindleBytes x).length = 25 := by simp [spindleBytes]

@[simp] theorem slotBytes_length (l : Link) : l.slotBytes.length = 8 := by simp [Link.slotBytes]

/-- A link change record: its cause, its peer and its error count (R178). -/
@[simp] theorem linkChangeBytes_length (c : LinkChange) : (linkChangeBytes c).length = 5 := by simp [linkChangeBytes]

/-- A zone record takes 20 bytes, present or not. -/
@[simp] theorem zoneRecords_length (s : State) : s.zoneRecords.length = 80 := by
  have h : ∀ z : Fin 4, (if s.isZone z then s.zoneBytes (s.zone z) else List.replicate (s.zoneBytes (s.zone z)).length 0).length = 20 := by
    intro z
    split <;> simp
  simp only [State.zoneRecords, List.length_flatMap, h]
  rfl

/-! ## The lengths of the status word's groups -/

@[simp] theorem stationGroup_length (s : State) : s.stationGroup.length = 17 := by simp [State.stationGroup]

@[simp] theorem rateGroup_length (s : State) : s.rateGroup.length = 25 := by simp [State.rateGroup]

@[simp] theorem cadenceGroup_length (s : State) : s.cadenceGroup.length = 23 := by simp [State.cadenceGroup]

@[simp] theorem patternGroup_length (s : State) : s.patternGroup.length = 27 := by simp [State.patternGroup]

/-- The planner's values take 7 bytes in either role. -/
@[simp] theorem knifeGroup_length (s : State) : s.knifeGroup.length = 22 := by
  rw [State.knifeGroup]
  split <;> simp

/-- The open expectation takes 10 bytes, present or not. -/
@[simp] theorem registrationGroup_length (s : State) : s.registrationGroup.length = 38 := by
  rw [State.registrationGroup]
  cases s.reg.expect <;> simp

@[simp] theorem webGroup_length (s : State) : s.webGroup.length = 33 := by simp [State.webGroup]

@[simp] theorem boxGroup_length (s : State) : s.boxGroup.length = 96 := by simp [State.boxGroup]

@[simp] theorem dwellGroup_length (s : State) : s.dwellGroup.length = 25 := by simp [State.dwellGroup]

@[simp] theorem standGroup_length (s : State) : s.standGroup.length = 73 := by simp [State.standGroup, rollChangeBytes]

@[simp] theorem linkGroup_length (s : State) : s.linkGroup.length = 28 := by simp [State.linkGroup]

/-- R200: the status word, behind its response code, fills 408 bytes. -/
theorem statusWord_length (s : State) : s.statusWord.length = 407 := by simp [State.statusWord]

/-! ## The lengths of the peer view and the queues -/

@[simp] theorem heardBytes_length (h : Option Heard) : (heardBytes h).length = 7 := by cases h <;> simp [heardBytes]

/-- A peer record takes 34 bytes, a neighbour's or not. -/
@[simp] theorem peerBytes_length (s : State) (id : StationId) : (s.peerBytes id).length = 34 := by
  rw [State.peerBytes]
  split <;> simp

/-- R200: sixteen peer records. -/
theorem peerView_length (s : State) : s.peerView.length = 544 := by
  simp only [State.peerView, List.length_flatMap, peerBytes_length]
  rfl

@[simp] theorem markBytes_length (m : Mark) (b : Byte) : (markBytes m b).length = 10 := by simp [markBytes]

@[simp] theorem bayBytes_length (e : BayEntry) : (bayBytes e).length = 10 := markBytes_length _ _

@[simp] theorem cellBytes_length (c : DwellCell) : (cellBytes c).length = 8 := by simp [cellBytes]

@[simp] theorem logBytes_length (e : LogEntry) : (logBytes e).length = 9 := by simp [logBytes]

/-- Entries of one length. -/
theorem flatMap_length {α : Type} {f : α → List Byte} {len : Nat} (h : ∀ x, (f x).length = len) (l : List α) :
    (l.flatMap f).length = len * l.length := by simp [List.length_flatMap, h, Nat.mul_comm]

/-- R200: four counted lists and the open range. -/
theorem queueBytes_length (s : State) : s.queueBytes.length =
    4 + 10 * (s.web.span.length + s.web.bay.length + s.web.outlet.length) + 8 * s.dwell.cells.length + 7 := by
  have hmarks := flatMap_length fun m => markBytes_length m 0
  simp only [State.queueBytes, List.length_append, toBytes_length, hmarks, flatMap_length bayBytes_length, flatMap_length cellBytes_length]
  rw [optBytes_length fun r => by simp]
  omega

/-! ## READ PANEL LOG -/

theorem logCount_single (b : Byte) : logCount [b] = b.toNat := by simp [logCount, numAt, ofBytes]

theorem toBytes_one (n : Nat) : toBytes 1 n = [BitVec.ofNat 8 n] := by simp [toBytes]

/-- The bytes that answer a count from 1 to 32. -/
theorem panelLogBytes_eq (s : State) (count : Nat) : s.panelLogBytes count = (if s.stand.overflow then 1 else 0)
    :: BitVec.ofNat 8 (s.stand.log.take count).length :: (s.stand.log.take count).flatMap logBytes := by
  rw [State.panelLogBytes, toBytes_one]
  rfl

theorem panelLogBytes_length (s : State) (count : Nat) : (s.panelLogBytes count).length = 2 + 9 * min count s.stand.log.length := by
  rw [panelLogBytes_eq, List.length_cons, List.length_cons, flatMap_length logBytes_length, List.length_take]
  omega

/-- The whole command, its argument count being right. -/
theorem exec_readPanelLog (b : Byte) (s : State) : exec (.readPanelLog [b]) s =
    .next (s.takeCommand [b] (refusalOf [(decide (b.toNat = 0) || decide (32 < b.toNat), refusedValue)]) (s.panelLogBytes b.toNat)
      fun t => t.dropLog b.toNat) := by
  rw [← logCount_single b]
  rfl

/-- Settles O22: the commands' own effects, and the lengths of the fields, the groups and the lists they answer with. -/
theorem readsAnswer : Obligations.ReadsAnswer := by
  refine ⟨fun s => ⟨rfl, fun hb => ?_⟩, fun s => ⟨?_, ?_, ?_⟩, fun b s hb => ⟨fun hcount => ?_, fun hlow hhigh => ?_⟩⟩
  · exact ⟨congrArg Host.Outcome.next (takeCommand_accepted hb [] s.peerView id),
      congrArg Host.Outcome.next (takeCommand_accepted hb [] s.queueBytes id)⟩
  · rw [List.length_cons, statusWord_length]
  · rw [List.length_cons, peerView_length]
  · rw [List.length_cons, queueBytes_length]
    omega
  · have hrefusal : (decide (b.toNat = 0) || decide (32 < b.toNat)) = true := by simpa using hcount
    rw [exec_readPanelLog, hrefusal]
    exact congrArg Host.Outcome.next (takeCommand_refused hb [b] _ _ _)
  · have haccepted : (decide (b.toNat = 0) || decide (32 < b.toNat)) = false := by simp; omega
    rw [Completes, exec_readPanelLog, haccepted]
    refine ⟨_, congrArg Host.Outcome.next (takeCommand_accepted hb [b] _ _), ?_, ?_, rfl⟩
    · exact congrArg (List.cons _) (panelLogBytes_eq s b.toNat)
    · show (accepted :: s.panelLogBytes b.toNat).length = _
      rw [List.length_cons, panelLogBytes_length]
      omega

end Sys2Proof.Machine
end

section
namespace Sys2Proof.Machine

/-! # A rewind's continuous pulse, up to its accounting -/

/-- A rewind takes a continuous pulse with the knife idle and nothing under way at the knife line. -/
structure State.QuietPulse (s : State) : Prop where
  mode : s.cad.mode = .continuous
  begun : s.cad.begun = true
  pn : s.cad.pn ≠ 0
  effective : 0 < s.rate.effective
  idle : s.knife.phase = .idle
  quiet : s.WebQuiet
  kind : s.sets.line.standKind = .rewind

/-- The accounting leaves the bay and the span, and no expectation. -/
theorem account_quiet {s : State} (h : s.WebQuiet) : s.account.WebQuiet := by
  have hstill := account_still s
  have hbay : s.account.web.bay = s.web.bay := congrArg Steady.bay (account_steady s)
  exact ⟨hbay.trans h.bay, (congrArg Still.span hstill :).trans h.span, (congrArg (fun u => u.reg.expect) hstill :).trans h.expect⟩

/-- With no cells, or no zones, the pulse is the accounting of the rolled state, in whichever order the Dwell Table comes (R126). -/
theorem afterAdvance_accounts {s : State} (hq : s.WebQuiet) (hu : s.sets.box.zoneCount = 0 ∨ s.dwell.cells = []) :
    ∃ v : State, v.ledger = s.ledger ∧ (s.afterAdvance fun t => (bridgeBoundary t).nipEffects).ledger = v.account.ledger := by
  unfold State.afterAdvance
  split
  · exact ⟨s, rfl, (account_quiet hq).effects.1⟩
  · rename_i hz
    have hcells := hu.resolve_left hz
    have stays : ∀ t : State, t.dwell = s.dwell → t.HeadStays t.web.o := fun t ht c hc => by
      rw [ht, hcells] at hc
      exact nomatch hc
    unfold eitherOrder
    split
    · have hdwell : s.chosen.dwellAdvance.ledger = s.ledger := dwellAdvance_ledger (stays s.chosen rfl)
      exact ⟨s.chosen.dwellAdvance, hdwell, (account_quiet (quiet_congr hdwell hq)).effects.1⟩
    · have hchosen : s.chosen.WebQuiet := ⟨hq.bay, hq.span, hq.expect⟩
      obtain ⟨hledger, hdwell⟩ := hchosen.effects
      exact ⟨(bridgeBoundary s.chosen).nipEffects.dwellAdvance, (dwellAdvance_ledger (stays _ hdwell)).trans hledger, rfl⟩

/-- Such a pulse completes as the settling of an accounting of the rolled state. -/
theorem State.QuietPulse.completes {s : State} (h : s.QuietPulse) (hu : s.sets.box.zoneCount = 0 ∨ s.dwell.cells = []) :
    ∃ v u : State, exec .continuousPulse s = .next u.settle ∧ v.ledger = s.rolled.ledger ∧ u.ledger = v.account.ledger
      ∧ u.knife.phase = .idle ∧ 0 < u.rate.effective := by
  obtain ⟨x, y, hrolled⟩ := rolled_wound s
  have hu' : s.rolled.sets.box.zoneCount = 0 ∨ s.rolled.dwell.cells = [] := by
    rw [hrolled]
    exact hu
  obtain ⟨v, hv, haccount⟩ := afterAdvance_accounts (rolled_quiet h.quiet) hu'
  have hknife : v.knife = s.knife := (congrArg State.knife hv :).trans (by rw [hrolled]; rfl)
  have hrate : v.rate = s.rate := (congrArg State.rate hv :).trans (by rw [hrolled]; rfl)
  obtain ⟨hk, hr⟩ := account_knife v
  have huknife : s.pulsed.knife = v.account.knife := (congrArg State.knife haccount :)
  have hurate : s.pulsed.rate = v.account.rate := (congrArg State.rate haccount :)
  refine ⟨v, s.pulsed, ?_, hv, haccount, ?_, ?_⟩
  · rw [exec_continuousPulse h.mode h.begun h.pn h.effective, flowPulse_rewind h.kind]
  · rw [huknife, hk, hknife]
    exact h.idle
  · rw [hurate, hr, hrate]
    exact h.effective

theorem obeys_of_idle {s : State} (h : s.knife.phase = .idle) : s.KnifeObeys := fun _ => by
  rw [h]
  exact ⟨KnifePhase.noConfusion, KnifePhase.noConfusion⟩

/-- What the rolled state holds: O advanced by 1, and the stand but for the wound lengths as it was. -/
theorem rolled_fields {s v : State} (h : v.ledger = s.rolled.ledger) : v.sets = s.sets ∧ v.web.o = s.web.o + 1
    ∧ v.web.outlet = s.web.outlet ∧ v.web.pn = s.web.pn ∧ v.dwell.range = s.dwell.range ∧ v.rate = s.rate
    ∧ ∃ x y, v.stand = { s.stand with a := { s.stand.a with wound := x }, b := { s.stand.b with wound := y } } := by
  obtain ⟨x, y, hrolled⟩ := rolled_wound s
  rw [hrolled] at h
  exact ⟨(congrArg State.sets h :), (congrArg (fun t : State => t.web.o) h :), (congrArg (fun t : State => t.web.outlet) h :),
    (congrArg (fun t : State => t.web.pn) h :), (congrArg (fun t : State => t.dwell.range) h :), (congrArg State.rate h :), x, y,
    (congrArg State.stand h :)⟩

/-! # The rewind's cuts at a continuous pulse (R148, R150) -/

/-- A rewind with a roll winding, the other spindle SYNCED, no panel waiting for its verdict, and the length end of the open panel ahead. -/
structure State.CutReady (s : State) (w : SpindleId) : Prop where
  kind : s.sets.line.standKind = .rewind
  winding : s.stand.inState .winding = some w
  synced : (s.stand.spindle (otherSpindle w)).state = .synced
  wait : s.verdictWait = 0
  verdicts : s.stand.verdicts = []
  range : s.dwell.range = none
  room : s.stand.log.length < 32
  ahead : ∀ p, s.stand.panel = some p → atOrBeyond s.web.o p.lengthEnd = false

theorem State.CutReady.ready {s : State} {w : SpindleId} (h : s.CutReady w) : s.stand.inState .synced = some (otherSpindle w) :=
  inState_of h.synced (by rw [otherSpindle_twice, inState_eq_some h.winding]; exact SpindleState.noConfusion)

/-- The cut at maximum is due where the wound length is at the maximum (R150). -/
theorem State.CutReady.maximumCut {s : State} {w : SpindleId} (h : s.CutReady w) :
    s.maximumCut = if s.sets.stand.maxWound ≤ (s.stand.spindle w).wound then some (otherSpindle w) else none := by
  rw [State.maximumCut, if_neg (not_not_intro h.kind), h.winding, h.ready]

/-- A panel may open behind a cut. -/
theorem CutEnds.reopened {t u : Stand} {w : SpindleId} {stop : Pos} {flag : Reasons → Reasons} {now : Nat} (h : CutEnds t w stop flag now u)
    (p : Option OpenPanel) (left : List Pos) : CutEnds t w stop flag now { u with panel := p, splicesLeft := left } := by
  obtain ⟨hfull, hwound, hclosed, hwinding, hrest⟩ := h
  cases w <;> exact ⟨hfull, hwound, hclosed, hwinding, ‹_›, ‹_›, ‹_›, ‹_›, ‹_›, ‹_›, ‹_›⟩

/-- One mark that O has reached leaves the outlet list, and the length end behind it is tested (R90, R151). -/
theorem outletSweep_leaves {s : State} {m : Mark} (hkind : s.sets.line.standKind = .rewind) (ho : s.web.outlet = [m])
    (hm : atOrBeyond s.web.o m.pos = true) :
    s.outletSweep = ({ s.handOff m with web.outlet := [] } : State).endPanel s.web.o := by
  have hleave : s.leaveFrom s.web.o s.web.outlet = { s.handOff m with web.outlet := [] } := by
    rw [ho, State.leaveFrom, if_pos hm, State.markLeaves, if_pos hkind]
    rfl
  rw [State.outletSweep, State.sweepTo, hleave]

/-- What the accounting of a pulse that cuts over leaves. -/
structure AccountCuts (s : State) (w : SpindleId) (flag : Reasons → Reasons) (t : State) : Prop where
  ends : CutEnds s.stand w s.web.o flag s.now t.stand
  event : t.port.ip.getLsbD 4 = true

/-- At role NONE the outlet length is the panel length held by the Web Tracker. -/
theorem outletLength_of_none {s : State} (h : s.sets.line.role = .none) : s.outletLength = s.web.pn := by rw [outletLength_eq, if_pos h]

/-- The panel that opens at a mark, and the splices held behind it (R151, R152). -/
theorem openPanelAt_stand (s : State) (p : Pos) (number : BitVec 16) : ∃ roll,
    (∀ w, s.stand.inState .winding = some w → roll = (s.stand.spindle w).roll)
      ∧ s.openPanelAt p number = { s with
          stand.panel := some
            { number := number, start := p, lengthEnd := p + toPos s.outletLength, roll := roll
              reasons :=
                { underset := (s.stand.reach.map fun r => before p r).getD false, splice := decide (p ∈ s.stand.splicesLeft) } }
          stand.splicesLeft := s.recentSplices } := by
  have hsplice : s.stand.splicesLeft.contains p = decide (p ∈ s.stand.splicesLeft) := List.elem_eq_mem p s.stand.splicesLeft
  refine ⟨match s.stand.inState .winding with | none => 0 | some x => (s.stand.spindle x).roll, fun w hw => by rw [hw], ?_⟩
  rw [State.openPanelAt, ← hsplice]
  cases s.stand.reach <;> rfl

/-- The transfer cut behind the panel that ends at the mark (R148, R151). -/
theorem State.CutReady.cuts_over {s : State} {w : SpindleId} (h : s.CutReady w) (hclear : s.rate.latch = false) :
    let v := (s.closePanel s.web.o id).transferCut
    AccountCuts s w id v ∧ v.stand.reach = s.stand.reach ∧ v.stand.splicesLeft = s.stand.splicesLeft ∧ v.web = s.web
      ∧ v.sets = s.sets := by
  have hends := closePanel_ends h.winding h.verdicts h.wait h.range h.room id
  have hcalm := calm_of_kept (closePanel_kept s s.web.o id)
  have hstill := closePanel_still s s.web.o id
  generalize s.closePanel s.web.o id = u at hends hcalm hstill ⊢
  have hwinding : (u.stand.spindle w).state = .winding := (congrArg Spindle.state hends.old :).trans (inState_eq_some h.winding)
  have hready : u.stand.inState .synced = some (otherSpindle w) :=
    inState_of (by rw [hends.new]; exact h.synced) (by rw [otherSpindle_twice, hwinding]; exact SpindleState.noConfusion)
  have hlatch : u.rate.latch = false := (congrArg Calm.latch hcalm).trans hclear
  have htransfer : u.transferCut = u.transferTo (otherSpindle w) := by
    rw [State.transferCut, hlatch, hready]
    rfl
  have hreach : u.stand.reach = s.stand.reach := (congrArg Stand.reach hends.rest :)
  have hsplices : u.stand.splicesLeft = s.stand.splicesLeft := (congrArg Stand.splicesLeft hends.rest :)
  obtain ⟨change, hcause, heq⟩ := transferTo_eq hwinding
  rw [htransfer, heq, now_of_still hstill]
  refine ⟨⟨(hends.cut s.now hcause).1, rollFlag _⟩, ?_, ?_, congrArg Calm.web hcalm, (congrArg Still.sets hstill :)⟩
  · rw [← hreach]
    cases w <;> rfl
  · rw [← hsplices]
    cases w <;> rfl

/-- The accounting of a PANEL mark that leaves while a spindle is SYNCED: the open panel ends at the mark, the cut is made, and the next
panel opens on the new roll (R148). -/
theorem State.CutReady.account_transfer {s : State} {w : SpindleId} {m : Mark} {number : BitVec 16} (h : s.CutReady w)
    (hclear : s.rate.latch = false) (hrole : s.sets.line.role = .none) (ho : s.web.outlet = [m]) (hm : m.body = .panel number)
    (hpos : m.pos = s.web.o) (hshort : (s.stand.spindle w).wound < s.sets.stand.maxWound) (hreach : s.stand.reach = none)
    (hsplice : m.pos ∉ s.stand.splicesLeft) (hlength : s.web.pn ≠ 0) (hbound : s.web.pn < 2147483648) :
    AccountCuts s w id s.account ∧ s.account.web.outlet = [] ∧ s.account.stand.panel = some
      { number := number, start := m.pos, lengthEnd := m.pos + toPos s.web.pn
        roll := (s.stand.spindle (otherSpindle w)).roll, reasons := {} } := by
  have hcut : s.maximumCut = none := h.maximumCut.trans (if_neg (by omega))
  have hover := h.cuts_over hclear
  have hhand : s.handOff m = ((s.closePanel s.web.o id).transferCut).openPanelAt m.pos number := by
    rw [State.handOff, hm]
    dsimp only
    rw [closeIfFull_none (fullBy_ahead h.ahead _), hpos]
  rw [State.account, hcut]
  dsimp only
  rw [outletSweep_leaves h.kind ho (by rw [hpos]; exact atOrBeyond_self _), hhand]
  generalize (s.closePanel s.web.o id).transferCut = v at hover ⊢
  obtain ⟨⟨hends, hevent⟩, vreach, vsplices, vweb, vsets⟩ := hover
  have hlen : v.outletLength = s.web.pn := by rw [outletLength_of_none (by rw [vsets]; exact hrole), vweb]
  have hwinding : v.stand.inState .winding = some (otherSpindle w) :=
    inState_of (by rw [hends.winding]) (by rw [otherSpindle_twice, hends.full]; exact SpindleState.noConfusion)
  obtain ⟨roll, hroll, hopened⟩ := openPanelAt_stand v m.pos number
  have hroll' : roll = (s.stand.spindle (otherSpindle w)).roll := (hroll _ hwinding).trans (by rw [hends.winding])
  rw [vreach, hreach, vsplices, decide_eq_false hsplice, hlen, hroll'] at hopened
  rw [hopened, endPanel_unfull]
  · exact ⟨⟨hends.reopened _ _, hevent⟩, rfl, rfl⟩
  · refine fullBy_ahead (fun p hq => ?_) _
    cases hq
    show atOrBeyond v.web.o (m.pos + toPos s.web.pn) = false
    rw [vweb, hpos]
    exact atOrBeyond_ahead _ (Nat.pos_of_ne_zero hlength) hbound

/-- With no mark to leave and no length end reached a sweep of the outlet list has nothing to do (R90, R151). -/
theorem sweepTo_idle {s : State} {limit : Pos} (ho : s.web.outlet = [])
    (hf : s.fullBy limit = none) : s.sweepTo limit = s := by
  have hleave : s.leaveFrom limit s.web.outlet = s := by
    rw [ho]
    show { s with web.outlet := [] } = s
    rw [← ho]
  rw [State.sweepTo, hleave, endPanel_unfull hf]

/-- The cut at maximum splits the open panel, before or after the sweep of the outlet list (R150). -/
theorem State.CutReady.account_maximum {s : State} {w : SpindleId} (h : s.CutReady w) (ho : s.web.outlet = [])
    (hmax : s.sets.stand.maxWound ≤ (s.stand.spindle w).wound) :
    AccountCuts s w (fun r => { r with split := true }) s.account ∧ s.account.stand.panel = none := by
  have hdue : s.maximumCut = some (otherSpindle w) := h.maximumCut.trans (if_pos hmax)
  have hfirst : s.sweepTo (s.web.o - 1) = s := sweepTo_idle ho (fullBy_ahead h.ahead _)
  have hcut : s.chosen.cutAtMaximum = s.chosen.splitCut (otherSpindle w) := by
    rw [State.cutAtMaximum, show s.chosen.maximumCut = _ from hdue]
  obtain ⟨hends, hpanel, hevent⟩ := splitCut_ends (s := s.chosen) h.winding h.verdicts h.wait h.range h.room h.ahead
  have houtlet : (s.chosen.splitCut (otherSpindle w)).web.outlet = [] := by
    have hweb := congrArg Calm.web (calm_of_kept (splitCut_kept s.chosen (otherSpindle w)))
    exact (congrArg Web.outlet hweb).trans ho
  have hafter : (s.chosen.splitCut (otherSpindle w)).outletSweep = s.chosen.splitCut (otherSpindle w) :=
    sweepTo_idle houtlet (fullBy_closed hpanel _)
  have hbefore : s.chosen.outletSweep = s.chosen := sweepTo_idle (s := s.chosen) ho (fullBy_ahead (s := s.chosen) h.ahead _)
  have haccount : s.account = s.chosen.splitCut (otherSpindle w) := by
    rw [State.account, hdue]
    dsimp only
    rw [hfirst, eitherOrder]
    split
    · rw [hcut, hafter]
    · rw [hbefore, hcut]
  rw [haccount]
  exact ⟨⟨hends, hevent⟩, hpanel⟩

/-! ## What a cut shows once its step has settled -/

/-- From `s` to `t` the rewind has been cut over from `w`, and the open panel has ended (R148, R150, R151). -/
def CutSeen (s : State) (w : SpindleId) (stop : Pos) (flag : Reasons → Reasons) (t : State) : Prop :=
  ((t.stand.spindle w).state = .full
      ∧ t.stand.spindle (otherSpindle w) =
        { s.stand.spindle (otherSpindle w) with state := .winding, wound := 0, closed := 0, good := 0, reject := 0 }
      ∧ t.stand.transfers = satInc s.stand.transfers ∧ t.stand.overfill = false ∧ t.stand.armDue = none
      ∧ t.stand.cutDue = some (t.now + 100000) ∧ t.port.ip.getLsbD 4 = true ∧ t.stand.change.map RollChange.cause = some .transferDone)
    ∧ ((t.stand.spindle w).closed = (s.stand.spindle w).closed + (if s.stand.panel.isSome then 1 else 0) ∧ t.stand.verdicts = []
      ∧ t.stand.log = s.stand.log ++ (s.stand.panel.toList.map fun p =>
        { number := p.number, roll := (s.stand.spindle w).roll, reject := (flag p.reasons).any, reasons := flag p.reasons
          length := (stop - p.start).toNat }))

/-- The wound lengths before the step do not show. -/
theorem CutEnds.seen {s t : State} {r : Stand} {w : SpindleId} {stop : Pos} {flag : Reasons → Reasons}
    (h : CutEnds r w stop flag t.now t.stand)
    (hr : ∃ x y, r = { s.stand with a := { s.stand.a with wound := x }, b := { s.stand.b with wound := y } })
    (hevent : t.port.ip.getLsbD 4 = true) : CutSeen s w stop flag t := by
  obtain ⟨x, y, rfl⟩ := hr
  obtain ⟨hfull, -, hclosed, hwinding, hverdicts, hlog, htransfers, hhold, harm, hcut, hchange⟩ := h
  cases w <;> exact ⟨⟨hfull, hwinding, htransfers, hhold, harm, hcut, hevent, hchange⟩, hclosed, hverdicts, hlog⟩

/-- The rolled state of a pulse that may cut over. -/
theorem State.QuietPulse.rolled_cutReady {s v : State} {w : SpindleId} (h : s.QuietPulse) (hz : s.sets.box.zoneCount = 0)
    (hr : s.dwell.range = none) (hv : s.stand.verdicts = []) (hlog : s.stand.log.length < 32)
    (hw : s.stand.inState .winding = some w) (hsynced : (s.stand.spindle (otherSpindle w)).state = .synced)
    (hopen : ∀ p, s.stand.panel = some p → atOrBeyond (s.web.o + 1) p.lengthEnd = false) (hrolled : v.ledger = s.rolled.ledger) :
    v.CutReady w ∧ (v.stand.spindle w).wound = min ((s.stand.spindle w).wound + 1) 4294967295 := by
  have hwound : v.stand.spindle w = { s.stand.spindle w with wound := satAdd32 (s.stand.spindle w).wound 1 } := by
    have hstand : v.stand = s.rolled.stand := (congrArg State.stand hrolled :)
    rw [hstand]
    exact wind_winding (s := s.flowed) h.kind hw 1
  obtain ⟨vsets, vo, -, -, vrange, -, x, y, vstand⟩ := rolled_fields hrolled
  refine ⟨?_, congrArg Spindle.wound hwound⟩
  have hwait : v.verdictWait = 0 := if_neg (by rw [vsets]; omega)
  refine ⟨by rw [vsets]; exact h.kind, by rw [vstand]; exact hw, ?_, hwait, by rw [vstand]; exact hv, vrange.trans hr,
    by rw [vstand]; exact hlog, by rw [vstand, vo]; exact hopen⟩
  rw [vstand]
  cases w <;> exact hsynced

/-- A pulse whose accounting cuts over completes with the cut as the accounting left it: its settling leaves the stand. -/
theorem State.QuietPulse.completes_cut {s : State} {w : SpindleId} {flag : Reasons → Reasons} (h : s.QuietPulse)
    (hz : s.sets.box.zoneCount = 0) (haccount : ∀ v : State, v.ledger = s.rolled.ledger → AccountCuts v w flag v.account) :
    Completes .continuousPulse s fun t => CutSeen s w (s.web.o + 1) flag t ∧ ∃ v : State, v.ledger = s.rolled.ledger
      ∧ (t.stand.spindle w).wound = (v.stand.spindle w).wound ∧ t.stand = v.account.stand ∧ t.web = v.account.web := by
  obtain ⟨v, u, hexec, hrolled, hledger, hidle, -⟩ := h.completes (.inl hz)
  obtain ⟨hends, hevent⟩ := haccount v hrolled
  obtain ⟨-, vo, -, -, -, -, hstand⟩ := rolled_fields hrolled
  have vnow : v.account.now = v.now := now_of_still (account_still v)
  have ustand : u.stand = v.account.stand := (congrArg State.stand hledger :)
  have uweb : u.web = v.account.web := (congrArg State.web hledger :)
  have unow : u.now = v.account.now := (congrArg State.now hledger :)
  have uport : u.port = v.account.port := (congrArg State.port hledger :)
  have uobeys := obeys_of_idle hidle
  rw [← ustand] at hends
  have tstand := hends.settled uobeys
  have tweb := congrArg Calm.web (settle_calm_of_obeys uobeys)
  have tnow := now_of_still (settle_still u)
  have tevent := (Rises.settle u).2.2 4 (by rw [uport]; exact hevent)
  refine ⟨u.settle, hexec, ?_⟩
  generalize u.settle = t at tstand tweb tnow tevent ⊢
  rw [← tstand, vo, ← vnow, ← unow, ← tnow] at hends
  exact ⟨hends.seen hstand tevent, v, hrolled, hends.wound, tstand.trans ustand, tweb.trans uweb⟩

/-- The transfer cut at a pulse (R148). -/
theorem State.QuietPulse.transfers {s : State} {w : SpindleId} {m : Mark} {number : BitVec 16} (h : s.QuietPulse)
    (hz : s.sets.box.zoneCount = 0) (hclear : s.rate.latch = false) (hrole : s.sets.line.role = .none) (hpn : s.web.pn ≠ 0)
    (hbound : s.web.pn < 2147483648)
    (hready : ∀ v : State, v.ledger = s.rolled.ledger →
      v.CutReady w ∧ (v.stand.spindle w).wound = min ((s.stand.spindle w).wound + 1) 4294967295)
    (ho : s.web.outlet = [m]) (hm : m.body = .panel number) (hpos : m.pos = s.web.o + 1)
    (hshort : min ((s.stand.spindle w).wound + 1) 4294967295 < s.sets.stand.maxWound) (hreach : s.stand.reach = none)
    (hsplice : m.pos ∉ s.stand.splicesLeft) :
    Completes .continuousPulse s fun t => CutSeen s w m.pos id t
      ∧ (t.stand.spindle w).wound = min ((s.stand.spindle w).wound + 1) 4294967295 ∧ t.web.outlet = []
      ∧ t.stand.panel = some { number := number, start := m.pos, lengthEnd := m.pos + toPos s.web.pn
                               roll := (s.stand.spindle (otherSpindle w)).roll, reasons := {} } := by
  have haccount : ∀ v : State, v.ledger = s.rolled.ledger → AccountCuts v w id v.account ∧ v.account.web.outlet = []
      ∧ v.account.stand.panel = some { number := number, start := m.pos, lengthEnd := m.pos + toPos s.web.pn
                                       roll := (s.stand.spindle (otherSpindle w)).roll, reasons := {} } := fun v hv => by
    obtain ⟨hcut, hwound⟩ := hready v hv
    obtain ⟨vsets, vo, voutlet, vpn, -, vrate, x, y, vstand⟩ := rolled_fields hv
    have hroll : (v.stand.spindle (otherSpindle w)).roll = (s.stand.spindle (otherSpindle w)).roll := by
      rw [vstand]
      cases w <;> rfl
    have hcuts := hcut.account_transfer (m := m) (number := number) (by rw [vrate]; exact hclear) (by rw [vsets]; exact hrole)
      (voutlet.trans ho) hm (hpos.trans vo.symm) (by rw [hwound, vsets]; exact hshort) (by rw [vstand]; exact hreach)
      (by rw [vstand]; exact hsplice) (by rw [vpn]; exact hpn) (by rw [vpn]; exact hbound)
    rw [vpn, hroll] at hcuts
    exact hcuts
  refine (h.completes_cut hz fun v hv => (haccount v hv).1).imp fun t ht => ?_
  obtain ⟨hseen, v, hv, hwound, tstand, tweb⟩ := ht
  obtain ⟨-, houtlet, hpanel⟩ := haccount v hv
  rw [hpos]
  refine ⟨hseen, hwound.trans (hready v hv).2, by rw [tweb]; exact houtlet, ?_⟩
  rw [tstand, hpanel, hpos]

/-- The cut at maximum at a pulse (R150). -/
theorem State.QuietPulse.cuts_maximum {s : State} {w : SpindleId} (h : s.QuietPulse) (hz : s.sets.box.zoneCount = 0)
    (hready : ∀ v : State, v.ledger = s.rolled.ledger →
      v.CutReady w ∧ (v.stand.spindle w).wound = min ((s.stand.spindle w).wound + 1) 4294967295)
    (ho : s.web.outlet = []) (hmax : s.sets.stand.maxWound ≤ min ((s.stand.spindle w).wound + 1) 4294967295) :
    Completes .continuousPulse s fun t =>
      CutSeen s w (s.web.o + 1) (fun r => { r with split := true }) t ∧ t.stand.panel = none := by
  have haccount : ∀ v : State, v.ledger = s.rolled.ledger →
      AccountCuts v w (fun r => { r with split := true }) v.account ∧ v.account.stand.panel = none := fun v hv => by
    obtain ⟨hcut, hwound⟩ := hready v hv
    obtain ⟨vsets, -, voutlet, -⟩ := rolled_fields hv
    exact hcut.account_maximum (voutlet.trans ho) (by rw [hwound, vsets]; exact hmax)
  refine (h.completes_cut hz fun v hv => (haccount v hv).1).imp fun t ht => ?_
  obtain ⟨hseen, v, hv, -, tstand, -⟩ := ht
  exact ⟨hseen, by rw [tstand]; exact (haccount v hv).2⟩

/-- The cut at rest, at the expiry of the rest timer it waited for (R78, R150). -/
theorem restTimerExpiry_cuts {s : State} {w : SpindleId} {due : Nat} (hdue : s.web.restDue = some due)
    (hcut : (s.rested due).RestCut w) (hv : s.stand.verdicts = []) (hz : s.sets.box.zoneCount = 0) (hr : s.dwell.range = none)
    (hlog : s.stand.log.length < 32) (hopen : ∀ p, s.stand.panel = some p → atOrBeyond s.web.o p.lengthEnd = false) :
    Completes .restTimerExpiry s fun t => CutSeen s w s.web.o (fun r => { r with split := true }) t ∧ t.stand.panel = none := by
  obtain ⟨hends, hpanel, hevent⟩ := hcut.settles hv (if_neg (by show ¬0 < s.sets.box.zoneCount; omega)) hr hlog hopen
  have hnow := now_of_still (settle_still (s.rested due))
  refine ⟨_, exec_restTimerExpiry hdue, ?_⟩
  generalize (s.rested due).settle = t at hends hpanel hevent hnow ⊢
  rw [← hnow] at hends
  exact ⟨hends.seen (s := s) ⟨s.stand.a.wound, s.stand.b.wound, rfl⟩ hevent, hpanel⟩

end Sys2Proof.Machine
end

section
namespace Sys2Proof.Machine

/-! # The marks that leave at a rewind (R90, R151, R152) -/

/-- A rewind with no spindle ready to cut to, whose one mark O has reached. -/
structure State.Leaving (s : State) (m : Mark) : Prop where
  kind : s.sets.line.standKind = .rewind
  unready : s.stand.inState .synced = none
  outlet : s.web.outlet = [m]
  reached : atOrBeyond s.web.o m.pos = true

theorem State.Leaving.account_eq {s : State} {m : Mark} (h : s.Leaving m) :
    s.account = ({ s.handOff m with web.outlet := [] } : State).endPanel s.web.o := by
  rw [account_unready h.unready, outletSweep_leaves h.kind h.outlet h.reached]

/-- With no length end reached behind it, the mark's own effect is the accounting. -/
theorem State.Leaving.account_open {s v : State} {m : Mark} (h : s.Leaving m) (hv : s.handOff m = v) (ho : v.web.o = s.web.o)
    (ahead : ∀ p, v.stand.panel = some p → atOrBeyond s.web.o p.lengthEnd = false) : s.account = { v with web.outlet := [] } := by
  rw [h.account_eq, hv]
  refine endPanel_unfull (fullBy_ahead (fun p hp => ?_) _)
  show atOrBeyond v.web.o p.lengthEnd = false
  rw [ho]
  exact ahead p hp

/-- A panel is open and its length end lies ahead of O and behind a mark. -/
structure State.OpenAt (s : State) (m : Mark) (p : OpenPanel) : Prop where
  panel : s.stand.panel = some p
  inside : before m.pos p.lengthEnd = true
  ahead : atOrBeyond s.web.o p.lengthEnd = false

theorem State.OpenAt.unfull {s : State} {m : Mark} {p : OpenPanel} (h : s.OpenAt m p) : s.closeIfFull m.pos = s :=
  closeIfFull_none (fullBy_ahead (fun _ hq => Option.some.inj (h.panel.symm.trans hq) ▸ h.ahead) _)

theorem State.OpenAt.flagged {s : State} {m : Mark} {p : OpenPanel} (h : s.OpenAt m p) (flag : Reasons → Reasons) :
    (s.closeIfFull m.pos).flagPanel m.pos flag = { s with stand.panel := some { p with reasons := flag p.reasons } } := by
  rw [h.unfull, State.flagPanel, h.panel]
  exact if_pos (.inr h.inside)

/-- A MISSFOLD mark inside an open panel flags it (R152). -/
theorem State.Leaving.account_missfold {s : State} {m : Mark} {p : OpenPanel} (h : s.Leaving m) (hp : s.OpenAt m p) (hm : m.body = .missfold) :
    s.account = { s with stand.panel := some { p with reasons := { p.reasons with missfold := true } }, web.outlet := [] } := by
  refine h.account_open (v := { s with stand.panel := some { p with reasons := { p.reasons with missfold := true } } }) ?_ rfl
    fun q hq => ?_
  · rw [State.handOff, hm]
    exact hp.flagged _
  · cases hq
    exact hp.ahead

/-- A SPLICE mark inside an open panel flags it, and its position is held (R152, log 14). -/
theorem State.Leaving.account_splice {s : State} {m : Mark} {p : OpenPanel} {roll : Byte} (h : s.Leaving m) (hp : s.OpenAt m p)
    (hm : m.body = .splice roll) : s.account = { s with
      stand.panel := some { p with reasons := { p.reasons with splice := true } }
      stand.splicesLeft := (s.recentSplices.filter fun q => q != m.pos) ++ [m.pos]
      web.outlet := [] } := by
  refine h.account_open (v := { s with
      stand.panel := some { p with reasons := { p.reasons with splice := true } }
      stand.splicesLeft := (s.recentSplices.filter fun q => q != m.pos) ++ [m.pos] }) ?_ rfl fun q hq => ?_
  · rw [State.handOff, hm]
    dsimp only
    rw [hp.flagged]
    rfl
  · cases hq
    exact hp.ahead

/-- An UNDERSET mark inside an open panel flags the panels its extent overlaps and raises the reach (R152). -/
theorem State.Leaving.account_underset {s : State} {m : Mark} {p : OpenPanel} {extent : BitVec 16} (h : s.Leaving m) (hp : s.OpenAt m p)
    (hm : m.body = .underset extent) : s.account = { s with
      stand.panel := some
        (if beyond (m.pos + toPos extent.toNat) p.start = true then { p with reasons := { p.reasons with underset := true } } else p)
      stand.verdicts := s.stand.verdicts.map fun c => c.undersetBy m.pos extent.toNat
      stand.reach := raiseReach s.stand.reach (m.pos + toPos extent.toNat)
      web.outlet := [] } := by
  have hflag : p.undersetBy s.outletLength m.pos extent.toNat =
      if beyond (m.pos + toPos extent.toNat) p.start = true then { p with reasons := { p.reasons with underset := true } } else p := by
    rw [OpenPanel.undersetBy]
    simp only [hp.inside, or_true, true_and]
  rw [← hflag]
  refine h.account_open (v := { s with
      stand.panel := some (p.undersetBy s.outletLength m.pos extent.toNat)
      stand.verdicts := s.stand.verdicts.map fun c => c.undersetBy m.pos extent.toNat
      stand.reach := raiseReach s.stand.reach (m.pos + toPos extent.toNat) }) ?_ rfl fun q hq => ?_
  · rw [State.handOff, hm]
    dsimp only
    rw [hp.unfull, State.undersetMark, hp.panel]
    rfl
  · have hend : q.lengthEnd = p.lengthEnd := by
      rw [← Option.some.inj hq, hflag]
      split <;> rfl
    rw [hend]
    exact hp.ahead

/-- A PANEL mark that leaves with no panel open opens one, flagged by the reach and by the splices that have left (R151, R152). -/
theorem State.Leaving.account_opens {s : State} {m : Mark} {number : BitVec 16} (h : s.Leaving m) (hp : s.stand.panel = none)
    (hm : m.body = .panel number) (ahead : atOrBeyond s.web.o (m.pos + toPos s.outletLength) = false) : ∃ roll,
      s.account = { s with
        stand.panel := some
          { number := number, start := m.pos, lengthEnd := m.pos + toPos s.outletLength, roll := roll
            reasons :=
              { underset := (s.stand.reach.map fun r => before m.pos r).getD false, splice := decide (m.pos ∈ s.stand.splicesLeft) } }
        stand.splicesLeft := s.recentSplices
        web.outlet := [] } := by
  have hcut : s.transferCut = s := by
    unfold State.transferCut
    split
    · rfl
    · rw [h.unready]
  have hclose : s.closePanel m.pos id = s := by rw [State.closePanel, hp]
  obtain ⟨roll, -, hopened⟩ := openPanelAt_stand s m.pos number
  refine ⟨roll, h.account_open (v := s.openPanelAt m.pos number) ?_ (by rw [hopened]) (fun q hq => ?_) |>.trans (by rw [hopened])⟩
  · rw [State.handOff, hm]
    dsimp only
    rw [closeIfFull_none (fullBy_closed hp _), hclose, hcut]
  · rw [hopened] at hq
    cases hq
    exact ahead

/-! ## The splices held -/

theorem flagPanel_frame (s : State) (p : Pos) (flag : Reasons → Reasons) :
    (s.flagPanel p flag).stand.uncounted = s.stand.uncounted ∧ (s.flagPanel p flag).web = s.web := by
  unfold State.flagPanel
  split
  · exact ⟨rfl, rfl⟩
  · split <;> exact ⟨rfl, rfl⟩

theorem endPanel_uncounted (s : State) (limit : Pos) : (s.endPanel limit).stand.uncounted = s.stand.uncounted := by
  unfold State.endPanel
  split
  · exact closeIfFull_uncounted s limit
  · rfl

/-- A SPLICE mark that leaves is held, and so are those that have left and that O is at or beyond (log 14). -/
theorem State.Leaving.splices_held {s : State} {m : Mark} {roll : Byte} (h : s.Leaving m) (hm : m.body = .splice roll) :
    m.pos ∈ s.account.stand.splicesLeft
      ∧ ∀ q ∈ s.stand.splicesLeft, atOrBeyond s.web.o q = true → q ∈ s.account.stand.splicesLeft := by
  obtain ⟨hflag, hweb⟩ := flagPanel_frame (s.closeIfFull m.pos) m.pos fun r => { r with splice := true }
  have hfull := closeIfFull_uncounted s m.pos
  have hcalm := calm_of_kept (closeIfFull_kept s m.pos)
  have hhand : s.handOff m = ((s.closeIfFull m.pos).flagPanel m.pos fun r => { r with splice := true }).noteSplice m.pos := by
    rw [State.handOff, hm]
  have hend := endPanel_uncounted ({ s.handOff m with web.outlet := [] } : State) s.web.o
  rw [← h.account_eq, hhand] at hend
  have hsplices : s.account.stand.splicesLeft = _ := (congrArg Stand.splicesLeft hend :)
  have hkept := (congrArg Stand.splicesLeft (hflag.trans hfull) :)
  have ho := (congrArg Web.o (hweb.trans (congrArg Calm.web hcalm)) :)
  generalize (s.closeIfFull m.pos).flagPanel m.pos (fun r => { r with splice := true }) = v at hsplices hkept ho
  have hleft : s.account.stand.splicesLeft =
      ((v.stand.splicesLeft.filter fun q => atOrBeyond v.web.o q).filter fun q => q != m.pos) ++ [m.pos] :=
    hsplices
  have hkept' : v.stand.splicesLeft = s.stand.splicesLeft := hkept
  rw [hleft, hkept', ho]
  refine ⟨List.mem_append_right _ (List.mem_singleton_self _), fun q hq hat => ?_⟩
  by_cases he : q = m.pos
  · exact List.mem_append_right _ (List.mem_singleton.mpr he)
  · exact List.mem_append_left _ (List.mem_filter.mpr ⟨List.mem_filter.mpr ⟨hq, hat⟩, by simpa using he⟩)

/-! ## The pulse at which a mark leaves -/

/-- With no verdict due, giving the verdicts due changes nothing. -/
theorem judgeDue_undue {s : State} (h : ∀ c ∈ s.stand.verdicts, s.verdictDue c = false) : s.judgeDue = s := by
  have hdue : s.stand.verdicts.filter s.verdictDue = [] := List.filter_eq_nil_iff.mpr fun c hc => by rw [h c hc]; exact Bool.noConfusion
  have hrest : (s.stand.verdicts.filter fun c => !s.verdictDue c) = s.stand.verdicts :=
    List.filter_eq_self.mpr fun c hc => by rw [h c hc]; rfl
  rw [State.judgeDue, hdue, hrest]
  rfl

/-- While the effective rate is not 0, a settling gives the verdicts due and arms alone (R148, R153). -/
theorem settle_unarmed_of_moving {s : State} (hk : s.KnifeObeys) (h : 0 < s.rate.effective) :
    s.settle.stand.unarmed = s.judgeDue.stand.unarmed := by
  have hdenied : s.RestDenied := .inr (.inr (.inr (.inl h)))
  rw [settle_of_obeys hk, consequences_uncut hdenied.joined.restCut, transferArm_unarmed]

/-- Such a pulse completes as its accounting left the stand, but for arming; with no verdict due it leaves the panels as well. -/
theorem State.QuietPulse.completes_account {s : State} (h : s.QuietPulse) (hu : s.sets.box.zoneCount = 0 ∨ s.dwell.cells = []) :
    ∃ v : State, v.ledger = s.rolled.ledger ∧ Completes .continuousPulse s fun t =>
      t.web = v.account.web ∧ t.stand.splicesLeft = v.account.stand.splicesLeft
        ∧ ((∀ c ∈ v.account.stand.verdicts, atOrBeyond (s.web.o + 1) (c.stop + toPos s.verdictWait) = false) →
            t.stand.unarmed = v.account.stand.unarmed) := by
  obtain ⟨v, u, hexec, hrolled, hledger, hidle, hmoving⟩ := h.completes hu
  obtain ⟨vsets, vo, -⟩ := rolled_fields hrolled
  have ustand : u.stand = v.account.stand := (congrArg State.stand hledger :)
  have uweb : u.web = v.account.web := (congrArg State.web hledger :)
  have usets : u.sets = s.sets := (congrArg State.sets hledger :).trans ((sets_of_still (account_still v)).trans vsets)
  have uo : u.web.o = s.web.o + 1 := (congrArg Web.o uweb).trans ((congrArg Steady.o (account_steady v) :).trans vo)
  have uobeys := obeys_of_idle hidle
  have tstand := settle_unarmed_of_moving uobeys hmoving
  have tweb := congrArg Calm.web (settle_calm_of_obeys uobeys)
  have usplices : u.judgeDue.stand.splicesLeft = u.stand.splicesLeft := (congrArg Stand.splicesLeft (judgeDue_uncounted u) :)
  refine ⟨v, hrolled, u.settle, hexec, ?_⟩
  generalize u.settle = t at tstand tweb ⊢
  have tsplices : t.stand.splicesLeft = u.judgeDue.stand.splicesLeft := (congrArg Stand.splicesLeft tstand :)
  refine ⟨tweb.trans uweb, tsplices.trans (by rw [usplices, ustand]), fun hundue => ?_⟩
  have hwait : u.verdictDue = fun c => atOrBeyond (s.web.o + 1) (c.stop + toPos s.verdictWait) := by
    funext c
    simp only [State.verdictDue, State.verdictWait, uo, usets]
  rw [tstand, judgeDue_undue (by rw [ustand, hwait]; exact hundue), ustand]

/-- The rolled state of a pulse at which one mark may leave. -/
theorem State.QuietPulse.rolled_leaving {s v : State} {m : Mark} (h : s.QuietPulse) (hv : v.ledger = s.rolled.ledger)
    (hsynced : s.stand.inState .synced = none) (ho : s.web.outlet = [m]) (hm : atOrBeyond (s.web.o + 1) m.pos = true) : v.Leaving m := by
  obtain ⟨vsets, vo, voutlet, -, -, -, x, y, vstand⟩ := rolled_fields hv
  exact ⟨by rw [vsets]; exact h.kind, by rw [vstand]; exact hsynced, voutlet.trans ho, by rw [vo]; exact hm⟩

theorem rolled_openAt {s v : State} {m : Mark} {p : OpenPanel} (hv : v.ledger = s.rolled.ledger) (hp : s.stand.panel = some p)
    (hin : before m.pos p.lengthEnd = true) (hahead : atOrBeyond (s.web.o + 1) p.lengthEnd = false) : v.OpenAt m p := by
  obtain ⟨-, vo, -, -, -, -, x, y, vstand⟩ := rolled_fields hv
  exact ⟨by rw [vstand]; exact hp, hin, by rw [vo]; exact hahead⟩

theorem undersetBy_eq (c : ClosedPanel) (p : Pos) (extent : Nat) : c.undersetBy p extent =
    if before p c.stop = true ∧ beyond (p + toPos extent) c.start = true then { c with reasons := { c.reasons with underset := true } }
    else c := by simp only [ClosedPanel.undersetBy, overlaps, Bool.and_eq_true]

theorem undersetBy_stop (c : ClosedPanel) (p : Pos) (extent : Nat) : (c.undersetBy p extent).stop = c.stop := by
  rw [undersetBy_eq]
  split <;> rfl

theorem raiseReach_eq (reach : Option Pos) (p : Pos) :
    raiseReach reach p = some (match reach with | none => p | some r => if beyond p r = true then p else r) := by
  cases reach with
  | none => rfl
  | some r =>
    show (if beyond p r = true then some p else some r) = some (if beyond p r = true then p else r)
    split <;> rfl

/-- Settles O52: the accounting of the pulse makes the cut, or its one mark sets its flags, and the settling leaves both; the cut at rest is
made by the settling of the rest timer's expiry. -/
theorem rewindCutsAndFlags : Obligations.RewindCutsAndFlags := by
  refine ⟨fun w s hkind hrole hpn hbound hz hr hv hlog hclear hw => ⟨?_, ?_⟩, ?_⟩
  · intro hmode hbegun hcad heffective hidle hbay hspan hexpect hsynced hopen
    have pulse : s.QuietPulse := ⟨hmode, hbegun, hcad, heffective, hidle, ⟨hbay, hspan, hexpect⟩, hkind⟩
    have hready := fun v hrolled => pulse.rolled_cutReady (v := v) hz hr hv hlog hw hsynced hopen hrolled
    refine ⟨fun m number ho hm hpos hshort hreach hsplice => ?_, fun ho hmax => ?_⟩
    · refine (pulse.transfers hz hclear hrole hpn hbound hready ho hm hpos hshort hreach hsplice).imp fun t ht => ?_
      obtain ⟨⟨hcut, hends⟩, hwound, houtlet, hpanel⟩ := ht
      exact ⟨hcut, hends, hwound, houtlet, hpanel⟩
    · refine (pulse.cuts_maximum hz hready ho hmax).imp fun t ht => ?_
      obtain ⟨⟨hcut, hends⟩, hpanel⟩ := ht
      exact ⟨hcut, hends, hpanel⟩
  · intro due hdue hhold hactive heffective hy hopen
    have hcut : (s.rested due).RestCut w := ⟨hkind, hhold, hactive, hclear, rfl, heffective, hw, hy⟩
    refine (restTimerExpiry_cuts hdue hcut hv hz hr hlog hopen).imp fun t ht => ?_
    obtain ⟨⟨hcut, hends⟩, hpanel⟩ := ht
    exact ⟨hcut, hends, hpanel⟩
  · intro m s hmode hbegun hcad heffective hidle hbay hspan hexpect hkind hrole hpn hbound hsynced hzones hundue ho held
    have pulse : s.QuietPulse := ⟨hmode, hbegun, hcad, heffective, hidle, ⟨hbay, hspan, hexpect⟩, hkind⟩
    obtain ⟨v, hrolled, t, hexec, tweb, tsplices, tstand⟩ := pulse.completes_account (hzones.imp_right And.left)
    obtain ⟨vsets, vo, voutlet, vpn, -, -, x, y, vstand⟩ := rolled_fields hrolled
    have hverdicts : v.stand.verdicts = s.stand.verdicts := by rw [vstand]
    have hsplices : v.stand.splicesLeft = s.stand.splicesLeft := by rw [vstand]
    refine ⟨fun p hp hat hin hahead => ?_, fun roll hm hat => ?_, fun number hp hm hat hahead => ?_⟩
    · have hleaves := pulse.rolled_leaving hrolled hsynced ho hat
      have hopen := rolled_openAt hrolled hp hin hahead
      refine ⟨fun hm => ⟨t, hexec, ?_⟩, fun roll hm => ⟨t, hexec, ?_⟩, fun extent hm => ⟨t, hexec, ?_⟩⟩
      · rw [hleaves.account_missfold hopen hm] at tweb tstand
        have hstand := tstand (by rw [← hverdicts] at hundue; exact hundue)
        exact ⟨congrArg Web.outlet tweb, (congrArg Stand.panel hstand :)⟩
      · rw [hleaves.account_splice hopen hm] at tweb tstand
        have hstand := tstand (by rw [← hverdicts] at hundue; exact hundue)
        exact ⟨congrArg Web.outlet tweb, (congrArg Stand.panel hstand :)⟩
      · rw [hleaves.account_underset hopen hm] at tweb tstand
        have hstand := tstand fun c hc => by
          obtain ⟨d, hd, rfl⟩ := List.mem_map.mp hc
          rw [undersetBy_stop]
          exact hundue d (hverdicts ▸ hd)
        refine ⟨congrArg Web.outlet tweb, (congrArg Stand.panel hstand :), (congrArg Stand.verdicts hstand :).trans ?_,
          (congrArg Stand.reach hstand :).trans ?_⟩
        · rw [hverdicts]
          exact List.map_congr_left fun c _ => undersetBy_eq c _ _
        · rw [raiseReach_eq, vstand]
          rfl
    · have hleaves := pulse.rolled_leaving hrolled hsynced ho hat
      have hheld := hleaves.splices_held hm
      rw [vo, hsplices, ← tsplices] at hheld
      exact ⟨t, hexec, hheld⟩
    · have hleaves := pulse.rolled_leaving hrolled hsynced ho hat
      have hlength : v.outletLength = s.web.pn := by rw [outletLength_of_none (by rw [vsets]; exact hrole), vpn]
      obtain ⟨roll, hopens⟩ := hleaves.account_opens (by rw [vstand]; exact hp) hm (by rw [vo, hlength]; exact hahead)
      rw [hopens] at tweb tsplices tstand
      have hstand := tstand (by rw [← hverdicts] at hundue; exact hundue)
      have hpanel : t.stand.panel = some _ := (congrArg Stand.panel hstand :)
      refine ⟨t, hexec, congrArg Web.outlet tweb, fun q hq hat => ?_, by rw [hpanel]; rfl, ?_⟩
      · have hleft : t.stand.splicesLeft = v.stand.splicesLeft.filter fun q => atOrBeyond v.web.o q := tsplices
        rw [hleft, hsplices, vo]
        exact List.mem_filter.mpr ⟨hq, hat⟩
      · rw [hpanel, Option.map_some, vstand]

end Sys2Proof.Machine
end

section
namespace Sys2Proof.Machine

/-! # The stand of a station that is no rewind -/

/-! ## What leaves it alone -/

theorem raiseFault_stand (s : State) (f : StationFault) : (s.raiseFault f).stand = s.stand := by
  have enter : ∀ t : State, (t.enterFault f).stand = t.stand := fun t => by
    unfold State.enterFault State.handStopResume
    have hlatch := (setLatch_rest { t with port.state := .fault, port.fault := some { first := f, further := false } }
      { origin := .fault, reason := f.code }).2.2.2.1
    split <;> exact hlatch
  unfold State.raiseFault
  split
  · rfl
  · exact enter _
  · exact enter _
  · rfl
  · rfl

theorem handMark_stand (s : State) (p : MarkPayload) : (s.handMark p).stand = s.stand := by
  unfold State.handMark
  split
  · rfl
  · split
    · exact raiseFault_stand s _
    · rfl

theorem insertOutlet_stand (s : State) (m : Mark) : (s.insertOutlet m).stand = s.stand := by
  unfold State.insertOutlet
  split
  · exact raiseFault_stand s _
  · rfl

/-- At a station that is no rewind a mark that leaves is discarded (R90). -/
theorem leaveFrom_stand (limit : Pos) (ms : List Mark) : ∀ s : State, s.sets.line.standKind ≠ .rewind →
    (s.leaveFrom limit ms).stand = s.stand ∧ (s.leaveFrom limit ms).sets = s.sets := by
  induction ms with
  | nil => exact fun s _ => ⟨rfl, rfl⟩
  | cons m ms ih =>
    intro s hk
    have hdiscard : s.markLeaves m = s := if_neg hk
    unfold State.leaveFrom
    split
    · rw [hdiscard]
      exact ih s hk
    · exact ⟨rfl, rfl⟩

theorem sweepTo_stand {s : State} (hk : s.sets.line.standKind ≠ .rewind) (limit : Pos) : (s.sweepTo limit).stand = s.stand := by
  obtain ⟨hstand, hsets⟩ := leaveFrom_stand limit s.web.outlet s hk
  have hend : s.sweepTo limit = s.leaveFrom limit s.web.outlet := if_neg (by rw [hsets]; exact hk)
  rw [hend, hstand]

/-- At a station that is no rewind the accounting is a sweep (R147, R151). -/
theorem account_stand {s : State} (hk : s.sets.line.standKind ≠ .rewind) : s.account.stand = s.stand := by
  have hcut : s.maximumCut = none := if_pos hk
  rw [State.account, hcut]
  exact sweepTo_stand hk _

/-- An announcement counts a paste at an unwind and moves nothing else of the stand (R88, R143). -/
theorem announce_stand {s : State} (hk : s.sets.line.standKind ≠ .rewind) (m : Mark) :
    (s.announce m).stand = { s.stand with pastes := pastesAfter s.sets.line.standKind s.stand.pastes m.body } := by
  have entered : ∀ t : State, t.sets = s.sets → (t.insertOutlet m).outletSweep.stand = t.stand := fun t ht => by
    rw [State.outletSweep, sweepTo_stand (by rw [sets_of_still (insertOutlet_still t m), ht]; exact hk), insertOutlet_stand]
  unfold State.announce
  dsimp only
  split
  · exact entered _ rfl
  · exact (entered _ (congrArg Still.sets (handMark_still (s.countAnnounced m) _) :)).trans (handMark_stand _ _)

/-! ## What moves its paste count -/

/-- A stand but for its paste count, which alone an announcement moves at a station that is no rewind (R143). -/
def Stand.unpasted (t : Stand) : Stand := { t with pastes := 0 }

/-- From `s` to `t` the sets stand, and at a station that is no rewind the stand has moved in its paste count alone. -/
def PasteOnly (s t : State) : Prop :=
  s.sets.line.standKind ≠ .rewind → t.sets = s.sets ∧ t.stand.unpasted = s.stand.unpasted

namespace PasteOnly

theorem of_eq {s t : State} (hsets : t.sets = s.sets) (hstand : t.stand = s.stand) : PasteOnly s t :=
  fun _ => ⟨hsets, congrArg Stand.unpasted hstand⟩

theorem trans {s t u : State} (h : PasteOnly s t) (g : PasteOnly t u) : PasteOnly s u := fun hk => by
  obtain ⟨hsets, hstand⟩ := h hk
  obtain ⟨gsets, gstand⟩ := g (by rw [hsets]; exact hk)
  exact ⟨gsets.trans hsets, gstand.trans hstand⟩

/-- A relation from a state that differs in neither the sets nor the stand. -/
theorem start {s t u : State} (h : PasteOnly t u) (hsets : t.sets = s.sets) (hstand : t.stand = s.stand) : PasteOnly s u :=
  (of_eq hsets hstand).trans h

theorem raiseFault (s : State) (f : StationFault) : PasteOnly s (s.raiseFault f) :=
  of_eq (sets_of_still (raiseFault_still s f)) (raiseFault_stand s f)

theorem account (s : State) : PasteOnly s s.account := fun hk =>
  ⟨sets_of_still (account_still s), congrArg Stand.unpasted (account_stand hk)⟩

theorem announce (s : State) (m : Mark) : PasteOnly s (s.announce m) := fun hk =>
  ⟨sets_of_still (announce_still s m), (congrArg Stand.unpasted (announce_stand hk m) :)⟩

theorem announceOwn (s : State) (body : MarkBody) (p : Pos) : PasteOnly s (s.announceOwn body p) := announce s _

theorem announceCrossed (s : State) (m : Mark) (p : Pos) : PasteOnly s (s.announceCrossed m p) := announce s _

/-! ## The Dwell Table and the credit -/

theorem closeRange (s : State) : PasteOnly s s.closeRange := by
  unfold State.closeRange
  split
  · exact of_eq rfl rfl
  · rename_i r _
    exact (announceOwn s (.underset (BitVec.ofNat 16 r.extent)) r.start).trans (of_eq rfl rfl)

theorem undersetCell (s : State) (p : Pos) : PasteOnly s (s.undersetCell p) := by
  unfold State.undersetCell
  split
  · exact of_eq rfl rfl
  · split
    · exact of_eq rfl rfl
    · exact (closeRange s).trans (of_eq rfl rfl)

theorem exitCell (s : State) (c : DwellCell) : PasteOnly s (s.exitCell c) := by
  unfold State.exitCell
  dsimp only
  split
  · exact start (closeRange _) rfl rfl
  · exact start (undersetCell _ _) rfl rfl

theorem exitFrom (cs : List DwellCell) : ∀ s : State, PasteOnly s (s.exitFrom cs) := by
  induction cs with
  | nil => exact fun s => of_eq rfl rfl
  | cons c cs ih =>
    intro s
    unfold State.exitFrom
    split
    · exact (exitCell s c).trans (ih _)
    · exact of_eq rfl rfl

theorem dwellAdvance (s : State) : PasteOnly s s.dwellAdvance := (exitFrom _ s).trans (of_eq rfl rfl)

/-- Only a rewind winds (R147). -/
theorem advanceOutlet (s : State) (n : Nat) : PasteOnly s (s.advanceOutlet n) := fun hk => by
  unfold State.advanceOutlet State.wind
  split
  · rename_i hkind _
    exact absurd hkind hk
  · exact ⟨rfl, rfl⟩

theorem creditFrom (ok : Pos) (es : List BayEntry) : ∀ (kept : List BayEntry) (s : State), PasteOnly s (s.creditFrom ok kept es) := by
  induction es with
  | nil => exact fun kept s => of_eq rfl rfl
  | cons e es ih =>
    intro kept s
    unfold State.creditFrom
    split
    · exact (announceCrossed s _ _).trans (ih _ _)
    · exact ih _ s

theorem afterAdvance {f : State → State} (hf : ∀ t : State, PasteOnly t (f t)) (s : State) : PasteOnly s (s.afterAdvance f) := by
  have accounts : ∀ t : State, PasteOnly t t.dwellAdvance.account := fun t => (dwellAdvance t).trans (account _)
  unfold State.afterAdvance eitherOrder
  split
  · exact (account s).trans (hf _)
  · split
    · exact start ((accounts s.chosen).trans (hf _)) rfl rfl
    · exact start ((hf s.chosen).trans (accounts _)) rfl rfl

theorem creditFold (s : State) (w : Nat) : PasteOnly s (s.creditFold w) :=
  (start (advanceOutlet { s with web.seg := s.web.seg.credit } w) rfl rfl).trans (afterAdvance (fun t => creditFrom _ _ _ t) _)

theorem enterAborting (s : State) : PasteOnly s s.enterAborting := by
  unfold State.enterAborting
  dsimp only
  split
  · exact of_eq rfl rfl
  · refine PasteOnly.trans ?_ (announceOwn _ _ _)
    exact start (creditFold _ _) rfl rfl

theorem knifeSettle (s : State) : PasteOnly s s.knifeSettle := by
  unfold State.knifeSettle
  split
  · split
    · exact enterAborting s
    all_goals exact of_eq rfl rfl
  · exact of_eq rfl rfl

/-! ## The bay queue -/

theorem spliceKnown (s : State) (p : Pos) : PasteOnly s (s.spliceKnown p) := by
  rw [spliceKnown_eq]
  exact of_eq rfl rfl

theorem reportCrossing (s : State) (m : Mark) : PasteOnly s (s.reportCrossing m) := by
  unfold State.reportCrossing
  split
  · exact start (spliceKnown _ _) rfl rfl
  · unfold State.followerPanelMark
    split <;> exact of_eq rfl rfl
  · unfold State.followerAbortMark
    split <;> exact of_eq rfl rfl
  · exact of_eq rfl rfl

theorem crossOne (s : State) (e : BayEntry) : PasteOnly s (s.crossOne e).1 := by
  unfold State.crossOne
  split
  · exact of_eq rfl rfl
  · dsimp only
    split
    · rename_i ok _
      dsimp only
      exact (reportCrossing s e.mark).trans (announceCrossed (s.reportCrossing e.mark) e.mark ok)
    · exact reportCrossing s e.mark

theorem crossFrom (es : List BayEntry) : ∀ (kept : List BayEntry) (s : State), PasteOnly s (s.crossFrom kept es) := by
  induction es with
  | nil => exact fun kept s => of_eq rfl rfl
  | cons e es ih =>
    intro kept s
    have hone := crossOne s e
    unfold State.crossFrom
    split
    · exact ih _ s
    · split
      · split
        · rename_i hx
          rw [hx] at hone
          exact hone.trans (ih _ _)
        · rename_i hx
          rw [hx] at hone
          exact hone.trans (ih _ _)
      · exact of_eq rfl rfl

theorem enterBay (s : State) (m : Mark) : PasteOnly s (s.enterBay m) := by
  unfold State.enterBay
  split
  · exact raiseFault s _
  · dsimp only
    refine PasteOnly.trans ?_ (crossFrom _ _ _)
    split
    · exact start (spliceKnown _ _) rfl rfl
    · exact of_eq rfl rfl

theorem placeSplice (s : State) (j : Pos) (roll : Byte) : PasteOnly s (s.placeSplice j roll) := by
  unfold State.placeSplice
  split
  · exact announceOwn s _ _
  · refine PasteOnly.trans ?_ (enterBay _ _)
    exact start (spliceKnown _ _) rfl rfl
  · exact enterBay s _

end PasteOnly

/-- A settling with no panel to judge moves the paste count of such a station's stand alone: an abort may announce a SPLICE (R47, R87). -/
theorem settle_unpasted {s : State} (hkind : s.sets.line.standKind ≠ .rewind) (hv : s.stand.verdicts = []) :
    s.settle.stand.unpasted = s.stand.unpasted := by
  obtain ⟨hsets, hstand⟩ := PasteOnly.knifeSettle s hkind
  have hverdicts : s.knifeSettle.stand.verdicts = s.stand.verdicts := (congrArg Stand.verdicts hstand :)
  rw [State.settle, consequences_stand (hverdicts.trans hv) (by rw [hsets]; exact hkind), hstand]

/-! # The paste (R143) -/

theorem exec_paste_waits {s : State} (h : s.sets.line.standKind ≠ .unwind ∨ s.stand.inState .synced = none ∨ s.stand.pasteDue.isSome = true
    ∨ s.sets.stand.cap < s.rate.effective ∨ s.port.state ≠ .active ∨ s.rate.latch = true) : exec .paste s = .next s := by
  have hnone : s.pasteDueNow = none := by
    unfold State.pasteDueNow
    split
    · rename_i hc
      obtain ⟨hkind, hdue, hcap, hactive, hclear⟩ := hc
      rcases h with h | h | h | h | h | h
      · exact absurd hkind h
      · exact h
      · rw [hdue] at h
        exact Bool.noConfusion h
      · omega
      · exact absurd hactive h
      · exact Bool.noConfusion (hclear.symm.trans h)
    · rfl
  show execPaste s = _
  rw [execPaste, hnone]

theorem exec_paste {s : State} {id : SpindleId} (hkind : s.sets.line.standKind = .unwind) (hsynced : s.stand.inState .synced = some id)
    (hdue : s.stand.pasteDue = none) (hcap : s.rate.effective ≤ s.sets.stand.cap) (hactive : s.port.state = .active)
    (hclear : s.rate.latch = false) : exec .paste s = .next (s.pasteNow id).settle := by
  show execPaste s = _
  rw [execPaste, State.pasteDueNow, if_pos ⟨hkind, hdue, hcap, hactive, hclear⟩, hsynced]

/-- A state with the joint and the paste timer of a paste. -/
def State.jointed (s : State) : State :=
  { s with stand.joint := s.web.i + toPos s.sets.stand.dP, stand.pasteDue := some (s.now + 1000 * s.sets.stand.tPaste) }

theorem pasteNow_eq (s : State) (id : SpindleId) :
    s.pasteNow id = s.jointed.placeSplice (s.web.i + toPos s.sets.stand.dP) (s.stand.spindle id).roll := rfl

theorem placeSplice_pace (s : State) (j : Pos) (roll : Byte) : (s.placeSplice j roll).pace = s.pace := by
  unfold State.placeSplice
  split
  · exact announceOwn_pace s _ _
  · rw [enterBay_pace, spliceKnown_pace]
    rfl
  · exact enterBay_pace s _

/-- A settling that finds no tuck leaves O (R47). -/
theorem settle_o {s : State} (h : s.knife.phase ≠ .tuck) : s.settle.web.o = s.web.o := by
  have hc := settle_calm (s := s) fun _ => h
  generalize s.settle = t at hc ⊢
  exact congrArg (fun c => c.web.o) hc

/-- What a paste leaves at every role: the joint, its timer, the SYNCED spindle, I, O unless a tuck aborts, and the time (R143). -/
theorem pasteNow_settled {s : State} (id : SpindleId) (hkind : s.sets.line.standKind = .unwind) (hv : s.stand.verdicts = []) :
    let t := (s.pasteNow id).settle
    t.stand.unpasted = s.jointed.stand.unpasted ∧ t.web.i = s.web.i ∧ (s.knife.phase ≠ .tuck → t.web.o = s.web.o) ∧ t.now = s.now := by
  have hkind' : s.jointed.sets.line.standKind ≠ .rewind := fun c => StandKind.noConfusion (hkind.symm.trans c)
  obtain ⟨hsets, hstand⟩ := PasteOnly.placeSplice s.jointed (s.web.i + toPos s.sets.stand.dP) (s.stand.spindle id).roll hkind'
  have hpace := placeSplice_pace s.jointed (s.web.i + toPos s.sets.stand.dP) (s.stand.spindle id).roll
  rw [← pasteNow_eq] at hsets hstand hpace
  generalize s.pasteNow id = u at hsets hstand hpace ⊢
  have hverdicts : u.stand.verdicts = [] := (congrArg Stand.verdicts hstand :).trans hv
  have hphase : u.knife.phase = s.knife.phase := congrArg Pace.phase hpace
  obtain ⟨hi, hnow, -⟩ := settle_i u
  exact ⟨(settle_unpasted (by rw [hsets]; exact hkind') hverdicts).trans hstand, hi.trans (congrArg Pace.i hpace),
    fun ht => (settle_o (by rw [hphase]; exact ht)).trans (congrArg Pace.o hpace), hnow.trans (congrArg Pace.now hpace)⟩

/-- At role NONE the SPLICE mark of the paste is announced at once (R143). -/
theorem pasteNow_announces {s : State} (id : SpindleId) (hrole : s.sets.line.role = .none) (hkind : s.sets.line.standKind = .unwind)
    (hactive : s.port.state = .active) (hidle : s.knife.phase = .idle) (hv : s.stand.verdicts = []) :
    let joint := s.web.i + toPos s.sets.stand.dP
    let t := (s.pasteNow id).settle
    t.stand.pastes = satInc s.stand.pastes ∧ t.web.sent = s.web.sent + 1 ∧ t.web.bay = s.web.bay
      ∧ (s.ownId.val + 1 ≠ s.sets.line.n → s.link.marks.length < 6 → t.link.marks = s.link.marks ++
          [{ count := s.web.sent + 1, kind := 1, spare := false, origin := BitVec.ofNat 4 s.ownId.val
             position := joint + toPos s.sets.feed.b, value := 0, roll := (s.stand.spindle id).roll }]) := by
  intro joint
  have hkind' : s.jointed.sets.line.standKind ≠ .rewind := fun c => StandKind.noConfusion (hkind.symm.trans c)
  have hpaste : s.pasteNow id = s.jointed.announce
      { body := .splice (s.stand.spindle id).roll, origin := s.ownId, pos := joint + toPos s.sets.feed.b } := by
    rw [pasteNow_eq, State.placeSplice, show s.jointed.sets.line.role = .none from hrole]
    rfl
  generalize hm : ({ body := .splice (s.stand.spindle id).roll, origin := s.ownId, pos := joint + toPos s.sets.feed.b } : Mark) = m at hpaste
  have hstand := announce_stand hkind' m
  have hweb := (announce_counts s.jointed m).1
  have hmarks : s.ownId.val + 1 ≠ s.sets.line.n → s.link.marks.length < 6 →
      (s.jointed.announce m).link.marks = s.link.marks ++ [m.payload (s.web.sent + 1)] := fun hn hfree =>
    announce_marks (s := s.jointed) hfree hn (fun c => StationState.noConfusion (hactive.symm.trans c)) m
  have hphase : (s.jointed.announce m).knife.phase = .idle := (congrArg Pace.phase (announce_pace s.jointed m)).trans hidle
  have hsets := sets_of_still (announce_still s.jointed m)
  rw [hpaste]
  generalize s.jointed.announce m = u at hstand hweb hmarks hphase hsets ⊢
  have hverdicts : u.stand.verdicts = [] := by rw [hstand]; exact hv
  have tstand := settle_stand_of_obeys (obeys_of_idle hphase) hverdicts (by rw [hsets]; exact hkind')
  have tcalm := settle_calm_of_obeys (obeys_of_idle hphase)
  generalize u.settle = t at tstand tcalm ⊢
  dsimp only
  have tweb : t.web = u.web := congrArg Calm.web tcalm
  have tlink : t.link = u.link := congrArg Calm.link tcalm
  rw [tstand, tweb, tlink, hstand]
  refine ⟨?_, (congrArg Web.sent hweb :), (congrArg Web.bay hweb :), fun hn hfree => ?_⟩
  · rw [← hm]
    show pastesAfter s.sets.line.standKind s.stand.pastes _ = _
    rw [hkind]
    rfl
  · rw [hmarks hn hfree, ← hm]
    rfl

/-- A mark that enters an empty bay queue ahead of the knife line stays there (R84, R85). -/
theorem enterBay_waits {s : State} {m : Mark} (hb : s.web.bay = []) (h : atOrBeyond s.web.i (m.pos + toPos s.sets.feed.a) = false) :
    s.enterBay m = ({ s with web.bay := [{ mark := m, awaiting := false }] }).told m := by
  have hplaced : s.enterBay m = (({ s with web.bay := [{ mark := m, awaiting := false }] }).told m).crossings := by
    rw [State.enterBay, if_neg (by rw [hb]; decide), hb]
    rfl
  rw [hplaced, told_eq, State.crossings]
  show State.crossFrom _ [] [{ mark := m, awaiting := false }] = _
  rw [State.crossFrom, if_neg Bool.false_ne_true, if_neg]
  · rfl
  · show ¬atOrBeyond s.web.i (m.pos + toPos s.sets.feed.a) = true
    rw [h]
    exact Bool.false_ne_true

/-- A splice that becomes known leaves the held guard (R55). -/
theorem spliceKnown_held (s : State) (p : Pos) : (s.spliceKnown p).leader.held = s.leader.held := by
  unfold State.spliceKnown
  split
  · rfl
  · rfl
  · rfl
  · split
    · rfl
    · split <;> rfl
  · split <;> rfl

/-- At the other roles the SPLICE mark waits in the bay queue, and a LEADER holds its guard (R51, R143). -/
theorem pasteNow_waits {s : State} (id : SpindleId) (hrole : s.sets.line.role ≠ .none) (hb : s.web.bay = [])
    (h0 : 0 < s.sets.stand.dP + s.sets.feed.a) (h1 : s.sets.stand.dP + s.sets.feed.a < 2147483648) :
    ∃ leader, s.pasteNow id = { s.jointed with
        web.bay := [{ mark := { body := .splice (s.stand.spindle id).roll, origin := 0, pos := s.web.i + toPos s.sets.stand.dP }
                      awaiting := false }]
        leader := leader }
      ∧ (s.sets.line.role = .leader → leader.held = some (s.web.i + toPos s.sets.stand.dP))
      ∧ (s.sets.line.role = .follower → s.leader.state = .off → leader = s.leader) := by
  generalize hm : ({ body := .splice (s.stand.spindle id).roll, origin := 0, pos := s.web.i + toPos s.sets.stand.dP } : Mark) = m
  have hahead : atOrBeyond s.web.i (m.pos + toPos s.sets.feed.a) = false := by
    have hsum : m.pos + toPos s.sets.feed.a = s.web.i + toPos (s.sets.stand.dP + s.sets.feed.a) := by
      rw [← hm, toPos, toPos, toPos, BitVec.ofNat_add, BitVec.add_assoc]
    rw [hsum]
    exact atOrBeyond_ahead _ h0 h1
  have entered : ∀ l : Leader, ({ s.jointed with leader := l }).enterBay m =
      ({ s.jointed with web.bay := [{ mark := m, awaiting := false }], leader := l }).spliceKnown m.pos := fun l => by
    rw [enterBay_waits (s := { s.jointed with leader := l }) hb hahead]
    exact told_splice (roll := (s.stand.spindle id).roll) (by rw [← hm])
  rw [pasteNow_eq, State.placeSplice]
  cases hr : s.sets.line.role with
  | none => exact absurd hr hrole
  | leader =>
    have hknown := spliceKnown_eq { s.jointed with leader.held := some (s.web.i + toPos s.sets.stand.dP) }
      (s.web.i + toPos s.sets.stand.dP)
    have hheld := spliceKnown_held { s.jointed with leader.held := some (s.web.i + toPos s.sets.stand.dP) }
      (s.web.i + toPos s.sets.stand.dP)
    rw [show s.jointed.sets.line.role = .leader from hr]
    dsimp only
    rw [hm, hknown]
    generalize (State.spliceKnown _ _).leader = l at hheld ⊢
    refine ⟨_, (entered l).trans (spliceKnown_eq _ _), fun _ => (spliceKnown_held _ _).trans hheld, fun c => Role.noConfusion c⟩
  | follower =>
    rw [show s.jointed.sets.line.role = .follower from hr]
    dsimp only
    rw [hm]
    exact ⟨_, (entered s.leader).trans (spliceKnown_eq _ _), fun c => Role.noConfusion c,
      fun _ hoff => (congrArg State.leader (spliceKnown_unmoved
        (s := { s.jointed with web.bay := [{ mark := m, awaiting := false }], leader := s.leader }) (.inl hoff) m.pos) :)⟩

/-- The settling leaves the mark that waits: the latch is clear (R143). -/
theorem pasteNow_queued {s : State} (id : SpindleId) (hkind : s.sets.line.standKind = .unwind) (hclear : s.rate.latch = false)
    (hv : s.stand.verdicts = []) (hrole : s.sets.line.role ≠ .none) (hb : s.web.bay = [])
    (h0 : 0 < s.sets.stand.dP + s.sets.feed.a) (h1 : s.sets.stand.dP + s.sets.feed.a < 2147483648) :
    let joint := s.web.i + toPos s.sets.stand.dP
    let t := (s.pasteNow id).settle
    t.web.bay = [{ mark := { body := .splice (s.stand.spindle id).roll, origin := 0, pos := joint }, awaiting := false }]
      ∧ t.stand.pastes = s.stand.pastes ∧ t.link.marks = s.link.marks ∧ (s.sets.line.role = .leader → t.leader.held = some joint)
      ∧ (s.sets.line.role = .follower → s.leader.state = .off → t.leader = s.leader) := by
  obtain ⟨leader, hpaste, hheld, hstays⟩ := pasteNow_waits id hrole hb h0 h1
  have hkind' : s.sets.line.standKind ≠ .rewind := fun c => StandKind.noConfusion (hkind.symm.trans c)
  generalize s.pasteNow id = u at hpaste ⊢
  have hclear' : u.rate.latch = false := by rw [hpaste]; exact hclear
  have tstand := settle_stand_of_obeys (clear_obeys hclear') (by rw [hpaste]; exact hv) (by rw [hpaste]; exact hkind')
  have tcalm := settle_calm_of_obeys (clear_obeys hclear')
  have tstill := settle_still u
  generalize u.settle = t at tstand tcalm tstill ⊢
  have tleader : t.leader = u.leader := congrArg Still.leader tstill
  rw [hpaste] at tstand tcalm tleader
  have tweb := congrArg Calm.web tcalm
  have tlink := congrArg Calm.link tcalm
  exact ⟨congrArg Web.bay tweb, (congrArg Stand.pastes tstand :), congrArg Link.marks tlink,
    fun h => (congrArg Leader.held tleader :).trans (hheld h), fun h hoff => tleader.trans (hstays h hoff)⟩

/-! # The pulse of a running unwind (R139, R146) -/

/-- The state in which a continuous pulse consumes: the pulse is counted and I has advanced (R21, R76). -/
def State.pulseCounted (s : State) : State := { s.continuousCounted with
  web.i := s.web.i + 1, web.restDue := if s.ownId.val = 0 then none else some (s.continuousCounted.now + 200000) }

/-- The stand whose running roll has been consumed by one more pulse. -/
def Stand.consumedOn (t : Stand) (id : SpindleId) : Stand :=
  t.setSpindle id { t.spindle id with consumed := min ((t.spindle id).consumed + 1) 4294967295 }

/-- Consuming counts the pulse on the running roll, and raises RUN_OUT where nothing remained of it (R139, R146). -/
theorem consume_unwind {s : State} {id : SpindleId} (hkind : s.sets.line.standKind = .unwind) (hid : s.stand.inState .running = some id) :
    s.consume = if (s.stand.spindle id).remaining = 0 then
        ({ s with stand := s.stand.consumedOn id } : State).raiseFault (.runOut id (s.stand.spindle id).roll)
      else { s with stand := s.stand.consumedOn id } := by
  rw [State.consume, hkind, hid]
  rfl

/-- At a station that is no rewind a pulse with nothing at the knife line leaves what its nip pulse has made of the stand, the knife, the
rate and the faults. -/
theorem flowPulse_stand {c : State} (hkind : c.nipPulse.sets.line.standKind ≠ .rewind) (hz : c.nipPulse.sets.box.zoneCount = 0)
    (hq : c.nipPulse.WebQuiet) :
    (c.flowPulse bridgeBoundary).stand = c.nipPulse.stand ∧ (c.flowPulse bridgeBoundary).knife = c.nipPulse.knife
      ∧ (c.flowPulse bridgeBoundary).sets = c.nipPulse.sets ∧ (c.flowPulse bridgeBoundary).rate = c.nipPulse.rate
      ∧ (c.flowPulse bridgeBoundary).port.state = c.nipPulse.port.state
      ∧ (c.flowPulse bridgeBoundary).port.fault = c.nipPulse.port.fault := by
  generalize hn : c.nipPulse = n at hkind hz hq ⊢
  have hr : ({ n with web.o := n.web.o + toPos 1 } : State).WebQuiet := ⟨hq.bay, hq.span, hq.expect⟩
  have hledger := (account_quiet hr).effects.1
  have hstand := account_stand (s := { n with web.o := n.web.o + toPos 1 }) hkind
  have hunswept := account_unswept { n with web.o := n.web.o + toPos 1 }
  have hpulse : c.flowPulse bridgeBoundary = (bridgeBoundary ({ n with web.o := n.web.o + toPos 1 } : State).account).nipEffects := by
    rw [State.flowPulse, hn, advanceOutlet_plain hkind]
    exact if_pos hz
  rw [hpulse]
  generalize ({ n with web.o := n.web.o + toPos 1 } : State).account = v at hledger hstand hunswept
  generalize (bridgeBoundary v).nipEffects = u at hledger
  have haside : v.aside = n.aside := congrArg Prod.fst hunswept
  have hknife : v.knife = n.knife := congrArg (fun x => x.2.2) hunswept
  have uport : u.port = v.port := (congrArg State.port hledger :)
  exact ⟨(congrArg State.stand hledger :).trans hstand, (congrArg State.knife hledger :).trans hknife,
    (congrArg State.sets hledger :).trans (congrArg Aside.sets haside), (congrArg State.rate hledger :).trans (congrArg Aside.rate haside),
    (congrArg Port.state uport).trans (congrArg Aside.state haside), (congrArg Port.fault uport).trans (congrArg Aside.fault haside)⟩

/-- What a continuous pulse at a running unwind leaves, in terms of the nip pulse that consumed the roll. -/
theorem continuousPulse_consumes {s : State} {id : SpindleId} (hmode : s.cad.mode = .continuous) (hbegun : s.cad.begun = true)
    (hpn : s.cad.pn ≠ 0) (heffective : 0 < s.rate.effective) (hidle : s.knife.phase = .idle) (hquiet : s.WebQuiet)
    (hz : s.sets.box.zoneCount = 0) (hkind : s.sets.line.standKind = .unwind) (hid : s.stand.inState .running = some id)
    (hv : s.stand.verdicts = []) :
    ∃ n u : State, exec .continuousPulse s = .next u.settle ∧ u.settle.stand = s.stand.consumedOn id ∧ u.KnifeObeys
      ∧ u.rate = n.rate ∧ u.port.state = n.port.state ∧ u.port.fault = n.port.fault
      ∧ n = if (s.stand.spindle id).remaining = 0 then
          ({ s.pulseCounted with stand := s.stand.consumedOn id } : State).raiseFault (.runOut id (s.stand.spindle id).roll)
        else { s.pulseCounted with stand := s.stand.consumedOn id } := by
  have hn : s.continuousCounted.nipPulse = _ := consume_unwind (s := s.pulseCounted) hkind hid
  have hstill := nipPulse_still s.continuousCounted
  have hphase : s.continuousCounted.nipPulse.knife.phase = s.knife.phase := congrArg Pace.phase (nipPulse_pace s.continuousCounted)
  have hsets : s.continuousCounted.nipPulse.sets = s.sets := congrArg Still.sets hstill
  have hstand : s.continuousCounted.nipPulse.stand = s.stand.consumedOn id := by
    rw [hn]
    split
    · exact raiseFault_stand _ _
    · rfl
  have hweb : s.continuousCounted.nipPulse.web.bay = s.web.bay := by
    rw [hn]
    split
    · rw [(raiseFault_web _ _).1]
      rfl
    · rfl
  have hkind' : s.sets.line.standKind ≠ .rewind := fun c => StandKind.noConfusion (hkind.symm.trans c)
  have hq : s.continuousCounted.nipPulse.WebQuiet :=
    ⟨hweb.trans hquiet.bay, (congrArg Still.span hstill :).trans hquiet.span, (congrArg (fun u => u.reg.expect) hstill :).trans hquiet.expect⟩
  obtain ⟨ustand, uknife, usets, urate, ustate, ufault⟩ := flowPulse_stand (c := s.continuousCounted) (by rw [hsets]; exact hkind')
    (by rw [hsets]; exact hz) hq
  have hexec := exec_continuousPulse hmode hbegun hpn heffective
  refine ⟨s.continuousCounted.nipPulse, s.continuousCounted.flowPulse bridgeBoundary, hexec, ?_, ?_, urate, ustate, ufault, hn⟩
  · have hverdicts : (s.stand.consumedOn id).verdicts = [] := by cases id <;> exact hv
    rw [settle_stand_of_obeys (obeys_of_idle (by rw [uknife, hphase, hidle])) (by rw [ustand, hstand]; exact hverdicts)
      (by rw [usets, hsets]; exact hkind'), ustand, hstand]
  · exact obeys_of_idle (by rw [uknife, hphase, hidle])

theorem remaining_eq_zero (x : Spindle) : x.remaining = 0 ↔ x.length ≤ x.consumed := Nat.sub_eq_zero_iff_le

/-- Settles O50: the paste by the role, its SPLICE mark announced or waiting, and the pulse by the length that remained. -/
theorem unwindPastesAndConsumes : Obligations.UnwindPastesAndConsumes := by
  refine ⟨fun s => ⟨exec_paste_waits, fun id hkind hsynced hdue hcap hactive hclear hv => ?_⟩,
    fun id s hmode hbegun hpn heffective hidle hbay hspan hexpect hz hkind hid hv => ?_⟩
  · refine ⟨_, exec_paste hkind hsynced hdue hcap hactive hclear, ?_⟩
    have hsettled := pasteNow_settled id hkind hv
    have hannounced := pasteNow_announces id (hkind := hkind) (hactive := hactive) (hv := hv)
    have hqueued := pasteNow_queued id hkind hclear hv
    generalize (s.pasteNow id).settle = t at hsettled hannounced hqueued ⊢
    obtain ⟨hstand, hi, ho, hnow⟩ := hsettled
    have hspindle : t.stand.spindle id = s.stand.spindle id := by
      cases id
      · exact (congrArg Stand.a hstand :)
      · exact (congrArg Stand.b hstand :)
    exact ⟨(congrArg Stand.joint hstand :), (congrArg Stand.pasteDue hstand :), hi, hspindle, ho, hnow, hannounced, hqueued⟩
  · obtain ⟨n, u, hexec, tstand, uobeys, urate, ustate, ufault, hn⟩ := continuousPulse_consumes hmode hbegun hpn heffective hidle
      ⟨hbay, hspan, hexpect⟩ hz hkind hid hv
    have tcalm := settle_calm_of_obeys uobeys
    have tfaulted := settle_faulted (s := u)
    refine ⟨u.settle, hexec, ?_⟩
    generalize u.settle = t at tstand tcalm tfaulted ⊢
    have tfault : t.port.fault = u.port.fault := congrArg Calm.fault tcalm
    have tlatch : t.rate.latch = u.rate.latch := congrArg Calm.latch tcalm
    refine ⟨?_, ?_, fun hleft => ?_, fun hleft hstate => ?_, fun hleft hstate hsome => ?_⟩
    · rw [tstand]
      exact (setSpindle_spindle _ _ _ _).trans (if_pos rfl)
    · rw [tstand]
      exact (setSpindle_spindle _ _ _ _).trans (if_neg (otherSpindle_ne id))
    · rw [if_neg (by rw [remaining_eq_zero]; omega)] at hn
      rw [tfault, tlatch, ufault, urate, hn]
      exact ⟨rfl, rfl⟩
    · rw [if_pos ((remaining_eq_zero _).mpr hleft)] at hn
      obtain ⟨nstate, nfault, nlatch, ncause, neffective, -⟩ := raiseFault_entry
        { s.pulseCounted with stand := s.stand.consumedOn id } (.runOut id (s.stand.spindle id).roll) hstate
      rw [← hn] at nstate nfault nlatch ncause neffective
      obtain ⟨hf, hl, he, hc, hfirst⟩ := tfaulted (ustate.trans nstate) (by rw [ufault, nfault]; rfl)
      rw [urate] at hl he hc
      rw [ufault, nfault] at hfirst
      exact ⟨hf, hl.trans nlatch, he.trans neffective, hc.trans ncause, hfirst⟩
    · rw [if_pos ((remaining_eq_zero _).mpr hleft)] at hn
      obtain ⟨ncalm, -⟩ := raiseFault_further (s := { s.pulseCounted with stand := s.stand.consumedOn id }) hstate
        (.runOut id (s.stand.spindle id).roll)
      rw [← hn] at ncalm
      obtain ⟨record, hrecord⟩ := Option.isSome_iff_exists.mp hsome
      have hnote : noteFault s.port.fault (.runOut id (s.stand.spindle id).roll) = s.port.fault.map fun r => { r with further := true } := by
        rw [hrecord]
        rfl
      rw [tfault, ufault]
      exact (congrArg Calm.fault ncalm).trans hnote

end Sys2Proof.Machine
end
